-- ==== Sys2Proof/Word.lean ====
section
/-! DEFINITION. The word types of the AS16: values the manual shifts, masks, wraps or sends as bits are bit vectors; counts and indexes are natural numbers. -/

namespace Sys2Proof

/-- A byte, as frames and link words carry it (chapter 11). -/
abbrev Byte := BitVec 8

/-- A label or name: its character codes (R3, R60, R127). -/
abbrev Text := List Byte

/-- A transport position, which a station reports modulo 65536 (3.3). -/
abbrev Pos := BitVec 16

/-- A grant tag, 0–255, which wraps from 255 to 0 (R30). -/
abbrev Tag := BitVec 8

/-- A delivery number, 0–4095, which wraps from 4095 to 0 (R147). -/
abbrev DelivNo := BitVec 12

/-- A 32-bit image check (11.1). -/
abbrev Check := BitVec 32

/-- A collection keyed by index, of which any part may be absent: directory entries, batch records, sheet slots.
Its one canonical form is strictly rising keys (`Tab.wf`). -/
abbrev Tab (α : Type) := List (Nat × α)

end Sys2Proof
end

