-- ==== Sys2Proof/Config.lean ====
section
/-! DEFINITION. The numbers the manual fixes: table sizes, fixed intervals, ranges and defaults. -/

namespace Sys2Proof.Config

/-- Batch records, handles 0–47 (R1). -/
def batchCount : Nat := 48
/-- Sheet slots 0–383 (R27). -/
def sheetCount : Nat := 384
/-- Directory entries 0–23 (R57). -/
def entryCount : Nat := 24
/-- Feed ports 0–15 (R49). -/
def portCount : Nat := 16
/-- Archive lanes 0–3 (R144). -/
def laneCount : Nat := 4
/-- Route plans 0–15 (R127). -/
def planCount : Nat := 16
/-- Class entries 0–63 (R107). -/
def classCount : Nat := 64
/-- Grant tags of one entry (R30). -/
def tagCount : Nat := 256
/-- Delivery numbers of one lane (R147). -/
def deliveryCount : Nat := 4096
/-- Sheets a path queue holds at most (R84). -/
def pathRoom : Nat := 4
/-- Blocks a lane FIFO holds (R137). -/
def fifoRoom : Nat := 64
/-- Bytes of image data in one BLOCK (11.3). -/
def blockBytes : Nat := 1024
/-- Active uploads at most (R132). -/
def uploadRoom : Nat := 4
/-- Pairs one READ_ATTENTION reply lists (R165). -/
def attentionPage : Nat := 32
/-- Records one LIST_SUSPECTS reply lists (R39). -/
def suspectPage : Nat := 64
/-- Highest sequence of a batch (R10). -/
def lastSequence : Nat := 65535
/-- Highest value of the misfeeds counter and of a lane's counters (R9, R151). -/
def counterTop : Nat := 65535

/-- Well-formed words that complete an alignment, on a port and on a lane (R49, R144). -/
def alignWords : Nat := 8
/-- Consecutive malformed words that lose a link (R50, R145). -/
def malformedWords : Nat := 8
/-- The query timer, in milliseconds (R49). -/
def queryMs : Nat := 50
/-- The stall timer, in milliseconds (R139). -/
def stallMs : Nat := 500
/-- Upload failures that send a record to FAULT (R140). -/
def failureLimit : Nat := 3

/-- Sheet lengths the AS16 handles, in path counts (R87). -/
def lengthMin : Nat := 250
/-- See `lengthMin`. -/
def lengthMax : Nat := 5000

/-- `v` lies in the closed range, as the parameter tables give them (3.5). -/
def within (lo hi v : Nat) : Bool := decide (lo ≤ v) && decide (v ≤ hi)

/-- The room parameters' ranges (R167). -/
def shareOk (v : Nat) : Bool := within 4 64 v
/-- See `shareOk`. -/
def silenceOk (v : Nat) : Bool := within 5 100 v
/-- See `shareOk`. -/
def pickTimeoutOk (v : Nat) : Bool := within 50 2000 v
/-- See `shareOk`. -/
def jamSlackOk (v : Nat) : Bool := within 20 2000 v

/-- The lane parameters' ranges (R157). -/
def windowOk (v : Nat) : Bool := within 1 32 v
/-- See `windowOk`. -/
def highOk (v : Nat) : Bool := within 1 32 v
/-- See `windowOk`. -/
def lowOk (v : Nat) : Bool := within 0 32 v
/-- See `windowOk`. -/
def ackOk (v : Nat) : Bool := within 100 60000 v
/-- See `windowOk`. -/
def secureOk (v : Nat) : Bool := within 1 600 v

/-- The batch parameters' ranges (R5). -/
def bandMinOk (v : Nat) : Bool := within 250 4999 v
/-- See `bandMinOk`. -/
def bandMaxOk (v : Nat) : Bool := within 251 5000 v
/-- See `bandMinOk`. -/
def minGapOk (v : Nat) : Bool := within 0 2000 v
/-- See `bandMinOk`. -/
def intervalOk (v : Nat) : Bool := within 0 4096 v
/-- See `bandMinOk`. -/
def expectedOk (v : Nat) : Bool := within 1 65535 v
/-- See `bandMinOk`. -/
def suspectLimitOk (v : Nat) : Bool := within 0 15 v
/-- See `bandMinOk`. -/
def retriesOk (v : Nat) : Bool := within 0 3 v

end Sys2Proof.Config
end

