-- ==== Sys2Proof/Syntax.lean ====
section
/-! DEFINITION. The commands of the AS16: every row of spec/opcode_table.json is one constructor of `Instr`, with the operands the row's rule gives it. -/

namespace Sys2Proof

/-- The thirteen attention condition kinds, in the order of the table of R162. -/
inductive AttnKind where
  | stationNew | stationCall | stationHalted | directoryFull | duplicateId | suspectOpen | sheetFault
  | checkpointPassed | countReached | batchClosed | laneFailed | laneRefusing | settingsDefaulted
deriving DecidableEq, Repr

/-- A station ID, and equally an address: maker code and serial (R51, R62). -/
structure StationId where
  maker : Nat
  serial : Nat
deriving DecidableEq, Repr

/-- The evidence mask of a policy, a subset of the four maskable kinds (R92). -/
structure EvidenceMask where
  thickness : Bool
  length : Bool
  shortLength : Bool
  shortGap : Bool
deriving DecidableEq, Repr

/-- Agreement of a policy (R92). -/
inductive Agreement where
  | any | two
deriving DecidableEq, Repr

/-- Action of a policy (R92). -/
inductive Action where
  | stop | divert
deriving DecidableEq, Repr

/-- The double-feed policy, named as a whole (R17, R92). -/
structure Policy where
  mask : EvidenceMask
  agreement : Agreement
  action : Action
  unknownCounts : Bool
deriving DecidableEq, Repr

/-- A length band (R1). -/
structure Band where
  min : Nat
  max : Nat
deriving DecidableEq, Repr

/-- The four class kinds (R107). -/
inductive ClassKind where
  | document | separator | batchEnd | checkpointMark
deriving DecidableEq, Repr

/-- A sheet's serial (3.2). -/
structure Serial where
  batch : Nat
  seq : Nat
deriving DecidableEq, Repr

/-- How READ_SHEET names its record (R38). -/
inductive SheetRef where
  | serial (x : Serial)
  | slot (n : Nat)
deriving DecidableEq, Repr

/-- A side of a sheet (R28). -/
inductive Side where
  | one | two
deriving DecidableEq, Repr

/-- The parameter area of a request frame: an area R171 refuses, or the parameters it carries. -/
inductive Params (α : Type) where
  | malformed
  | given (a : α)
deriving DecidableEq, Repr

/-- The parameters of READ_ATTENTION and CLEAR_ATTENTION: the kind as its coded byte, and an index (R165, R166). -/
structure KeyArgs where
  kind : Nat
  index : Nat
deriving DecidableEq, Repr

/-- The parameters of SET_ROOM, each of which may be omitted (R167). -/
structure RoomArgs where
  share : Option Nat := none
  silence : Option Nat := none
  pickTimeout : Option Nat := none
  jamSlack : Option Nat := none
deriving DecidableEq, Repr

/-- The parameters of NAME_STATION (R60). -/
structure NameArgs where
  index : Nat
  name : Text
deriving DecidableEq, Repr

/-- The parameters of IDENTIFY (R63). -/
structure IdentifyArgs where
  address : StationId
  setting : Bool
deriving DecidableEq, Repr

/-- The parameters of OPEN_BATCH; an omitted one takes its default (R5). -/
structure OpenArgs where
  label : Text
  plan : Option Nat := none
  mask : Option EvidenceMask := none
  agreement : Option Agreement := none
  action : Option Action := none
  unknownCounts : Option Bool := none
  bandMin : Option Nat := none
  bandMax : Option Nat := none
  minGap : Option Nat := none
  interval : Option Nat := none
  expected : Option Nat := none
  suspectLimit : Option Nat := none
  retries : Option Nat := none
  report : Option Bool := none
deriving DecidableEq, Repr

/-- The parameters of AMEND_BATCH in mode IMMEDIATE; `expected := some none` removes the count, and `foreign` says that
the request also names a field of the other mode (R16). -/
structure AmendNowArgs where
  handle : Nat
  label : Option Text := none
  expected : Option (Option Nat) := none
  suspectLimit : Option Nat := none
  interval : Option Nat := none
  retries : Option Nat := none
  foreign : Bool := false
deriving DecidableEq, Repr

/-- The parameters of AMEND_BATCH in mode AT_CHECKPOINT; `band := some none` removes the band (R17). -/
structure AmendLaterArgs where
  handle : Nat
  plan : Option Nat := none
  policy : Option Policy := none
  band : Option (Option Band) := none
  minGap : Option Nat := none
  foreign : Bool := false
deriving DecidableEq, Repr

/-- The parameters of BIND (R18). -/
structure BindArgs where
  handle : Nat
  index : Nat
deriving DecidableEq, Repr

/-- The parameters of LIST_SUSPECTS (R39). -/
structure ListArgs where
  handle : Nat
  start : Nat
deriving DecidableEq, Repr

/-- The parameters of SET_CLASS, the kind as its coded byte (R109). -/
structure ClassArgs where
  index : Nat
  kind : Nat
  category : Nat
  exempt : Bool
deriving DecidableEq, Repr

/-- A row of a route plan as SET_PLAN carries it, NONE and an absent lane given as `none` (R129, 11.2). -/
structure RowArgs where
  primary : Option Nat
  copy : Option Nat
  fallback : Option Nat
  secure : Bool
deriving DecidableEq, Repr

/-- The parameters of SET_PLAN: a number, a name and the eight rows (R129). -/
structure PlanArgs where
  plan : Nat
  name : Text
  rows : List RowArgs
deriving DecidableEq, Repr

/-- The parameters of SET_LANE; the secure timeout is in seconds (R157). -/
structure LaneArgs where
  lane : Nat
  window : Option Nat := none
  high : Option Nat := none
  low : Option Nat := none
  silence : Option Nat := none
  ack : Option Nat := none
  secure : Option Nat := none
deriving DecidableEq, Repr

/-- What a station says of itself beside its ID and store epoch (R51). -/
structure StationFacts where
  model : Nat
  duplex : Bool
  capacity : Nat
  pickToGauge : Nat
  gaugeToExit : Nat
  divertLimit : Nat
deriving DecidableEq, Repr

/-- The payload of an IDENT word (R51). -/
structure Ident where
  id : StationId
  facts : StationFacts
  epoch : Nat
deriving DecidableEq, Repr

/-- The transport direction of a STATUS word (R69). -/
inductive Direction where
  | stopped | forward | reverse
deriving DecidableEq, Repr

/-- The status view a STATUS word fills (R69, R76). -/
structure StatusView where
  coverOpen : Bool
  trayEmpty : Bool
  pathClear : Bool
  direction : Direction
deriving DecidableEq, Repr

/-- The payload of a STATUS word (R76, 11.3). -/
structure StatusWord where
  view : StatusView
  position : Pos
  call : Bool
deriving DecidableEq, Repr

/-- The two trays (R85). -/
inductive Tray where
  | output | reject
deriving DecidableEq, Repr

/-- The six pairs of sensor and edge; an EXIT TRAIL carries its tray (R84, R85). -/
inductive EdgeKind where
  | pickLead | pickTrail | gaugeLead | gaugeTrail | exitLead
  | exitTrail (tray : Tray)
deriving DecidableEq, Repr

/-- The thickness verdict of a THICK word (R93). -/
inductive ThickVerdict where
  | single | multiple | unknown
deriving DecidableEq, Repr

/-- The reason of a REFUSE (R150). -/
inductive RefuseReason where
  | check | format | full
deriving DecidableEq, Repr

/-- The readiness an archive reports (R146). -/
inductive Readiness where
  | ready | busy
deriving DecidableEq, Repr

/-- The commands of the AS16, one for each row of spec/opcode_table.json, in the table's order. -/
inductive Instr where
  /-- POWER_UP (R169). -/
  | powerUp
  /-- RESET_N_ASSERT (R169). -/
  | resetNAssert
  /-- RESET_N_RELEASE (R169). -/
  | resetNRelease
  /-- SETTINGS_LOAD_END (R169). -/
  | settingsLoadEnd
  /-- FRAME_OVERRUN (R160). -/
  | frameOverrun
  /-- BAD_FRAME, with the request code received, if any (R160). -/
  | badFrame (code : Option Byte)
  /-- UNKNOWN_REQUEST, with the request code received (R160). -/
  | unknownRequest (code : Byte)
  /-- IGNORED_TRANSACTION, with its first byte (R171). -/
  | ignoredTransaction (first : Byte)
  /-- READ_TRANSACTION, with the number of frame bytes the host clocks out (R159). -/
  | readTransaction (clocked : Nat)
  /-- READ_ATTENTION (R165). -/
  | readAttention (a : Params KeyArgs)
  /-- CLEAR_ATTENTION (R166). -/
  | clearAttention (a : Params KeyArgs)
  /-- READ_ROOM (R167). -/
  | readRoom (a : Params Unit)
  /-- SET_ROOM (R167). -/
  | setRoom (a : Params RoomArgs)
  /-- SET_ATTENTION_MASK, the set as its coded word (R163). -/
  | setAttentionMask (a : Params Nat)
  /-- SAVE_SETTINGS (R168). -/
  | saveSettings (a : Params Unit)
  /-- SAVE_SETTINGS_COMPLETION (R168). -/
  | saveSettingsCompletion
  /-- SAVE_SETTINGS_WRITE_FAILURE (R168). -/
  | saveSettingsWriteFailure
  /-- RESET_PART (R170). -/
  | resetPart (a : Params Unit)
  /-- LIST_STATIONS (R59). -/
  | listStations (a : Params Unit)
  /-- READ_STATION, an entry index (R59). -/
  | readStation (a : Params Nat)
  /-- NAME_STATION (R60). -/
  | nameStation (a : Params NameArgs)
  /-- FORGET_STATION, an entry index (R61). -/
  | forgetStation (a : Params Nat)
  /-- IDENTIFY (R63). -/
  | identify (a : Params IdentifyArgs)
  /-- HOLD_STATION, an address (R64). -/
  | holdStation (a : Params StationId)
  /-- RELEASE_STATION, an address (R64). -/
  | releaseStation (a : Params StationId)
  /-- RESET_PORT, a port number (R55). -/
  | resetPort (a : Params Nat)
  /-- START, an entry index (R70). -/
  | start (a : Params Nat)
  /-- STANDBY, an entry index (R71). -/
  | standby (a : Params Nat)
  /-- HALT_STATION, an entry index (R72). -/
  | haltStation (a : Params Nat)
  /-- RESUME, an entry index (R73). -/
  | resume (a : Params Nat)
  /-- OPEN_BATCH (R5). -/
  | openBatch (a : Params OpenArgs)
  /-- FIND_BATCH, a label (R6). -/
  | findBatch (a : Params Text)
  /-- READ_BATCH, a handle (R7). -/
  | readBatch (a : Params Nat)
  /-- AMEND_BATCH_IMMEDIATE (R16). -/
  | amendBatchImmediate (a : Params AmendNowArgs)
  /-- AMEND_BATCH_AT_CHECKPOINT (R17). -/
  | amendBatchAtCheckpoint (a : Params AmendLaterArgs)
  /-- BIND (R18). -/
  | bindBatch (a : Params BindArgs)
  /-- UNBIND, a handle (R19). -/
  | unbind (a : Params Nat)
  /-- PAUSE, a handle (R12). -/
  | pause (a : Params Nat)
  /-- RESUME_BATCH, a handle (R12). -/
  | resumeBatch (a : Params Nat)
  /-- CHECKPOINT, a handle (R119). -/
  | checkpoint (a : Params Nat)
  /-- CLOSE, a handle (R21). -/
  | close (a : Params Nat)
  /-- ABORT, a handle (R24). -/
  | abort (a : Params Nat)
  /-- RETIRE, a handle (R25). -/
  | retire (a : Params Nat)
  /-- FIND_SHEET, a serial (R37). -/
  | findSheet (a : Params Serial)
  /-- READ_SHEET, a serial or a slot (R38). -/
  | readSheet (a : Params SheetRef)
  /-- LIST_SUSPECTS (R39). -/
  | listSuspects (a : Params ListArgs)
  /-- RESOLVE_ACCEPT, a serial (R44, R45). -/
  | resolveAccept (a : Params Serial)
  /-- RESOLVE_RESCAN, a serial (R44, R46). -/
  | resolveRescan (a : Params Serial)
  /-- RESOLVE_DISCARD, a serial (R44, R46). -/
  | resolveDiscard (a : Params Serial)
  /-- RESOLVE_RETRY, a serial (R44, R47). -/
  | resolveRetry (a : Params Serial)
  /-- READ_CLASS, a start index (R108). -/
  | readClass (a : Params Nat)
  /-- SET_CLASS (R109). -/
  | setClass (a : Params ClassArgs)
  /-- READ_PLAN, a plan number (R128). -/
  | readPlan (a : Params Nat)
  /-- SET_PLAN (R129). -/
  | setPlan (a : Params PlanArgs)
  /-- READ_LANE, a lane number (R157). -/
  | readLane (a : Params Nat)
  /-- SET_LANE (R157). -/
  | setLane (a : Params LaneArgs)
  /-- SUSPEND_LANE, a lane number (R155). -/
  | suspendLane (a : Params Nat)
  /-- RESUME_LANE, a lane number (R155). -/
  | resumeLane (a : Params Nat)
  /-- LOOPBACK_LANE, a lane number (R155). -/
  | loopbackLane (a : Params Nat)
  /-- RESET_LANE, a lane number (R154). -/
  | resetLane (a : Params Nat)
  /-- PORT_LINE_ACTIVITY on a feed port (R49). -/
  | portLineActivity (p : Fin 16)
  /-- FILL from a station (R172). -/
  | fill (p : Fin 16)
  /-- MALFORMED_WORD on a feed port (R50). -/
  | malformedWord (p : Fin 16)
  /-- STATION_SILENCE_TIMEOUT of a feed port (R50). -/
  | stationSilenceTimeout (p : Fin 16)
  /-- QUERY_TIMER_EXPIRY of a feed port (R49). -/
  | queryTimerExpiry (p : Fin 16)
  /-- IDENT (R51, R52). -/
  | ident (p : Fin 16) (w : Ident)
  /-- STATUS from a station (R76). -/
  | status (p : Fin 16) (w : StatusWord)
  /-- EDGE (R85). -/
  | edge (p : Fin 16) (tag : Tag) (k : EdgeKind) (pos : Pos)
  /-- THICK (R93). -/
  | thick (p : Fin 16) (tag : Tag) (v : ThickVerdict) (level : Byte)
  /-- PATCH (R93). -/
  | patch (p : Fin 16) (tag : Tag) (pattern : Fin 64)
  /-- PICK_TIMER_EXPIRY of a directory entry (R83). -/
  | pickTimerExpiry (e : Fin 24)
  /-- READY, with its side count (R131). -/
  | ready (p : Fin 16) (tag : Tag) (sides : Nat)
  /-- IMAGE_START (R136). -/
  | imageStart (p : Fin 16) (tag : Tag) (side : Side) (blocks : Nat)
  /-- BLOCK, with its image data (R136). -/
  | block (p : Fin 16) (data : List Byte)
  /-- IMAGE_END, with its image check (R138). -/
  | imageEnd (p : Fin 16) (check : Check)
  /-- STALL_TIMER_EXPIRY of the upload of a directory entry (R139). -/
  | stallTimerExpiry (e : Fin 24)
  /-- DOWNSTREAM_WORD_LEAVES on a feed port (R67). -/
  | downstreamWordLeaves (p : Fin 16)
  /-- LANE_LINE_ACTIVITY on an archive lane (R144). -/
  | laneLineActivity (l : Fin 4)
  /-- ARCHIVE_FILL (R173). -/
  | archiveFill (l : Fin 4)
  /-- LANE_MALFORMED_WORD (R173). -/
  | laneMalformedWord (l : Fin 4)
  /-- LANE_SILENCE_TIMEOUT (R145). -/
  | laneSilenceTimeout (l : Fin 4)
  /-- ACCEPT of a delivery (R149). -/
  | accept (l : Fin 4) (d : DelivNo)
  /-- SECURED of a delivery (R149). -/
  | secured (l : Fin 4) (d : DelivNo)
  /-- REFUSE of a delivery (R150). -/
  | refuse (l : Fin 4) (d : DelivNo) (r : RefuseReason)
  /-- ARCHIVE_STATUS (R146). -/
  | archiveStatus (l : Fin 4) (r : Readiness)
  /-- ACK_TIMEOUT of a delivery (R152). -/
  | ackTimeout (l : Fin 4) (d : DelivNo)
  /-- SECURE_TIMEOUT of a delivery (R152). -/
  | secureTimeout (l : Fin 4) (d : DelivNo)
  /-- LANE_WORD_LEAVES on an archive lane (R148). -/
  | laneWordLeaves (l : Fin 4)
  /-- SETTINGS_ENTRY_WRITTEN (R168). -/
  | settingsEntryWritten
deriving DecidableEq, Repr

end Sys2Proof
end

