-- ==== Sys2Proof/Decode.lean ====
section
/-! DEFINITION. From bits to commands: the opcode table's words (no row gives bits), the two checks of chapter 11, and the decoding of Command Port transactions, feed-link words and archive-lane words. -/

namespace Sys2Proof

/-- The command a table word spells. No row of the table gives bits, so no word spells one. -/
def decodeTableWord (_nbits _w : Nat) : Option Instr := none

/-! Checks (11.1) -/

/-- The bits of a byte, most significant first. -/
def bitsOf (b : Byte) : List Bool :=
  [b.getLsbD 7, b.getLsbD 6, b.getLsbD 5, b.getLsbD 4, b.getLsbD 3, b.getLsbD 2, b.getLsbD 1, b.getLsbD 0]

/-- One bit into a CRC register of width `w` with generator `g`. -/
def crcBit {w : Nat} (g : BitVec w) (r : BitVec w) (b : Bool) : BitVec w :=
  if r.msb != b then (r <<< 1) ^^^ g else r <<< 1

/-- Bytes into a CRC register, most significant bit first. -/
def crcBytes {w : Nat} (g : BitVec w) (r : BitVec w) (l : List Byte) : BitVec w :=
  l.foldl (fun r b => (bitsOf b).foldl (crcBit g) r) r

/-- The CRC-16 of a frame or word (11.1). -/
def crc16 (l : List Byte) : BitVec 16 := crcBytes 0x1021#16 0xFFFF#16 l

/-- The running image check over more image data (11.1). -/
def checkBytes (r : BitVec 32) (l : List Byte) : BitVec 32 := crcBytes 0x04C11DB7#32 r l

/-- The value compared at IMAGE_END: the inverted register (11.1). -/
def checkValue (r : BitVec 32) : BitVec 32 := ~~~ r

/-! Numbers and items (11.2) -/

/-- A number in `w` bytes, most significant first. -/
def numBytes : Nat → Nat → List Byte
  | 0, _ => []
  | w + 1, n => BitVec.ofNat 8 (n / 256 ^ w) :: numBytes w n

/-- The number that bytes carry, most significant first. -/
def bytesNum (l : List Byte) : Nat := l.foldl (fun n b => n * 256 + b.toNat) 0

/-- A parameter item: identifier and value. -/
abbrev Item := Nat × List Byte

/-- The items of a parameter area; none where an item's length runs past its end (R171). The first argument bounds the
number of items by the number of bytes. -/
def parseItems : Nat → List Byte → Option (List Item)
  | _, [] => some []
  | 0, _ => none
  | _, [_] => none
  | n + 1, i :: k :: rest =>
    if k.toNat ≤ rest.length then
      (parseItems n (rest.drop k.toNat)).map fun l => (i.toNat, rest.take k.toNat) :: l
    else none

/-- Every identifier names a parameter of the request, and none appears twice (R171). -/
def itemsOk (ids : List Nat) (l : List Item) : Bool :=
  (l.all fun i => decide (i.1 ∈ ids)) && decide ((l.map Prod.fst).Nodup)

/-- The value of an item, if the area holds it. -/
def itemOf (l : List Item) (i : Nat) : Option (List Byte) := (l.find? fun x => decide (x.1 = i)).map Prod.snd

/-- A required item read by `f`; `none` refuses the area. -/
def must {α : Type} (l : List Item) (i : Nat) (f : List Byte → Option α) : Option α := (itemOf l i).bind f

/-- An item that may be omitted, read by `f`; the outer `none` refuses the area. -/
def may {α : Type} (l : List Item) (i : Nat) (f : List Byte → Option α) : Option (Option α) :=
  match itemOf l i with
  | none => some none
  | some v => (f v).map some

/-- A number of exactly `w` bytes. -/
def num (w : Nat) (v : List Byte) : Option Nat := if v.length = w then some (bytesNum v) else none

/-- A value that may be carried absent, as an item of length 0. -/
def orAbsent {α : Type} (f : List Byte → Option α) (v : List Byte) : Option (Option α) :=
  if v.isEmpty then some none else (f v).map some

/-- Characters, of any length; an item of length 0 is the empty name or label, which the owner then judges (R60, R127):
the model's choice beside R171 (log 19). -/
def text (v : List Byte) : Option Text := some v

/-- One of a pair of values, carried as 0 and 1. -/
def flag (v : List Byte) : Option Bool :=
  match v with
  | [b] => if b = 0 then some false else if b = 1 then some true else none
  | _ => none

/-- A value chosen from a list of named values, carried as its position from 1. -/
def named {α : Type} (vals : List α) (v : List Byte) : Option α :=
  match v with
  | [b] => if b.toNat = 0 then none else vals[b.toNat - 1]?
  | _ => none

/-- An evidence mask: one bit a member, no other bit (R92, R171). -/
def evidenceMask (v : List Byte) : Option EvidenceMask :=
  match v with
  | [b] =>
    if b.toNat < 16 then
      some { thickness := b.getLsbD 0, length := b.getLsbD 1, shortLength := b.getLsbD 2, shortGap := b.getLsbD 3 }
    else none
  | _ => none

/-- A policy: mask, agreement, action, unknown-thickness-counts. -/
def policyValue (v : List Byte) : Option Policy :=
  match v with
  | [m, g, a, u] => do
    let m ← evidenceMask [m]
    let g ← named [Agreement.any, .two] [g]
    let a ← named [Action.stop, .divert] [a]
    let u ← flag [u]
    pure { mask := m, agreement := g, action := a, unknownCounts := u }
  | _ => none

/-- A length band: minimum and maximum. -/
def bandValue (v : List Byte) : Option Band :=
  match v with
  | [a, b, c, d] => some { min := bytesNum [a, b], max := bytesNum [c, d] }
  | _ => none

/-- A serial: batch handle and sequence. -/
def serialValue (v : List Byte) : Option Serial :=
  match v with
  | [h, a, b] => some { batch := h.toNat, seq := bytesNum [a, b] }
  | _ => none

/-- An address: maker code and serial. -/
def addressValue (v : List Byte) : Option StationId :=
  match v with
  | [a, b, c, d, e, f] => some { maker := bytesNum [a, b], serial := bytesNum [c, d, e, f] }
  | _ => none

/-- An attention key: kind and index. -/
def keyValue (v : List Byte) : Option KeyArgs :=
  match v with
  | [k, i] => some { kind := k.toNat, index := i.toNat }
  | _ => none

/-- A lane in a row, NONE and absent carried as 255. -/
def rowLane (b : Byte) : Option Nat := if b = 255 then none else some b.toNat

/-- A row of a route plan. -/
def rowValue (v : List Byte) : Option RowArgs :=
  match v with
  | [p, c, f, s] => (flag [s]).map fun x =>
    { primary := rowLane p, copy := rowLane c, fallback := rowLane f, secure := x }
  | _ => none

/-! Requests (11.2): the parameter area of each request as its items. A result of `none` is an area R171 refuses. -/

/-- The parameters an area gives, or the mark that R171 refuses it. -/
def params {α : Type} (area : List Byte) (ids : List Nat) (f : List Item → Option α) : Params α :=
  match parseItems area.length area with
  | none => .malformed
  | some l => if itemsOk ids l then (match f l with | some a => .given a | none => .malformed) else .malformed

/-- A request with no parameter. -/
def noParams (area : List Byte) : Params Unit := params area [] fun _ => some ()

/-- A request whose one parameter is a number of `w` bytes. -/
def oneNum (w : Nat) (area : List Byte) : Params Nat := params area [1] fun l => must l 1 (num w)

/-- The parameters of READ_ATTENTION: one key (R165). -/
def readAttentionParams (area : List Byte) : Params KeyArgs := params area [1] fun l => must l 1 keyValue

/-- The parameters of CLEAR_ATTENTION: a kind and an index (R166). -/
def clearAttentionParams (area : List Byte) : Params KeyArgs := params area [1, 2] fun l => do
  let k ← must l 1 (num 1)
  let i ← must l 2 (num 1)
  pure { kind := k, index := i }

/-- The parameters of SET_ROOM (R167). -/
def roomParamsOf (area : List Byte) : Params RoomArgs := params area [1, 2, 3, 4] fun l => do
  let a ← may l 1 (num 1)
  let b ← may l 2 (num 1)
  let c ← may l 3 (num 2)
  let d ← may l 4 (num 2)
  pure { share := a, silence := b, pickTimeout := c, jamSlack := d }

/-- The parameters of NAME_STATION (R60). -/
def nameParams (area : List Byte) : Params NameArgs := params area [1, 2] fun l => do
  let i ← must l 1 (num 1)
  let n ← must l 2 text
  pure { index := i, name := n }

/-- The parameters of IDENTIFY (R63). -/
def identifyParams (area : List Byte) : Params IdentifyArgs := params area [1, 2] fun l => do
  let a ← must l 1 addressValue
  let b ← must l 2 flag
  pure { address := a, setting := b }

/-- The parameter of HOLD_STATION and RELEASE_STATION (R64). -/
def addressParam (area : List Byte) : Params StationId := params area [1] fun l => must l 1 addressValue

/-- The parameters of OPEN_BATCH: the rows of R5's table, then the label as 14. -/
def openParams (area : List Byte) : Params OpenArgs :=
  params area [1, 2, 3, 4, 5, 6, 7, 8, 9, 10, 11, 12, 13, 14] fun l => do
    let plan ← may l 1 (num 1)
    let mask ← may l 2 evidenceMask
    let agreement ← may l 3 (named [Agreement.any, .two])
    let action ← may l 4 (named [Action.stop, .divert])
    let unknownCounts ← may l 5 flag
    let bandMin ← may l 6 (orAbsent (num 2))
    let bandMax ← may l 7 (orAbsent (num 2))
    let minGap ← may l 8 (num 2)
    let interval ← may l 9 (num 2)
    let expected ← may l 10 (orAbsent (num 2))
    let suspectLimit ← may l 11 (num 1)
    let retries ← may l 12 (num 1)
    let report ← may l 13 flag
    let label ← must l 14 text
    pure { label := label, plan := plan, mask := mask, agreement := agreement, action := action
           unknownCounts := unknownCounts, bandMin := bandMin.join, bandMax := bandMax.join, minGap := minGap
           interval := interval, expected := expected.join, suspectLimit := suspectLimit, retries := retries
           report := report }

/-- The parameter of FIND_BATCH (R6). -/
def labelParam (area : List Byte) : Params Text := params area [1] fun l => must l 1 text

/-- The identifiers of AMEND_BATCH. -/
def amendIds : List Nat := [1, 2, 3, 4, 5, 6, 7, 8, 9, 10, 11]

/-- Some item of a list of identifiers stands in the area. -/
def anyItem (l : List Item) (ids : List Nat) : Bool := ids.any fun i => (itemOf l i).isSome

/-- The parameters of AMEND_BATCH in mode IMMEDIATE (R16). -/
def amendNowParams (area : List Byte) : Params AmendNowArgs := params area amendIds fun l => do
  let h ← must l 1 (num 1)
  let label ← may l 3 text
  let expected ← may l 4 (orAbsent (num 2))
  let suspectLimit ← may l 5 (num 1)
  let interval ← may l 6 (num 2)
  let retries ← may l 7 (num 1)
  pure { handle := h, label := label, expected := expected, suspectLimit := suspectLimit, interval := interval
         retries := retries, foreign := anyItem l [8, 9, 10, 11] }

/-- The parameters of AMEND_BATCH in mode AT_CHECKPOINT (R17). -/
def amendLaterParams (area : List Byte) : Params AmendLaterArgs := params area amendIds fun l => do
  let h ← must l 1 (num 1)
  let plan ← may l 8 (num 1)
  let policy ← may l 9 policyValue
  let band ← may l 10 (orAbsent bandValue)
  let minGap ← may l 11 (num 2)
  pure { handle := h, plan := plan, policy := policy, band := band, minGap := minGap
         foreign := anyItem l [3, 4, 5, 6, 7] }

/-- AMEND_BATCH, by its mode; an area without a mode that names one is refused (R16, R17, R171). -/
def amendCommand (area : List Byte) : Instr :=
  match params area amendIds (fun l => must l 2 (num 1)) with
  | .given 1 => .amendBatchImmediate (amendNowParams area)
  | .given 2 => .amendBatchAtCheckpoint (amendLaterParams area)
  | _ => .amendBatchImmediate .malformed

/-- The parameters of BIND (R18). -/
def bindParams (area : List Byte) : Params BindArgs := params area [1, 2] fun l => do
  let h ← must l 1 (num 1)
  let i ← must l 2 (num 1)
  pure { handle := h, index := i }

/-- The parameter of FIND_SHEET (R37). -/
def serialParam (area : List Byte) : Params Serial := params area [1] fun l => must l 1 serialValue

/-- The parameter of READ_SHEET: a serial or a slot, one of the two (R38). -/
def sheetParam (area : List Byte) : Params SheetRef := params area [1, 2] fun l =>
  match itemOf l 1, itemOf l 2 with
  | some v, none => (serialValue v).map .serial
  | none, some v => (num 2 v).map .slot
  | _, _ => none

/-- The parameters of LIST_SUSPECTS (R39). -/
def listParams (area : List Byte) : Params ListArgs := params area [1, 2] fun l => do
  let h ← must l 1 (num 1)
  let i ← must l 2 (num 2)
  pure { handle := h, start := i }

/-- The serial of a RESOLVE (R44). -/
def resolveParams (area : List Byte) : Params Serial := params area [1, 2] fun l => must l 1 serialValue

/-- RESOLVE, by its outcome; an outcome that is not one of the four is refused with BAD_VALUE (R44, R171). -/
def resolveCommand (area : List Byte) : Instr :=
  match params area [1, 2] (fun l => must l 2 (num 1)) with
  | .given 1 => .resolveAccept (resolveParams area)
  | .given 2 => .resolveRescan (resolveParams area)
  | .given 3 => .resolveDiscard (resolveParams area)
  | .given 4 => .resolveRetry (resolveParams area)
  | _ => .resolveAccept .malformed

/-- The parameters of SET_CLASS (R109). -/
def classParams (area : List Byte) : Params ClassArgs := params area [1, 2, 3, 4] fun l => do
  let i ← must l 1 (num 1)
  let k ← must l 2 (num 1)
  let c ← must l 3 (num 1)
  let x ← must l 4 flag
  pure { index := i, kind := k, category := c, exempt := x }

/-- The parameters of SET_PLAN: number, name, rows 3 to 10 (R129). -/
def planParams (area : List Byte) : Params PlanArgs := params area [1, 2, 3, 4, 5, 6, 7, 8, 9, 10] fun l => do
  let n ← must l 1 (num 1)
  let name ← must l 2 text
  let rows ← [3, 4, 5, 6, 7, 8, 9, 10].mapM fun i => must l i rowValue
  pure { plan := n, name := name, rows := rows }

/-- The parameters of SET_LANE: the rows of R157's table, then the lane as 7. -/
def laneParamsOf (area : List Byte) : Params LaneArgs := params area [1, 2, 3, 4, 5, 6, 7] fun l => do
  let window ← may l 1 (num 1)
  let high ← may l 2 (num 1)
  let low ← may l 3 (num 1)
  let silence ← may l 4 (num 1)
  let ack ← may l 5 (num 2)
  let secure ← may l 6 (num 2)
  let lane ← must l 7 (num 1)
  pure { lane := lane, window := window, high := high, low := low, silence := silence, ack := ack, secure := secure }

/-- The request a code names, with its parameter area (11.2); none for a code that names no request. -/
def requestOf (code : Nat) (area : List Byte) : Option Instr :=
  match code with
  | 0x01 => some (.readAttention (readAttentionParams area))
  | 0x02 => some (.clearAttention (clearAttentionParams area))
  | 0x03 => some (.readRoom (noParams area))
  | 0x04 => some (.setRoom (roomParamsOf area))
  | 0x05 => some (.setAttentionMask (oneNum 2 area))
  | 0x06 => some (.saveSettings (noParams area))
  | 0x07 => some (.resetPart (noParams area))
  | 0x10 => some (.listStations (noParams area))
  | 0x11 => some (.readStation (oneNum 1 area))
  | 0x12 => some (.nameStation (nameParams area))
  | 0x13 => some (.forgetStation (oneNum 1 area))
  | 0x14 => some (.identify (identifyParams area))
  | 0x15 => some (.holdStation (addressParam area))
  | 0x16 => some (.releaseStation (addressParam area))
  | 0x17 => some (.start (oneNum 1 area))
  | 0x18 => some (.standby (oneNum 1 area))
  | 0x19 => some (.haltStation (oneNum 1 area))
  | 0x1A => some (.resume (oneNum 1 area))
  | 0x1B => some (.resetPort (oneNum 1 area))
  | 0x20 => some (.openBatch (openParams area))
  | 0x21 => some (.findBatch (labelParam area))
  | 0x22 => some (.readBatch (oneNum 1 area))
  | 0x23 => some (amendCommand area)
  | 0x24 => some (.bindBatch (bindParams area))
  | 0x25 => some (.unbind (oneNum 1 area))
  | 0x26 => some (.pause (oneNum 1 area))
  | 0x27 => some (.resumeBatch (oneNum 1 area))
  | 0x28 => some (.checkpoint (oneNum 1 area))
  | 0x29 => some (.close (oneNum 1 area))
  | 0x2A => some (.abort (oneNum 1 area))
  | 0x2B => some (.retire (oneNum 1 area))
  | 0x30 => some (.findSheet (serialParam area))
  | 0x31 => some (.readSheet (sheetParam area))
  | 0x32 => some (.listSuspects (listParams area))
  | 0x33 => some (resolveCommand area)
  | 0x40 => some (.readClass (oneNum 1 area))
  | 0x41 => some (.setClass (classParams area))
  | 0x42 => some (.readPlan (oneNum 1 area))
  | 0x43 => some (.setPlan (planParams area))
  | 0x50 => some (.readLane (oneNum 1 area))
  | 0x51 => some (.setLane (laneParamsOf area))
  | 0x52 => some (.suspendLane (oneNum 1 area))
  | 0x53 => some (.resumeLane (oneNum 1 area))
  | 0x54 => some (.loopbackLane (oneNum 1 area))
  | 0x55 => some (.resetLane (oneNum 1 area))
  | _ => none

/-- The request frame's length field, code, area and CRC-16 agree (R160 case 2, 11.2). -/
def frameOk (f : List Byte) : Bool :=
  let n := bytesNum (f.take 2)
  decide (5 ≤ f.length) && decide (f.length = n + 2) && Config.within 3 512 n &&
  decide ((crc16 (f.take (f.length - 2))).toNat = bytesNum (f.drop (f.length - 2)))

/-- A write transaction's request frame as the command it is at a port that is not busy (R160). -/
def frameCommand (f : List Byte) : Instr :=
  if frameOk f then
    match f.drop 2 with
    | c :: rest =>
      match requestOf c.toNat (rest.take (rest.length - 2)) with
      | some i => i
      | none => .unknownRequest c
    | [] => .badFrame none
  else .badFrame (f.drop 2).head?

/-- The command a transaction is: a write at a busy port is an overrun, a read clocks out `clocked` frame bytes, and any
other first byte is ignored (R159, R160, R171). That one with no byte at all is no command is the model's choice (log 24). -/
def transactionCommand (busy : Bool) (clocked : Nat) : List Byte → Option Instr
  | [] => none
  | b :: f =>
    if b = 0xA5 then some (if busy then .frameOverrun else frameCommand f)
    else if b = 0x5A then some (.readTransaction clocked)
    else some (.ignoredTransaction b)

/-! Link words (11.3, 11.4) -/

/-- The payload of a word whose length field and CRC-16 agree, with its kind; none for a malformed envelope (R172). -/
def wordParts (w : List Byte) : Option (Nat × List Byte) :=
  match w with
  | k :: a :: b :: rest =>
    let n := bytesNum [a, b]
    if rest.length = n + 2 ∧ (crc16 (w.take (n + 3))).toNat = bytesNum (rest.drop n) then some (k.toNat, rest.take n)
    else none
  | _ => none

/-- The payload of an IDENT word. -/
def identWord : List Byte → Option Ident
  | [m1, m2, s1, s2, s3, s4, k1, k2, d, c, e1, e2, p1, p2, g1, g2, v1, v2] =>
    (flag [d]).map fun x =>
      { id := { maker := bytesNum [m1, m2], serial := bytesNum [s1, s2, s3, s4] }
        facts := { model := bytesNum [k1, k2], duplex := x, capacity := c.toNat, pickToGauge := bytesNum [p1, p2]
                   gaugeToExit := bytesNum [g1, g2], divertLimit := bytesNum [v1, v2] }
        epoch := bytesNum [e1, e2] }
  | _ => none

/-- The payload of a station's STATUS word. -/
def statusWord : List Byte → Option StatusWord
  | [c, t, p, d, a, b, k] => do
    let c ← flag [c]
    let t ← flag [t]
    let p ← flag [p]
    let d ← [Direction.stopped, .forward, .reverse][d.toNat]?
    let k ← flag [k]
    pure { view := { coverOpen := c, trayEmpty := t, pathClear := p, direction := d }
           position := BitVec.ofNat 16 (bytesNum [a, b]), call := k }
  | _ => none

/-- The sensor, edge and tray codes of an EDGE word; a tray belongs to EXIT TRAIL and to no other edge (R172). -/
def edgeKind (sensor edge tray : Nat) : Option EdgeKind :=
  match sensor, edge, tray with
  | 1, 1, 0 => some .pickLead
  | 1, 2, 0 => some .pickTrail
  | 2, 1, 0 => some .gaugeLead
  | 2, 2, 0 => some .gaugeTrail
  | 3, 1, 0 => some .exitLead
  | 3, 2, 1 => some (.exitTrail .output)
  | 3, 2, 2 => some (.exitTrail .reject)
  | _, _, _ => none

/-- A station's word of a kind, from its payload (11.3); an IMAGE_START with a side other than 1 or 2 is malformed, the
model's reading of the sides R172 gives it (log 19). -/
def feedPayload (p : Fin 16) (kind : Nat) (v : List Byte) : Option Instr :=
  match kind, v with
  | 0x41, v => (identWord v).map (.ident p)
  | 0x42, v => (statusWord v).map (.status p)
  | 0x43, [t, s, e, a, b, y] =>
    (edgeKind s.toNat e.toNat y.toNat).map fun k => .edge p t k (BitVec.ofNat 16 (bytesNum [a, b]))
  | 0x44, [t, x, l] => (named [ThickVerdict.single, .multiple, .unknown] [x]).map fun y => .thick p t y l
  | 0x45, [t, x] => if h : x.toNat < 64 then some (.patch p t ⟨x.toNat, h⟩) else none
  | 0x46, [t, n] => some (.ready p t n.toNat)
  | 0x47, [t, x, a, b] => (named [Side.one, .two] [x]).map fun y => .imageStart p t y (bytesNum [a, b])
  | 0x48, v => if v.length = Config.blockBytes then some (.block p v) else none
  | 0x49, [a, b, c, d] => some (.imageEnd p (BitVec.ofNat 32 (bytesNum [a, b, c, d])))
  | 0x4F, [] => some (.fill p)
  | _, _ => none

/-- The command a word from a station is (R172). -/
def feedWord (p : Fin 16) (w : List Byte) : Instr :=
  match (wordParts w).bind fun x => feedPayload p x.1 x.2 with
  | some i => i
  | none => .malformedWord p

/-- A delivery number of an archive's word, 0–4095 (R173). -/
def delivNo (a b : Byte) : Option DelivNo :=
  let n := bytesNum [a, b]
  if n < Config.deliveryCount then some (BitVec.ofNat 12 n) else none

/-- An archive's word of a kind, from its payload (11.4). -/
def lanePayload (l : Fin 4) (kind : Nat) (v : List Byte) : Option Instr :=
  match kind, v with
  | 0xC1, [a, b] => (delivNo a b).map (.accept l)
  | 0xC2, [a, b, r] => do
    let d ← delivNo a b
    let r ← named [RefuseReason.check, .format, .full] [r]
    pure (.refuse l d r)
  | 0xC3, [a, b] => (delivNo a b).map (.secured l)
  | 0xC4, [r] => (named [Readiness.ready, .busy] [r]).map (.archiveStatus l)
  | 0xC5, [] => some (.archiveFill l)
  | _, _ => none

/-- The command a word from an archive is (R173). -/
def laneWord (l : Fin 4) (w : List Byte) : Instr :=
  match (wordParts w).bind fun x => lanePayload l x.1 x.2 with
  | some i => i
  | none => .laneMalformedWord l

end Sys2Proof
end

