-- ==== Sys2Proof/Machine/State.lean ====
section
/-! DEFINITION. The state of the AS16 as plain data: every record, queue, counter, flag and timer the manual gives its fourteen blocks, the waiting commands, and the state right after reset. -/

namespace Sys2Proof.Machine

/-- Why a step stops with a fault. There is no such reason: the manual gives every command an effect, a refusal reply
or no effect (R161), so the type is empty and nobody raises it. Safe. -/
inductive Fault where
deriving DecidableEq, Repr

/-- Why a step is refused. -/
inductive Refusal where
  /-- Raised by an arm of `exec` whose command has no meaning yet. Safe: nothing follows about the command. -/
  | notModelled (mnemonic : String)
deriving DecidableEq, Repr

/-! Command Port, attention, room (chapter 10) -/

/-- The port states of R159. -/
inductive PortPhase where
  | idle | executing | replyReady
deriving DecidableEq, Repr

/-- The result codes of R161. -/
inductive Result where
  | ok | badFrame | unknownRequest | badValue | notFound | wrongState | inUse | tableFull | duplicateLabel | storeFault
deriving DecidableEq, Repr

/-- A pair of the attention set (R162). -/
abbrev Attn := AttnKind × Nat

/-- The five room parameters (R167). -/
structure RoomParams where
  share : Nat := 24
  silence : Nat := 20
  pickTimeout : Nat := 300
  jamSlack : Nat := 100
  mask : List AttnKind := []
deriving DecidableEq, Repr

/-- The six lane parameters; the secure timeout is in seconds (R157). -/
structure LaneParams where
  window : Nat := 16
  high : Nat := 8
  low : Nat := 8
  silence : Nat := 20
  ack : Nat := 2000
  secure : Nat := 30
deriving DecidableEq, Repr

/-- A class entry (R107). -/
structure ClassEntry where
  kind : ClassKind := .document
  category : Nat := 0
  exempt : Bool := false
deriving DecidableEq, Repr

/-- A row of a route plan; a primary lane of NONE is `none` (R127). -/
structure Row where
  primary : Option (Fin 4) := some 0
  copy : Option (Fin 4) := none
  fallback : Option (Fin 4) := none
  secure : Bool := false
deriving DecidableEq, Repr

/-- The name and rows of a route plan, as the Settings Store keeps them (R127, R168). -/
structure PlanBody where
  name : Text
  rows : Vector Row 8
deriving DecidableEq, Repr

/-- A route plan with its capture count (R127). -/
structure Plan where
  body : PlanBody
  captures : Nat
deriving DecidableEq, Repr

/-- The contents of the 109 store entries (R168). -/
structure Settings where
  room : RoomParams
  lanes : Vector LaneParams 4
  classes : Vector ClassEntry 64
  plans : Vector PlanBody 16
  directory : Vector (Option (StationId × Text)) 24
deriving DecidableEq, Repr

/-- The Settings Store: its entries, and whether its check agrees with them (R168). -/
structure Store where
  settings : Settings
  checkOk : Bool
deriving DecidableEq, Repr

/-- The store state READ_ROOM reports (R167). -/
inductive StoreState where
  | valid | defaulted | fault
deriving DecidableEq, Repr

/-- A SAVE_SETTINGS in progress: the copy taken and the entries written so far (R168). -/
structure Save where
  copy : Settings
  written : Nat
deriving DecidableEq, Repr

/-! Batches (chapters 1, 6, 7) -/

/-- The states of a batch record that is not FREE (R2). -/
inductive BatchState where
  | open | closing | closed
deriving DecidableEq, Repr

/-- How a batch closed (R1). -/
inductive BatchOutcome where
  | complete | aborted
deriving DecidableEq, Repr

/-- The pause-reason set (R11). -/
structure PauseSet where
  host : Bool := false
  checkpoint : Bool := false
  suspectLimit : Bool := false
  countReached : Bool := false
  sequenceEnd : Bool := false
deriving DecidableEq, Repr

/-- A pending amendment, each field optional; `band := some none` removes the band (R17). -/
structure Amendment where
  plan : Option Nat := none
  policy : Option Policy := none
  band : Option (Option Band) := none
  minGap : Option Nat := none
deriving DecidableEq, Repr

/-- The default policy of R5. -/
def Policy.default : Policy :=
  { mask := { thickness := true, length := true, shortLength := false, shortGap := true }
    agreement := .any, action := .stop, unknownCounts := false }

/-- A batch record that is not FREE (R1, R111). -/
structure Batch where
  label : Text
  state : BatchState := .open
  outcome : Option BatchOutcome := none
  testFlag : Bool := false
  bound : Option Nat := none
  plan : Nat := 0
  policy : Policy := Policy.default
  band : Option Band := none
  minGap : Nat := 40
  interval : Nat := 0
  target : Option Nat := none
  last : Nat := 0
  passed : Nat := 0
  expected : Option Nat := none
  suspectLimit : Nat := 0
  retries : Nat := 2
  report : Bool := false
  nextSeq : Nat := 1
  fed : Nat := 0
  completed : Nat := 0
  discarded : Nat := 0
  rescanned : Nat := 0
  misfeeds : Nat := 0
  documents : Nat := 0
  documentOpen : Bool := false
  picking : Nat := 0
  live : Nat := 0
  openSuspects : Nat := 0
  pauses : PauseSet := {}
  pendingAmend : Option Amendment := none
deriving DecidableEq, Repr

/-- The checkpoint phases of R117. -/
inductive Phase where
  | none | pending | limited | armed
deriving DecidableEq, Repr

/-! Sheets (chapter 2) -/

/-- The states of a live record (R29). -/
inductive SheetState where
  | picking | inPath | suspect | routing | fault
deriving DecidableEq, Repr

/-- The evidence set (R91). -/
structure Evidence where
  thickness : Bool := false
  length : Bool := false
  shortLength : Bool := false
  shortGap : Bool := false
  cleared : Bool := false
  linkLost : Bool := false
  beyondEnd : Bool := false
  passed : Bool := false
deriving DecidableEq, Repr

/-- The verdict (R28). -/
inductive Verdict where
  | pending | clear | suspect
deriving DecidableEq, Repr

/-- The causes of FAULT (R43a). -/
inductive FaultCause where
  | uploadFailed | imagesLost
deriving DecidableEq, Repr

/-- The role of a delivery entry (R28). -/
inductive Role where
  | primary | copy
deriving DecidableEq, Repr

/-- The status of a delivery entry (R28). -/
inductive DeliveryStatus where
  | waiting | inFlight | sent | accepted | done
deriving DecidableEq, Repr

/-- A delivery entry (R28). -/
structure Delivery where
  side : Side
  role : Role
  lane : Fin 4
  rerouted : Bool := false
  status : DeliveryStatus := .waiting
  number : Option DelivNo := none
deriving DecidableEq, Repr

/-- The plan and policy a record captures at its verdict (R92). -/
structure Captured where
  plan : Nat
  policy : Policy
  band : Option Band
  minGap : Nat
deriving DecidableEq, Repr

/-- A live sheet record; `deliveries := none` says that the list has not been built (R28). -/
structure Sheet where
  batch : Nat
  station : Nat
  tag : Tag
  seq : Option Nat := none
  document : Option Nat := none
  state : SheetState := .picking
  evidence : Evidence := {}
  verdict : Verdict := .pending
  resolved : Bool := false
  length : Option Nat := none
  gap : Option Nat := none
  thick : Option (ThickVerdict × Byte) := none
  pattern : Option (Fin 64) := none
  cls : Option (ClassKind × Nat) := none
  captured : Option Captured := none
  tray : Option Tray := none
  images : Option Side := none
  fault : Option FaultCause := none
  failures : Nat := 0
  deliveries : Option (List Delivery) := none
deriving DecidableEq, Repr

/-- The outcome a RELEASE word carries (R42). -/
inductive ReleaseOutcome where
  | kept | dropped
deriving DecidableEq, Repr

/-! Stations and the paper path (chapters 3, 4) -/

/-- The feed states of R68. -/
inductive FeedState where
  | idle | ready | running | halted | clearing
deriving DecidableEq, Repr

/-- The halt causes of R68. -/
inductive HaltCause where
  | jam | misfeed | suspect | suspectPassed | reverse | linkLost | host | abort | stationFault | cover
deriving DecidableEq, Repr

/-- The members of the hold-reason set (R79). -/
inductive Hold where
  | notRunning | noBatch | absent | noStatus | hostHold | batch | checkpointLimit | count | sequence | picking
  | pathFull | trayEmpty | coverOpen | storeFull | noRecord
deriving DecidableEq, Repr

/-- A timer that can be suspended with its remaining milliseconds: the pick timer (R82) and the stall timer (R139). -/
inductive Timer where
  | stopped
  | running (ms : Nat)
  | suspended (ms : Nat)
deriving DecidableEq, Repr

/-- A place in a path queue. A place exists from its sheet's PICK lead edge, and an EXIT trail edge takes it away, so
those two of the six pairs need no mark; a position is present once its edge is seen (R84). -/
structure Place where
  slot : Nat
  pickLead : Pos
  pickTrail : Bool := false
  gaugeLead : Option Pos := none
  gaugeTrail : Option Pos := none
  exitLead : Bool := false
  divertOrdered : Bool := false
deriving DecidableEq, Repr

/-- A directory entry in use, with what the Feed Controller and the Path Tracker keep for it (R57, R69). -/
structure Entry where
  id : StationId
  name : Text := []
  port : Option (Fin 16) := none
  facts : Option StationFacts := none
  epoch : Option Nat := none
  identify : Bool := false
  hostHold : Bool := false
  bound : Option Nat := none
  feed : FeedState := .idle
  cause : Option HaltCause := none
  nextTag : Tag := 0
  liveCount : Nat := 0
  owed : List (Tag × ReleaseOutcome) := []
  misfeeds : Nat := 0
  timer : Timer := .stopped
  traySeenEmpty : Bool := false
  view : Option StatusView := none
  lastPos : Option Pos := none
  path : List Place := []
  lastGaugeTrail : Option Pos := none
deriving DecidableEq, Repr

/-- The states of a feed port (R49). -/
inductive Link where
  | down | aligning | querying | up | unlisted
deriving DecidableEq, Repr

/-- Why a port is UNLISTED (R49). -/
inductive UnlistedReason where
  | full | duplicate
deriving DecidableEq, Repr

/-- A word sent to a station (11.3). -/
inductive DownWord where
  | halt
  | divert (tag : Tag)
  | flow (go : Bool)
  | grant (tag : Tag)
  | resume
  | upload (tag : Tag) (side : Side)
  | release (tag : Tag) (o : ReleaseOutcome)
  | identify (on : Bool)
  | query
  | time (low : BitVec 16)
deriving DecidableEq, Repr

/-- The downstream queues of a port, one FIFO for each kind (R66). -/
structure Queues where
  halt : Bool := false
  divert : List Tag := []
  flow : Option Bool := none
  grant : Option Tag := none
  resume : Bool := false
  upload : Option (Tag × Side) := none
  release : List (Tag × ReleaseOutcome) := []
  identify : Option Bool := none
  query : Bool := false
deriving DecidableEq, Repr

/-- A feed port (R49, R50, R53, R65, R66, R67). -/
structure Port where
  link : Link := .down
  align : Nat := 0
  malformed : Nat := 0
  silence : Option Nat := none
  queryTimer : Option Nat := none
  lastCall : Bool := false
  kept : Option (StationId × UnlistedReason) := none
  requeriedFor : Option StationId := none
  entry : Option Nat := none
  queues : Queues := {}
  line : Option DownWord := none
deriving DecidableEq, Repr

/-! Image Router and archive lanes (chapters 8, 9) -/

/-- The phase of an upload (R132). -/
inductive UploadPhase where
  | asked | receiving
deriving DecidableEq, Repr

/-- An active upload; its station is the key under which it is kept (R132). -/
structure Upload where
  slot : Nat
  serial : Serial
  tag : Tag
  side : Side
  dests : List (Fin 4 × Role)
  phase : UploadPhase := .asked
  blocks : Option Nat := none
  taken : Nat := 0
  check : Check := 0xFFFFFFFF#32
  go : Bool := true
  stall : Timer := .stopped
deriving DecidableEq, Repr

/-- The states of a lane (R144). -/
inductive LaneState where
  | down | aligning | up | suspended | loopback | failed
deriving DecidableEq, Repr

/-- The phase of a delivery in its window (R147). -/
inductive WindowPhase where
  | transmitting | ending | awaitAccept | awaitSecure
deriving DecidableEq, Repr

/-- An entry of a delivery window; `closing` is the block count and image check its END carries (R147, R148). -/
structure WindowEntry where
  number : DelivNo
  slot : Nat
  serial : Serial
  side : Side
  role : Role
  secure : Bool
  phase : WindowPhase := .transmitting
  timer : Option Nat := none
  closing : Option (Nat × Check) := none
deriving DecidableEq, Repr

/-- A control word of a lane (11.4). -/
inductive CtrlWord where
  | offer (d : DelivNo) (serial : Serial) (side : Side) (role : Role) (secure : Bool)
  | endWord (d : DelivNo) (blocks : Nat) (check : Check)
  | abandon (d : DelivNo)
deriving DecidableEq, Repr

/-- What a lane's transmitter is sending: nothing in DOWN, a fill word, a control word, the block at the head of its
FIFO, or that block's time in LOOPBACK, where it is not put on the line (R148, R156). -/
inductive LaneLine where
  | none
  | fill
  | ctrl (w : CtrlWord)
  | block (d : DelivNo)
  | looped (d : DelivNo)
deriving DecidableEq, Repr

/-- The counters of a lane (R151). -/
structure LaneCounters where
  offered : Nat := 0
  done : Nat := 0
  refusedCheck : Nat := 0
  refusedFormat : Nat := 0
  refusedFull : Nat := 0
  abandoned : Nat := 0
  stray : Nat := 0
  failures : Nat := 0
deriving DecidableEq, Repr

/-- A block in a transmit FIFO, under the delivery number it is sent with (R137, 11.4). -/
abbrev FifoBlock := DelivNo × List Byte

/-- An archive lane (R144–R151, R157). -/
structure Lane where
  state : LaneState := .down
  align : Nat := 0
  malformed : Nat := 0
  silence : Option Nat := none
  params : LaneParams := {}
  nextNo : DelivNo := 0
  window : List WindowEntry := []
  fifo : List FifoBlock := []
  ctrl : List CtrlWord := []
  line : LaneLine := .none
  suspendPending : Bool := false
  refusing : Bool := false
  view : Option Readiness := none
  counters : LaneCounters := {}
deriving DecidableEq, Repr

/-! Replies (R159–R161 and the reply each request's rule gives) -/

/-- What LIST_STATIONS says of a port (R59). -/
structure PortLine where
  link : Link
  entry : Option Nat
  kept : Option (StationId × UnlistedReason)
deriving DecidableEq, Repr

/-- What LIST_STATIONS says of a directory index (R59). -/
inductive EntryLine where
  | free (index : Nat) (reservedFor : Option Nat)
  | used (index : Nat) (id : StationId) (name : Text) (present : Bool) (feed : FeedState) (bound : Option Nat)
deriving DecidableEq, Repr

/-- What LIST_SUSPECTS says of a record, by R39's list; R43a names upload failures beside the FAULT cause, R39 does not, and
the model leaves them to READ_SHEET (log 33). -/
structure SuspectLine where
  seq : Nat
  state : SheetState
  evidence : Evidence
  fault : Option FaultCause
  imagesReady : Bool
  inPath : Bool
deriving DecidableEq, Repr

/-- The data of a reply, as the request's rule lists them. -/
inductive ReplyData where
  | empty
  | attention (pairs : List Attn) (more : Bool) (total : Nat)
  | count (n : Nat)
  | records (n : Nat)
  | roomParams (r : RoomParams)
  | room (r : RoomParams) (clock : BitVec 32) (freeSheets freeBatches freeEntries uploads pairs : Nat)
      (store : StoreState) (differing : Nat)
  | mask (m : List AttnKind)
  | stations (ports : List PortLine) (entries : List EntryLine)
  | station (x : Entry) (holds : List Hold) (path : List (Option Serial)) (picking : Option (Nat × Tag))
  | portWas (l : Link)
  | feed (f : FeedState)
  | handle (h : Nat)
  | found (h : Nat) (st : BatchState) (o : Option BatchOutcome)
  | batch (h : Nat) (b : Batch) (ph : Phase)
  | amendment (a : Amendment)
  | pauses (p : PauseSet)
  | checkpoint (target : Nat) (ph : Phase)
  | sheetFound (slot : Nat) (st : SheetState) (station : Nat) (tag : Tag) (inPath : Bool)
  | sheet (slot : Nat) (r : Sheet) (inPath : Bool) (up : Option Upload)
  | suspects (l : List SuspectLine) (more : Bool)
  | resolved (st : Option SheetState)
  | classes (l : List (Nat × ClassEntry))
  | plan (b : PlanBody) (current pending captures : Nat)
  | lane (l : Lane) (gate : Bool) (up : Option (Nat × Side))
  | laneParams (p : LaneParams)
  | laneState (st : LaneState)
deriving DecidableEq, Repr

/-- A reply: the echoed code, the result, the overrun flag and the data (R159, R160). -/
structure Reply where
  code : Byte
  result : Result
  overrun : Bool
  data : ReplyData
deriving DecidableEq, Repr

/-- The Command Port (R159, R170); `out` is what the last read transaction clocked out on CP_DO. -/
structure CommandPort where
  phase : PortPhase := .executing
  request : Option Byte := none
  reply : Option Reply := none
  overrun : Bool := false
  resetDue : Bool := false
  out : List Byte := []
deriving DecidableEq, Repr

/-- The state of the AS16. Directory entries, batch records, sheet records and uploads are kept by index; a free one is
not listed. -/
structure State where
  pending : List Instr
  resetLow : Bool
  loading : Bool
  clock : BitVec 32
  cp : CommandPort
  attention : List Attn
  room : RoomParams
  store : Store
  storeState : StoreState
  save : Option Save
  ports : Vector Port 16
  entries : Tab Entry
  reservations : Tab Nat
  sheets : Tab Sheet
  waiting : List Nat
  lastAlloc : Nat
  batches : Tab Batch
  classes : Vector ClassEntry 64
  plans : Vector Plan 16
  uploads : Tab Upload
  lastUpload : Nat
  lanes : Vector Lane 4
deriving DecidableEq, Repr

/-! Reset -/

/-- The default class table (R107). -/
def defaultClasses : Vector ClassEntry 64 :=
  (((Vector.replicate 64 {}).set 61 { kind := .checkpointMark }).set 62 { kind := .batchEnd, category := 7 }).set 63
    { kind := .separator, category := 7 }

/-- The default plan (R127). -/
def defaultPlan : PlanBody :=
  { name := [], rows := (Vector.replicate 8 {}).set 7 { primary := none } }

/-- The defaults every setting takes when the store fails its check (R169). -/
def defaultSettings : Settings :=
  { room := {}, lanes := Vector.replicate 4 {}, classes := defaultClasses, plans := Vector.replicate 16 defaultPlan
    directory := Vector.replicate 24 none }

/-- The AS16 right after power-up, with the start-up load begun and a store that was never written (R169; the store's
contents are a DESIGN CHOICE, log 1). -/
def State.reset : State :=
  { pending := [], resetLow := false, loading := true, clock := 0, cp := {}, attention := []
    room := defaultSettings.room
    store := { settings := defaultSettings, checkOk := false }, storeState := .defaulted, save := none
    ports := Vector.replicate 16 {}, entries := [], reservations := []
    sheets := [], waiting := [], lastAlloc := 23, batches := []
    classes := defaultSettings.classes
    plans := Vector.replicate 16 { body := defaultPlan, captures := 0 }
    uploads := [], lastUpload := 23, lanes := Vector.replicate 4 {} }

end Sys2Proof.Machine
end

