-- ==== Sys2Proof/Machine/Ops.lean ====
section
/-! DEFINITION. The named operations over the state: keyed collections, one update per record kind, attention, downstream queues, timers, positions, tags and the finders. -/

namespace Sys2Proof

/-! Keyed collections -/

/-- The record at a key. -/
def Tab.get {α : Type} : Tab α → Nat → Option α
  | [], _ => none
  | (j, v) :: t, k => if j = k then some v else Tab.get t k

/-- Put a record at a key, keeping the keys rising. -/
def Tab.put {α : Type} : Tab α → Nat → α → Tab α
  | [], k, v => [(k, v)]
  | (j, w) :: t, k, v =>
    if k < j then (k, v) :: (j, w) :: t else if j = k then (k, v) :: t else (j, w) :: Tab.put t k v

/-- Change the record at a key; a free key stays free. -/
def Tab.modify {α : Type} (t : Tab α) (k : Nat) (f : α → α) : Tab α :=
  t.map fun p => if p.1 = k then (p.1, f p.2) else p

/-- Free a key. -/
def Tab.del {α : Type} (t : Tab α) (k : Nat) : Tab α := t.filter fun p => decide (p.1 ≠ k)

/-- The canonical form: keys strictly rising, every key below `n`. -/
abbrev Tab.wf {α : Type} (n : Nat) (t : Tab α) : Prop :=
  (t.map Prod.fst).Pairwise (· < ·) ∧ ∀ k ∈ t.map Prod.fst, k < n

/-- The lowest free key below `n`. -/
def Tab.firstFree {α : Type} (n : Nat) (t : Tab α) : Option Nat :=
  (List.range n).find? fun k => (t.get k).isNone

/-- The first record that meets a test, with its key. -/
def Tab.find {α : Type} (t : Tab α) (q : Nat → α → Bool) : Option (Nat × α) := t.find? fun p => q p.1 p.2

/-- How many records meet a test. -/
def Tab.count {α : Type} (t : Tab α) (q : α → Bool) : Nat := (t.filter fun p => q p.2).length

namespace Machine

/-! One update for each kind of record -/

/-- Change directory entry `e`. -/
def modEntry (e : Nat) (f : Entry → Entry) (s : State) : State := { s with entries := s.entries.modify e f }

/-- Change batch record `h`. -/
def modBatch (h : Nat) (f : Batch → Batch) (s : State) : State := { s with batches := s.batches.modify h f }

/-- Change the sheet record in `slot`. -/
def modSheet (slot : Nat) (f : Sheet → Sheet) (s : State) : State := { s with sheets := s.sheets.modify slot f }

/-- Change the upload of station `e`. -/
def modUpload (e : Nat) (f : Upload → Upload) (s : State) : State := { s with uploads := s.uploads.modify e f }

/-- Change port `p`. -/
def modPort (p : Fin 16) (f : Port → Port) (s : State) : State := { s with ports := s.ports.set p (f s.ports[p]) }

/-- Change lane `l`. -/
def modLane (l : Fin 4) (f : Lane → Lane) (s : State) : State := { s with lanes := s.lanes.set l (f s.lanes[l]) }

/-- Change plan `n`; a number of 16 or more changes nothing. -/
def modPlan (n : Nat) (f : Plan → Plan) (s : State) : State :=
  if h : n < 16 then { s with plans := s.plans.set n (f s.plans[n]) } else s

/-- The order in which indices below `n` are taken round from the one after `start` (R33, R134). -/
def roundOrder (n start : Nat) : List Nat := (List.range n).map fun i => (start + 1 + i) % n

/-! Attention set (R162–R164) -/

/-- All kinds in the order of the table of R162. -/
def attnKinds : List AttnKind :=
  [.stationNew, .stationCall, .stationHalted, .directoryFull, .duplicateId, .suspectOpen, .sheetFault,
   .checkpointPassed, .countReached, .batchClosed, .laneFailed, .laneRefusing, .settingsDefaulted]

/-- The place of a kind in the table of R162. -/
def attnRank : AttnKind → Nat
  | .stationNew => 0 | .stationCall => 1 | .stationHalted => 2 | .directoryFull => 3 | .duplicateId => 4
  | .suspectOpen => 5 | .sheetFault => 6 | .checkpointPassed => 7 | .countReached => 8 | .batchClosed => 9
  | .laneFailed => 10 | .laneRefusing => 11 | .settingsDefaulted => 12

/-- The kind a coded byte names, counting from 1 (11.2). -/
def attnOfCode (c : Nat) : Option AttnKind := if c = 0 then none else attnKinds[c - 1]?

/-- A pair's key, its place in the order of the set (R162). -/
def attnKey (a : Attn) : Nat := attnRank a.1 * 256 + a.2

/-- Enter a pair in key order; a pair already there is left (R162). -/
def attnInsert (a : Attn) : List Attn → List Attn
  | [] => [a]
  | b :: t => if attnKey a < attnKey b then a :: b :: t else if attnKey a = attnKey b then b :: t else b :: attnInsert a t

/-- Raise a condition: a masked kind enters nothing (R162, R163). -/
def raise (k : AttnKind) (i : Nat) (s : State) : State :=
  if k ∈ s.room.mask then s else { s with attention := attnInsert (k, i) s.attention }

/-- Remove the pairs that meet a test. -/
def dropAttention (q : Attn → Bool) (s : State) : State :=
  { s with attention := s.attention.filter fun a => !q a }

/-- The ATTN pin: high exactly while the set holds a pair, and low while RESET_N is low (R164). -/
def attnPin (s : State) : Bool := !s.resetLow && !s.attention.isEmpty

/-! Positions (3.3) -/

/-- The difference from position `a` to position `b`: `b` minus `a` modulo 65536, read as 0 where `b` lies behind. -/
def posDiff (a b : Pos) : Nat :=
  let d := (b - a).toNat
  if 32768 ≤ d then 0 else d

/-! Timers -/

/-- Suspend a running timer with its remaining time (R82). -/
def Timer.suspend : Timer → Timer
  | .running n => .suspended n
  | t => t

/-- Run a suspended timer from its remaining time (R82). -/
def Timer.resume : Timer → Timer
  | .suspended n => .running n
  | t => t

/-- Whether a timer runs. -/
def Timer.isRunning : Timer → Bool
  | .running _ => true
  | _ => false

/-- One millisecond of a timer. -/
def Timer.tick : Timer → Timer
  | .running n => .running (n - 1)
  | t => t

/-! Downstream queues (R66, R67) -/

/-- Queue HALT; a waiting RESUME is withdrawn. -/
def Queues.addHalt (q : Queues) : Queues := { q with halt := true, resume := false }
/-- Queue RESUME behind any HALT. -/
def Queues.addResume (q : Queues) : Queues := { q with resume := true }
/-- Queue DIVERT at the tail. -/
def Queues.addDivert (t : Tag) (q : Queues) : Queues := { q with divert := q.divert ++ [t] }
/-- Withdraw a waiting DIVERT. -/
def Queues.dropDivert (t : Tag) (q : Queues) : Queues := { q with divert := q.divert.filter fun x => decide (x ≠ t) }
/-- Queue FLOW in place of a waiting one. -/
def Queues.addFlow (go : Bool) (q : Queues) : Queues := { q with flow := some go }
/-- Queue GRANT. -/
def Queues.addGrant (t : Tag) (q : Queues) : Queues := { q with grant := some t }
/-- Withdraw a waiting GRANT for a tag. -/
def Queues.dropGrant (t : Tag) (q : Queues) : Queues := if q.grant = some t then { q with grant := none } else q
/-- Queue UPLOAD. -/
def Queues.addUpload (t : Tag) (sd : Side) (q : Queues) : Queues := { q with upload := some (t, sd) }
/-- Withdraw the UPLOAD and FLOW words of an ended upload. -/
def Queues.dropUpload (q : Queues) : Queues := { q with upload := none, flow := none }
/-- Queue RELEASE at the tail. -/
def Queues.addRelease (r : Tag × ReleaseOutcome) (q : Queues) : Queues := { q with release := q.release ++ [r] }
/-- Queue IDENTIFY in place of a waiting one. -/
def Queues.addIdentify (on : Bool) (q : Queues) : Queues := { q with identify := some on }
/-- Queue QUERY in place of a waiting one. -/
def Queues.addQuery (q : Queues) : Queues := { q with query := true }

/-- The next word by rank with the queues it leaves: HALT, DIVERT, FLOW, GRANT, RESUME, UPLOAD, RELEASE, IDENTIFY,
QUERY (R67). -/
def Queues.next (q : Queues) : Option (DownWord × Queues) :=
  if q.halt then some (.halt, { q with halt := false }) else
  match q.divert with
  | t :: ts => some (.divert t, { q with divert := ts })
  | [] =>
  match q.flow with
  | some g => some (.flow g, { q with flow := none })
  | none =>
  match q.grant with
  | some t => some (.grant t, { q with grant := none })
  | none =>
  if q.resume then some (.resume, { q with resume := false }) else
  match q.upload with
  | some (t, sd) => some (.upload t sd, { q with upload := none })
  | none =>
  match q.release with
  | (t, o) :: rs => some (.release t o, { q with release := rs })
  | [] =>
  match q.identify with
  | some b => some (.identify b, { q with identify := none })
  | none => if q.query then some (.query, { q with query := false }) else none

/-- The TIME word that begins to leave now (R67). -/
def timeWord (s : State) : DownWord := .time (s.clock.setWidth 16)

/-- Change the queues of the port entry `e` is attached to; nothing is queued for an absent station (R66). -/
def onQueues (e : Nat) (f : Queues → Queues) (s : State) : State :=
  match (s.entries.get e).bind (·.port) with
  | some p => modPort p (fun x => { x with queues := f x.queues }) s
  | none => s

/-! Finders -/

/-- The station is PRESENT: attached to a port (R57). -/
def present (s : State) (e : Nat) : Bool := ((s.entries.get e).bind (·.port)).isSome

/-- The record a word of entry `e` names by tag (R36). -/
def findTagged (s : State) (e : Nat) (t : Tag) : Option (Nat × Sheet) :=
  s.sheets.find fun _ r => decide (r.station = e) && decide (r.tag = t)

/-- The station's record in PICKING (R80). -/
def pickingOf (s : State) (e : Nat) : Option (Nat × Sheet) :=
  s.sheets.find fun _ r => decide (r.station = e) && decide (r.state = .picking)

/-- The live record that carries a serial (R37). -/
def findSerial (s : State) (x : Serial) : Option (Nat × Sheet) :=
  s.sheets.find fun _ r => decide (r.batch = x.batch) && decide (r.seq = some x.seq)

/-- The serial of a record, once it has a sequence. -/
def Sheet.serial (r : Sheet) : Option Serial := r.seq.map fun q => { batch := r.batch, seq := q }

/-- The record stands in its station's path queue (R84). -/
def inPath (s : State) (slot : Nat) (r : Sheet) : Bool :=
  match s.entries.get r.station with
  | some x => x.path.any fun c => decide (c.slot = slot)
  | none => false

/-- The entry that holds a station ID (R51). -/
def findId (s : State) (i : StationId) : Option (Nat × Entry) := s.entries.find fun _ x => decide (x.id = i)

/-- The record, not FREE, that carries a label (R3). -/
def findLabel (s : State) (l : Text) : Option (Nat × Batch) := s.batches.find fun _ b => decide (b.label = l)

/-- The batch bound to a station. -/
def boundBatch (s : State) (e : Nat) : Option Nat := (s.entries.get e).bind (·.bound)

/-- The station bound to a batch. -/
def boundStation (s : State) (h : Nat) : Option Nat := (s.batches.get h).bind (·.bound)

/-- The plan row a record's captured plan gives its category (R130). -/
def planRow (s : State) (r : Sheet) : Option Row :=
  match r.captured, r.cls with
  | some c, some (_, cat) => if h : c.plan < 16 ∧ cat < 8 then some (s.plans[c.plan].body.rows[cat]'h.2) else none
  | _, _ => none

/-! Grant tags (R30) -/

/-- A RELEASE word for the tag waits in the port's queue or is on its line. -/
def releaseWaiting (x : Port) (t : Tag) : Bool :=
  x.queues.release.any (fun r => decide (r.1 = t)) ||
  match x.line with
  | some (.release u _) => decide (u = t)
  | _ => false

/-- The tag is held for the entry: by a live record, by an owed release, or by a RELEASE word that has not left. -/
def tagHeld (s : State) (e : Nat) (x : Entry) (t : Tag) : Bool :=
  (findTagged s e t).isSome || x.owed.any (fun r => decide (r.1 = t)) ||
  match x.port with
  | some p => releaseWaiting s.ports[p] t
  | none => false

/-- The first of `n` tags from `t` on, wrapping, that is not held. -/
def freeTagFrom (held : Tag → Bool) : Nat → Tag → Option Tag
  | 0, _ => none
  | n + 1, t => if held t then freeTagFrom held n (t + 1) else some t

/-- The tag the next grant of the entry takes, if one is free. -/
def freeTag (s : State) (e : Nat) (x : Entry) : Option Tag := freeTagFrom (tagHeld s e x) Config.tagCount x.nextTag

/-- Put an owed release in the list, kept in order of tag with one pair for a tag (R42). -/
def owe (r : Tag × ReleaseOutcome) : List (Tag × ReleaseOutcome) → List (Tag × ReleaseOutcome)
  | [] => [r]
  | q :: t => if r.1 < q.1 then r :: q :: t else if r.1 = q.1 then r :: t else q :: owe r t

/-- A counter that stops at 65535 (R9, R151). -/
def bump (n : Nat) : Nat := if n < Config.counterTop then n + 1 else Config.counterTop

end Machine
end Sys2Proof
end

