-- ==== Sys2Proof/Machine/Flags.lean ====
section
/-! DEFINITION. The judgments the manual computes from the records: pause reasons, checkpoint phase, hold reasons, evidence, lateness, jams, the offer gate and eligibility for upload. -/

namespace Sys2Proof.Machine

/-! Batches (chapters 1 and 7) -/

/-- The highest sequence the batch has assigned or will assign to its PICKING record (R117). -/
def Batch.reached (b : Batch) : Nat := b.nextSeq - 1 + b.picking

/-- The checkpoint grant limit is hit (R121). -/
def Batch.limitHit (b : Batch) : Bool :=
  match b.target with
  | some t => decide (t ≤ b.reached)
  | none => false

/-- An expected count is present and fed plus picking is at least that count (R13). -/
def Batch.countHit (b : Batch) : Bool :=
  match b.expected with
  | some n => decide (n ≤ b.fed + b.picking)
  | none => false

/-- Next sequence plus picking exceeds 65535 (R14). -/
def Batch.sequenceHit (b : Batch) : Bool := decide (Config.lastSequence < b.nextSeq + b.picking)

/-- The suspect limit is set and reached (R15). -/
def Batch.suspectHit (b : Batch) : Bool := decide (b.suspectLimit ≠ 0) && decide (b.suspectLimit ≤ b.openSuspects)

/-- No pause reason stands (R11). -/
def PauseSet.isEmpty (p : PauseSet) : Bool :=
  !(p.host || p.checkpoint || p.suspectLimit || p.countReached || p.sequenceEnd)

/-- The judged members of the pause-reason set; HOST is kept, SEQUENCE_END is latched, and CLOSED judges nothing
(R13–R15, R21, R121). -/
def Batch.judgePauses (b : Batch) : Batch :=
  if b.state = .closed then b
  else { b with pauses := { b.pauses with
    checkpoint := b.limitHit
    suspectLimit := b.suspectHit
    countReached := b.countHit
    sequenceEnd := b.pauses.sequenceEnd || b.sequenceHit } }

/-- The checkpoint phase (R117). -/
def Batch.phase (b : Batch) : Phase :=
  match b.target with
  | none => .none
  | some t => if b.reached < t then .pending else if b.nextSeq - 1 < t then .limited else .armed

/-- The periodic target: the smallest multiple of the interval above L, unless it is above 65535 (R118). -/
def Batch.periodicTarget (b : Batch) : Option Nat :=
  if b.interval = 0 then none
  else
    let t := (b.last / b.interval + 1) * b.interval
    if t ≤ Config.lastSequence then some t else none

/-- The batch with a pending amendment's fields put into force (R17, R123 step 2). -/
def Batch.applyAmendment (b : Batch) : Batch :=
  match b.pendingAmend with
  | none => b
  | some a => { b with
    plan := a.plan.getD b.plan
    policy := a.policy.getD b.policy
    band := a.band.getD b.band
    minGap := a.minGap.getD b.minGap
    pendingAmend := none }

/-- One checkpoint completion, steps 1 to 4 of R123. -/
def Batch.completeCheckpoint (b : Batch) : Batch :=
  match b.target with
  | none => b
  | some t =>
    let b := { b with last := t, passed := b.passed + 1 }.applyAmendment
    { b with target := b.periodicTarget }.judgePauses

/-- The checkpoint of batch `h` can complete: ARMED, nothing picking, no live record at or below T (R123). -/
def checkpointDone (s : State) (h : Nat) : Bool :=
  match s.batches.get h with
  | none => false
  | some b =>
    match b.target with
    | none => false
    | some t =>
      decide (b.state = .open) && decide (t ≤ b.nextSeq - 1) && decide (b.picking = 0) &&
      !(s.sheets.any fun p => decide (p.2.batch = h) && (match p.2.seq with | some q => decide (q ≤ t) | none => false))

/-! Hold reasons (R79) -/

/-- The lower of the station share and the store capacity, the capacity while it is present (R32, R79). -/
def storeRoom (s : State) (x : Entry) : Nat :=
  match x.facts with
  | some f => min s.room.share f.capacity
  | none => s.room.share

/-- A member of the set, present while its condition stands. -/
def member (stands : Bool) (h : Hold) : List Hold := if stands then [h] else []

/-- The hold reasons the bound batch gives (R79). -/
def batchHolds (b : Batch) : List Hold :=
  member (!(decide (b.state = .open) && b.pauses.isEmpty)) .batch ++ (member b.limitHit .checkpointLimit ++
  (member b.countHit .count ++ member b.sequenceHit .sequence))

/-- The hold reasons the status view gives (R79). -/
def viewHolds (v : StatusView) : List Hold := member v.trayEmpty .trayEmpty ++ member v.coverOpen .coverOpen

/-- BATCH, CHECKPOINT_LIMIT, COUNT and SEQUENCE, judged while a batch is bound (R79). -/
def boundHolds (s : State) (x : Entry) : List Hold :=
  match x.bound.bind s.batches.get with
  | some b => batchHolds b
  | none => []

/-- TRAY_EMPTY and COVER_OPEN, judged while a status view is present (R79). -/
def entryViewHolds (x : Entry) : List Hold :=
  match x.view with
  | some v => viewHolds v
  | none => []

/-- The hold reasons of an entry other than NO_RECORD, in the order of the table (R79). -/
def holdsBut (s : State) (e : Nat) (x : Entry) : List Hold :=
  member (decide (x.feed ≠ .running)) .notRunning ++ (member x.bound.isNone .noBatch ++
  (member x.port.isNone .absent ++ (member (x.port.isSome && x.view.isNone) .noStatus ++
  (member x.hostHold .hostHold ++ (boundHolds s x ++ (member (pickingOf s e).isSome .picking ++
  (member (decide (Config.pathRoom ≤ x.path.length)) .pathFull ++ (entryViewHolds x ++
  member (decide (storeRoom s x ≤ x.liveCount) || (freeTag s e x).isNone) .storeFull))))))))

/-- The hold-reason set of an entry (R79). -/
def holds (s : State) (e : Nat) (x : Entry) : List Hold :=
  match holdsBut s e x with
  | [] => if (s.sheets.firstFree Config.sheetCount).isSome then [] else [.noRecord]
  | l => l

/-- A re-judgment of the entry is a grant decision: no reason but possibly NO_RECORD stands (R80). -/
def grantReady (s : State) (e : Nat) : Bool :=
  match s.entries.get e with
  | some x => (holdsBut s e x).isEmpty
  | none => false

/-! Sheets (chapters 2 and 5) -/

/-- The record is an open suspect of its batch (R8). -/
def Sheet.isOpenSuspect (r : Sheet) : Bool := decide (r.state = .suspect) || decide (r.state = .fault)

/-- The record completes (R40). -/
def Sheet.complete (r : Sheet) : Bool :=
  decide (r.state = .routing) && r.tray.isSome && (decide (r.verdict = .clear) || r.resolved) && r.images.isSome &&
  match r.deliveries with
  | some ds => ds.all fun d => decide (d.status = .done)
  | none => false

/-- Some system evidence stands (R91). -/
def Evidence.system (v : Evidence) : Bool := v.cleared || v.linkLost || v.beyondEnd || v.passed

/-- The number of maskable members (R91). -/
def Evidence.maskable (v : Evidence) : Nat :=
  v.thickness.toNat + v.length.toNat + v.shortLength.toNat + v.shortGap.toNat

/-- THICKNESS holds (R96 step 3, R97). -/
def thicknessEvidence (r : Sheet) (c : Captured) (exempt : Bool) : Bool :=
  !exempt && match r.thick with
  | some (.multiple, _) => true
  | some (.unknown, _) => c.policy.unknownCounts
  | _ => false

/-- LENGTH holds (R96 step 3). -/
def lengthEvidence (r : Sheet) (c : Captured) : Bool :=
  match r.length, c.band with
  | some n, some b => decide (b.max < n)
  | _, _ => false

/-- SHORT_LENGTH holds (R96 step 3). -/
def shortLengthEvidence (r : Sheet) (c : Captured) : Bool :=
  match r.length, c.band with
  | some n, some b => decide (n < b.min)
  | _, _ => false

/-- SHORT_GAP holds (R96 step 3). -/
def shortGapEvidence (r : Sheet) (c : Captured) : Bool :=
  match r.gap with
  | some g => decide (g < c.minGap)
  | none => false

/-- The evidence set with the maskable members the captured mask admits (R96 step 3). -/
def judgeEvidence (r : Sheet) (c : Captured) (exempt : Bool) : Evidence :=
  { r.evidence with
    thickness := c.policy.mask.thickness && thicknessEvidence r c exempt
    length := c.policy.mask.length && lengthEvidence r c
    shortLength := c.policy.mask.shortLength && shortLengthEvidence r c
    shortGap := c.policy.mask.shortGap && shortGapEvidence r c }

/-- The maskable members an agreement asks for (R92). -/
def agreementCount : Agreement → Nat
  | .any => 1
  | .two => 2

/-- The verdict (R96 step 4). -/
def decideVerdict (v : Evidence) (a : Agreement) : Verdict :=
  if v.system || decide (agreementCount a ≤ v.maskable) then .suspect else .clear

/-- All three inputs of the verdict are present (R94). -/
def Sheet.inputsComplete (r : Sheet) : Bool := r.length.isSome && r.thick.isSome && r.pattern.isSome

/-- A DIVERT order is late at the last position (R100). -/
def divertLate (x : Entry) (c : Place) : Bool :=
  match x.facts, c.gaugeLead, x.lastPos with
  | some f, some g, some p => decide (f.gaugeToExit + f.divertLimit < posDiff g p)
  | _, _, _ => false

/-! The paper path (chapter 4) -/

/-- A sheet has gone beyond its jam distance at a position without its next edge (R88). -/
def placeJammed (s : State) (f : StationFacts) (pos : Pos) (c : Place) : Bool :=
  match c.gaugeLead, c.gaugeTrail with
  | none, _ => decide (f.pickToGauge + s.room.jamSlack < posDiff c.pickLead pos)
  | some g, none => decide (Config.lengthMax + s.room.jamSlack < posDiff g pos)
  | some _, some g =>
    decide (f.gaugeToExit + (((s.sheets.get c.slot).bind (·.length)).getD 0) + s.room.jamSlack < posDiff g pos)

/-- Some sheet of the path queue is jammed at the entry's last position (R88). -/
def pathJammed (s : State) (x : Entry) : Bool :=
  match x.facts, x.lastPos with
  | some f, some p => x.path.any (placeJammed s f p)
  | _, _ => false

/-- The status view shows the cover open. -/
def Entry.coverOpen (x : Entry) : Bool :=
  match x.view with
  | some v => v.coverOpen
  | none => false

/-- The status view shows the path clear. -/
def Entry.pathClear (x : Entry) : Bool :=
  match x.view with
  | some v => v.pathClear
  | none => false

/-- The last direction reported is REVERSE. -/
def Entry.reversing (x : Entry) : Bool :=
  match x.view with
  | some v => decide (v.direction = .reverse)
  | none => false

/-- The feed state is RUNNING or READY, where halts, edges and jams are judged (R68, R74). -/
def FeedState.moving : FeedState → Bool
  | .running | .ready => true
  | _ => false

/-! Lanes (chapters 8 and 9) -/

/-- The lane carries deliveries: UP or LOOPBACK (R146, R153). -/
def LaneState.carries : LaneState → Bool
  | .up | .loopback => true
  | _ => false

/-- The offer gate is open (R146). -/
def Lane.gateOpen (l : Lane) : Bool :=
  l.state.carries && !l.suspendPending && decide (l.window.length < l.params.window) &&
  (decide (l.state ≠ .up) || (!l.refusing && decide (l.view ≠ some .busy)))

/-- The lane is a destination of an active upload (R132). -/
def laneUploading (s : State) (l : Fin 4) : Bool := s.uploads.any fun u => u.2.dests.any fun d => decide (d.1 = l)

/-- The lane's transmitter is idle (R133). -/
def transmitterIdle (s : State) (l : Fin 4) : Bool := s.lanes[l].fifo.isEmpty && !laneUploading s l

/-- The lane can take a new delivery (R133 condition 4). -/
def laneFree (s : State) (l : Fin 4) : Bool := s.lanes[l].gateOpen && transmitterIdle s l

/-- The entries an upload of a side takes: every WAITING entry of the side, but only the PRIMARY where PRIMARY and COPY
wait on the same lane (R133). -/
def sideTakes (ds : List Delivery) (sd : Side) : List Delivery :=
  match ds.filter fun d => decide (d.side = sd) && decide (d.status = .waiting) with
  | [] => []
  | a :: t => a :: (t.find? fun d => decide (d.lane ≠ a.lane)).toList

/-- The side exists on a sheet with this images-ready side count. -/
def sideWithin (sd count : Side) : Bool := decide (sd = .one) || decide (count = .two)

/-- What the upload of a side of the record in `slot` would take, if the side is eligible (R133 conditions 1, 2, 4). -/
def sideEligible (s : State) (r : Sheet) (sd : Side) : Option (List Delivery) :=
  match r.state, r.images, r.deliveries with
  | .routing, some n, some ds =>
    let w := sideTakes ds sd
    if sideWithin sd n && !w.isEmpty && (w.all fun d => laneFree s d.lane) then some w else none
  | _, _, _ => none

/-- The order in which a station's eligible sides are chosen: lowest sequence, then lower batch handle, then side 1
before side 2 (R134). -/
def sideKey (r : Sheet) (sd : Side) : Nat :=
  ((r.seq.getD 0) * Config.batchCount + r.batch) * 2 + (match sd with | .one => 0 | .two => 1)

/-- An eligible side: its key, the record's slot and the record, the side and the entries taken. -/
structure Eligible where
  key : Nat
  slot : Nat
  record : Sheet
  side : Side
  takes : List Delivery
deriving DecidableEq, Repr

/-- The eligible sides of a station's records, in table order. -/
def eligibleSides (s : State) (e : Nat) : List Eligible :=
  (s.sheets.filter fun p => decide (p.2.station = e)).flatMap fun p =>
    [Side.one, Side.two].filterMap fun sd =>
      (sideEligible s p.2 sd).map fun w => { key := sideKey p.2 sd, slot := p.1, record := p.2, side := sd, takes := w }

/-- The eligible side with the least key. -/
def leastSide : List Eligible → Option Eligible
  | [] => none
  | c :: t =>
    match leastSide t with
    | none => some c
    | some d => if d.key < c.key then some d else some c

/-- The side the arbiter would choose at station `e` (R133, R134). -/
def stationChoice (s : State) (e : Nat) : Option Eligible :=
  if present s e && (s.uploads.get e).isNone then leastSide (eligibleSides s e) else none

end Sys2Proof.Machine
end

