-- ==== Sys2Proof/Machine/Custody.lean ====
section
/-! DEFINITION. The operations batches, sheets and stations share: grants and the allocation arbiter, freeing and retiring records, releases, new suspects, halts, checkpoint completion, closing, and the judgments that end an event. -/

namespace Sys2Proof.Machine

/-! Pause reasons, checkpoints and closing (chapters 1 and 7) -/

/-- Judge the pause-reason set of batch `h` again; a COUNT_REACHED that joins raises its condition (R13). -/
def judgePausesOf (h : Nat) (s : State) : State :=
  match s.batches.get h with
  | none => s
  | some b =>
    let s1 := modBatch h Batch.judgePauses s
    if b.judgePauses.pauses.countReached && !b.pauses.countReached then raise .countReached h s1 else s1

/-- One checkpoint completion of batch `h`, with its report (R123, R125). -/
def completeOnce (h : Nat) (s : State) : State :=
  let s1 := modBatch h Batch.completeCheckpoint s
  match s.batches.get h with
  | some b => if b.report then raise .checkpointPassed h s1 else s1
  | none => s1

/-- Completions of batch `h` while its checkpoint can complete, at most `n` of them (R123 step 4). -/
def completeCheckpoints : Nat → Nat → State → State
  | 0, _, s => s
  | n + 1, h, s => if checkpointDone s h then completeCheckpoints n h (completeOnce h s) else s

/-- The binding is cleared on both sides and the station goes to IDLE, its halt cause dropped (R19, R22). -/
def unbindPair (h e : Nat) (s : State) : State :=
  modEntry e (fun x => { x with bound := none, feed := .idle, cause := none })
    (modBatch h (fun b => { b with bound := none }) s)

/-- The batch record on entry to CLOSED (R2, R22, R24). -/
def Batch.toClosed (o : BatchOutcome) (b : Batch) : Batch :=
  { b with state := .closed, outcome := some o, bound := none, pauses := {}, target := none, pendingAmend := none }

/-- Batch `h` goes to CLOSED, and BATCH_CLOSED is raised (R22, R24). -/
def enterClosed (h : Nat) (o : BatchOutcome) (s : State) : State :=
  raise .batchClosed h (modBatch h (Batch.toClosed o) s)

/-- The path queue of an entry holds a sheet of batch `h`. -/
def pathHolds (s : State) (x : Entry) (h : Nat) : Bool :=
  x.path.any fun c => match s.sheets.get c.slot with
    | some r => decide (r.batch = h)
    | none => false

/-- The unbind judgment of a batch in CLOSING (R22). -/
def judgeUnbind (h : Nat) (b : Batch) (s : State) : State :=
  match b.bound with
  | none => s
  | some e =>
    match s.entries.get e with
    | none => s
    | some x =>
      if b.picking = 0 && !pathHolds s x h && decide (x.feed ≠ .clearing) then unbindPair h e s else s

/-- The close judgment of a batch in CLOSING (R22). -/
def judgeClose (h : Nat) (s : State) : State :=
  match s.batches.get h with
  | none => s
  | some b => if b.bound = none && b.picking = 0 && b.live = 0 then enterClosed h .complete s else s

/-- The two judgments of a batch in CLOSING (R22). -/
def judgeClosing (h : Nat) (s : State) : State :=
  match s.batches.get h with
  | none => s
  | some b => if b.state = .closing then judgeClose h (judgeUnbind h b s) else s

/-- Every judgment the Batch Register makes after a change of batch `h` (R8, R13–R15, R22, R123). -/
def judgeBatch (h : Nat) (s : State) : State :=
  let s1 := judgePausesOf h s
  let s2 := completeCheckpoints (((s1.batches.get h).map (·.nextSeq)).getD 0) h s1
  judgeClosing h s2

/-- The batch record as a CLOSE, or a BATCH_END verdict, leaves it before R22 is judged (R21, R23). -/
def Batch.toClosing (b : Batch) : Batch :=
  { b with state := .closing, target := none, pauses := { b.pauses with checkpoint := false }, pendingAmend := none }

/-! Grants (R31, R33, R80) -/

/-- The record a grant allocates (R31). -/
def newSheet (h e : Nat) (t : Tag) : Sheet := { batch := h, station := e, tag := t }

/-- Allocate `slot` to station `e` and issue the grant (R30, R31, R80). -/
def allocate (e slot : Nat) (s : State) : State :=
  match s.entries.get e with
  | none => s
  | some x =>
    match x.bound, freeTag s e x with
    | some h, some t =>
      let s1 := { s with
        sheets := s.sheets.put slot (newSheet h e t)
        lastAlloc := e
        waiting := s.waiting.filter fun j => decide (j ≠ e) }
      let s2 := modBatch h (fun b => { b with picking := b.picking + 1 }) s1
      let s3 := modEntry e (fun x => { x with nextTag := t + 1, liveCount := x.liveCount + 1, traySeenEmpty := false }) s2
      judgePausesOf h (onQueues e (Queues.addGrant t) s3)
    | _, _ => s

/-- Put a station in the arbiter's waiting set (R33). -/
def joinWaiting (e : Nat) (s : State) : State :=
  if e ∈ s.waiting then s else { s with waiting := s.waiting ++ [e] }

/-- Judge an entry's hold reasons again; if none stands, that is a grant decision (R80). -/
def rejudge (e : Nat) (s : State) : State :=
  if grantReady s e then
    match s.sheets.firstFree Config.sheetCount with
    | some slot => allocate e slot s
    | none => joinWaiting e s
  else s

/-- The arbiter's round over waiting stations: those found failing leave, the first that meets every condition is
served (R33). -/
def serveFirst : List Nat → State → State
  | [], s => s
  | e :: es, s =>
    if grantReady s e then
      match s.sheets.firstFree Config.sheetCount with
      | some slot => allocate e slot s
      | none => s
    else serveFirst es { s with waiting := s.waiting.filter fun j => decide (j ≠ e) }

/-- Offer a freed slot to the allocation arbiter (R33). -/
def offerSlot (s : State) : State :=
  serveFirst ((roundOrder Config.entryCount s.lastAlloc).filter fun e => decide (e ∈ s.waiting)) s

/-- Offer `n` freed slots in turn (R33). -/
def offerSlots : Nat → State → State
  | 0, s => s
  | n + 1, s => offerSlots n (offerSlot s)

/-- Judge several entries in the order of R33: increasing index from the one after `start`. -/
def rejudgeAll (es : List Nat) (start : Nat) (s : State) : State :=
  ((roundOrder Config.entryCount start).filter fun e => decide (e ∈ es)).foldl (fun t e => rejudge e t) s

/-- The judgments that end an event: those of the batches it touched, then the hold reasons of the entries it touched
and of the stations those batches were bound to; `start` is the arbiter's last-served index when the event began. -/
def settle (hs es : List Nat) (start : Nat) (s : State) : State :=
  rejudgeAll (es ++ hs.filterMap (boundStation s)) start (hs.foldl (fun t h => judgeBatch h t) s)

/-! Releases, freeing and retiring (R35, R41, R42) -/

/-- A release falls due: queued to a present station, owed to an absent one (R42). -/
def releaseDue (e : Nat) (t : Tag) (o : ReleaseOutcome) (s : State) : State :=
  if present s e then onQueues e (Queues.addRelease (t, o)) s
  else modEntry e (fun x => { x with owed := owe (t, o) x.owed }) s

/-- The batch's counts when a record of it retires (R8). -/
def Batch.loseRecord (r : Sheet) (b : Batch) : Batch :=
  { b with live := b.live - 1, openSuspects := if r.isOpenSuspect then b.openSuspects - 1 else b.openSuspects }

/-- The capture count of the plan a retiring record captured falls (R127). -/
def dropCapture (r : Sheet) (s : State) : State :=
  match r.captured with
  | some c => modPlan c.plan (fun p => { p with captures := p.captures - 1 }) s
  | none => s

/-- The record in `slot` leaves the table, before its slot is offered to the arbiter; `due` is the release owed for it,
if any (R41, R42). -/
def removeRecord (slot : Nat) (due : Option ReleaseOutcome) (s : State) : State :=
  match s.sheets.get slot with
  | none => s
  | some r =>
    let s1 := { s with sheets := s.sheets.del slot }
    let s2 := modBatch r.batch (Batch.loseRecord r) s1
    let s3 := modEntry r.station (fun x => { x with liveCount := x.liveCount - 1 }) s2
    let s4 := dropCapture r s3
    match due with
    | some o => releaseDue r.station r.tag o s4
    | none => s4

/-- Retire the record in `slot` and offer its slot (R41). -/
def retireRecord (slot : Nat) (due : Option ReleaseOutcome) (s : State) : State :=
  offerSlot (removeRecord slot due s)

/-- Free the record in `slot` from PICKING, uncounted; a waiting GRANT is withdrawn (R35, R66). -/
def freePicking (slot : Nat) (s : State) : State :=
  match s.sheets.get slot with
  | none => s
  | some r =>
    let s1 := { s with sheets := s.sheets.del slot }
    let s2 := modBatch r.batch (fun b => { b with picking := b.picking - 1 }) s1
    let s3 := modEntry r.station (fun x => { x with liveCount := x.liveCount - 1 }) s2
    onQueues r.station (Queues.dropGrant r.tag) s3

/-- The record in `slot` completes if every condition of R40 holds: completed rises, RELEASE KEPT falls due and the
record retires. -/
def completeIfDone (slot : Nat) (s : State) : State :=
  match s.sheets.get slot with
  | none => s
  | some r =>
    if r.complete then
      retireRecord slot (some .kept) (modBatch r.batch (fun b => { b with completed := b.completed + 1 }) s)
    else s

/-! Suspects and halts (R74, R98) -/

/-- A record in IN_PATH becomes a new suspect (R98). -/
def newSuspect (slot : Nat) (s : State) : State :=
  match s.sheets.get slot with
  | none => s
  | some r =>
    let s1 := modSheet slot (fun r => { r with state := .suspect }) s
    let s2 := modBatch r.batch (fun b => { b with openSuspects := b.openSuspects + 1 }) s1
    raise .suspectOpen r.batch (judgePausesOf r.batch s2)

/-- A record in a path queue gains system evidence; from IN_PATH it becomes a new suspect (R29, R91, R98). -/
def gainEvidence (f : Evidence → Evidence) (slot : Nat) (s : State) : State :=
  match s.sheets.get slot with
  | none => s
  | some r =>
    let s1 := modSheet slot (fun r => { r with evidence := f r.evidence }) s
    if r.state = .inPath then newSuspect slot s1 else s1

/-- The entry a halt cause leaves (R74). -/
def Entry.halted (c : HaltCause) (x : Entry) : Entry :=
  match x.feed with
  | .running | .ready =>
    { x with feed := if x.coverOpen then .clearing else .halted, cause := some c, timer := x.timer.suspend }
  | .halted => if c = .linkLost ∨ c = .abort then { x with cause := some c } else x
  | .clearing =>
    if c = .linkLost then { x with feed := .halted, cause := some c }
    else if c = .abort then { x with cause := some c } else x
  | .idle => x

/-- STATION_HALTED is raised for the cause in this feed state (R74). -/
def haltRaises (f : FeedState) (c : HaltCause) : Bool :=
  match f with
  | .running | .ready => true
  | .halted => decide (c = .linkLost) || decide (c = .abort)
  | .clearing => decide (c = .linkLost)
  | .idle => false

/-- Take a halt with a cause (R74, R75). -/
def halt (e : Nat) (c : HaltCause) (s : State) : State :=
  match s.entries.get e with
  | none => s
  | some x =>
    let s1 := modEntry e (Entry.halted c) s
    let s2 := if x.feed.moving then onQueues e Queues.addHalt s1 else s1
    if haltRaises x.feed c then raise .stationHalted e s2 else s2

/-- A sheet leaves its path queue: its waiting DIVERT is withdrawn, and an empty queue has no last gauge trail position
(R66, R84). -/
def leavePath (e slot : Nat) (s : State) : State :=
  let s1 := modEntry e (fun x =>
    let p := x.path.filter fun c => decide (c.slot ≠ slot)
    { x with path := p, lastGaugeTrail := if p.isEmpty then none else x.lastGaugeTrail }) s
  match s.sheets.get slot with
  | some r => onQueues e (Queues.dropDivert r.tag) s1
  | none => s1

/-- Every sheet of the path queue gains evidence and leaves the queue, in queue order (R78, R89, R103). -/
def emptyPath (f : Evidence → Evidence) (e : Nat) (s : State) : State :=
  match s.entries.get e with
  | none => s
  | some x => x.path.foldl (fun t c => leavePath e c.slot (gainEvidence f c.slot t)) s

/-- The batches of the sheets in a path queue. -/
def pathBatches (s : State) (x : Entry) : List Nat :=
  x.path.filterMap fun c => (s.sheets.get c.slot).map (·.batch)

end Sys2Proof.Machine
end

