-- ==== Sys2Proof/Machine/Delivery.lean ====
section
/-! DEFINITION. The operations the Image Router and the Archive Lane Engines share: delivery entries, windows, abandonment, upload ends and failures, FAULT, lane failure, flow control and the upload arbiter. -/

namespace Sys2Proof.Machine

/-! Delivery entries of a record (R28, R130) -/

/-- Change every entry of a record's delivery entry list. -/
def Sheet.mapDeliveries (f : Delivery → Delivery) (r : Sheet) : Sheet :=
  { r with deliveries := r.deliveries.map (List.map f) }

/-- Change the delivery entry of a record for a side and role. -/
def modDelivery (slot : Nat) (sd : Side) (ro : Role) (f : Delivery → Delivery) (s : State) : State :=
  modSheet slot (Sheet.mapDeliveries fun d => if d.side = sd ∧ d.role = ro then f d else d) s

/-- A delivery entry returns to WAITING, its lane and rerouted flag kept. -/
def Delivery.back (d : Delivery) : Delivery := { d with status := .waiting, number := none }

/-- A delivery entry becomes DONE. -/
def Delivery.finish (d : Delivery) : Delivery := { d with status := .done, number := none }

/-- The entry has a delivery on its lane (R43a). -/
def Delivery.onLane (d : Delivery) : Bool :=
  match d.status with
  | .inFlight | .sent | .accepted => true
  | .waiting | .done => false

/-- The delivery entry of a record for a side and role. -/
def deliveryOf (r : Sheet) (sd : Side) (ro : Role) : Option Delivery :=
  r.deliveries.bind fun ds => ds.find? fun d => decide (d.side = sd) && decide (d.role = ro)

/-- The entries a row gives one side: PRIMARY, then COPY where the row has a copy lane (R130). -/
def sideEntries (w : Row) (sd : Side) : List Delivery :=
  match w.primary with
  | none => []
  | some p =>
    { side := sd, role := .primary, lane := p } ::
      match w.copy with
      | some c => [{ side := sd, role := .copy, lane := c }]
      | none => []

/-- The delivery entry list of a record (R130). -/
def buildList (w : Row) : Side → List Delivery
  | .one => sideEntries w .one
  | .two => sideEntries w .one ++ sideEntries w .two

/-- Build the list of the record in `slot` in the first event in which it is in ROUTING with images ready (R130). -/
def buildEntries (slot : Nat) (s : State) : State :=
  match s.sheets.get slot with
  | none => s
  | some r =>
    match r.state, r.images, r.deliveries, planRow s r with
    | .routing, some n, none, some w => modSheet slot (fun r => { r with deliveries := some (buildList w n) }) s
    | _, _, _, _ => s

/-! Lanes (chapter 9) -/

/-- The window entry of a delivery number. -/
def Lane.entry (l : Lane) (d : DelivNo) : Option WindowEntry := l.window.find? fun w => decide (w.number = d)

/-- A lane with the suspend-pending flag set and an empty window moves to SUSPENDED; from LOOPBACK its silence timer
starts (R145, R155). -/
def Lane.settleSuspend (l : Lane) : Lane :=
  if l.suspendPending && l.window.isEmpty && l.state.carries then
    { l with
      state := .suspended, suspendPending := false
      silence := if l.state = .loopback then some l.params.silence else l.silence
      malformed := if l.state = .loopback then 0 else l.malformed }
  else l

/-- Entry to DOWN (R145). -/
def Lane.toDown (l : Lane) : Lane :=
  { l with
    state := .down, align := 0, malformed := 0, silence := none, window := [], fifo := [], ctrl := [], line := .none
    suspendPending := false, refusing := false, view := none }

/-- A delivery's entry leaves the window. -/
def Lane.dropEntry (d : DelivNo) (l : Lane) : Lane := { l with window := l.window.filter fun w => decide (w.number ≠ d) }

/-- A delivery's blocks leave the FIFO. -/
def Lane.dropBlocks (d : DelivNo) (l : Lane) : Lane := { l with fifo := l.fifo.filter fun b => decide (b.1 ≠ d) }

/-- The control word is the OFFER or END of a delivery. -/
def CtrlWord.offersOrEnds (d : DelivNo) : CtrlWord → Bool
  | .offer n _ _ _ _ => decide (n = d)
  | .endWord n _ _ => decide (n = d)
  | .abandon _ => false

/-- Queue a control word; in LOOPBACK none is put on the line (R148). -/
def Lane.addCtrl (w : CtrlWord) (l : Lane) : Lane :=
  if l.state = .loopback then l else { l with ctrl := l.ctrl ++ [w] }

/-- A delivery is abandoned on its lane: entry, blocks and waiting OFFER or END go, and ABANDON is queued (R148). -/
def Lane.abandon (d : DelivNo) (l : Lane) : Lane :=
  let l1 := ((l.dropEntry d).dropBlocks d)
  let l2 := { l1 with
    ctrl := l1.ctrl.filter fun w => !w.offersOrEnds d
    counters := { l1.counters with abandoned := bump l1.counters.abandoned } }
  (l2.addCtrl (.abandon d)).settleSuspend

/-- The delivery of one entry is abandoned on its lane, if it is on one (R43a, R148). -/
def abandonOn (d : Delivery) (s : State) : State :=
  match d.onLane, d.number with
  | true, some n => modLane d.lane (Lane.abandon n) s
  | _, _ => s

/-- Every delivery of the record on a lane is abandoned, and its entry returns to WAITING (R43a); the ABANDON words are queued in
the order of the list, the model's choice (log 21). -/
def withdrawDeliveries (slot : Nat) (s : State) : State :=
  match s.sheets.get slot with
  | none => s
  | some r =>
    let s1 := (r.deliveries.getD []).foldl (fun t d => abandonOn d t) s
    modSheet slot (Sheet.mapDeliveries fun d => if d.onLane then d.back else d) s1

/-! Uploads (chapter 8) -/

/-- An upload ends: it leaves the IMR, and its waiting UPLOAD and FLOW words are withdrawn (R132). -/
def endUpload (e : Nat) (s : State) : State :=
  onQueues e Queues.dropUpload { s with uploads := s.uploads.del e }

/-- One destination of an upload is sent ABANDON, and its entry returns to WAITING (R140). -/
def abandonDest (slot : Nat) (sd : Side) (s : State) (x : Fin 4 × Role) : State :=
  match (s.sheets.get slot).bind (fun r => deliveryOf r sd x.2) with
  | none => s
  | some d => modDelivery slot sd x.2 Delivery.back (abandonOn d s)

/-- The upload of station `e` ends with every destination abandoned (R140, R142). -/
def abandonUpload (e : Nat) (s : State) : State :=
  match s.uploads.get e with
  | none => s
  | some u => endUpload e (u.dests.foldl (abandonDest u.slot u.side) s)

/-- The upload of the record in `slot`, if it is the active upload of its station, ends abandoned (R142). -/
def abandonUploadOf (slot : Nat) (r : Sheet) (s : State) : State :=
  match s.uploads.get r.station with
  | none => s
  | some u => if u.slot = slot then abandonUpload r.station s else s

/-- The record on entry to FAULT, or with its cause changed (R43a). -/
def Sheet.toFault (c : FaultCause) (r : Sheet) : Sheet :=
  { r with state := .fault, fault := some c, images := if c = .imagesLost then none else r.images }

/-- The effects of an entry to FAULT, or of a change of its cause, on the record and its neighbours (R43a). -/
def faultRecord (slot : Nat) (r : Sheet) (c : FaultCause) (s : State) : State :=
  let s1 := modSheet slot (Sheet.toFault c) (withdrawDeliveries slot (abandonUploadOf slot r s))
  let s2 := if r.state = .routing then modBatch r.batch (fun b => { b with openSuspects := b.openSuspects + 1 }) s1
    else s1
  if r.state = .fault ∧ r.fault = some c then s2 else raise .sheetFault r.batch s2

/-- The record in `slot`, in SUSPECT, ROUTING or FAULT, enters FAULT or has its cause changed (R43a). -/
def enterFault (slot : Nat) (c : FaultCause) (s : State) : State :=
  match s.sheets.get slot with
  | none => s
  | some r =>
    match r.state with
    | .suspect | .routing | .fault => faultRecord slot r c s
    | .picking | .inPath => s

/-- An upload failure is counted on the record; the third sends it to FAULT (R140). -/
def countFailure (slot : Nat) (s : State) : State :=
  match s.sheets.get slot with
  | none => s
  | some r =>
    let s1 := modSheet slot (fun r => { r with failures := r.failures + 1 }) s
    if Config.failureLimit ≤ r.failures + 1 then enterFault slot .uploadFailed s1 else s1

/-- Every remaining destination FIFO of an upload is at or below its lane's low level (R137). -/
def destsDrained (s : State) (u : Upload) : Bool :=
  u.dests.all fun d => decide (s.lanes[d.1].fifo.length ≤ s.lanes[d.1].params.low)

/-- Judge an upload in STOP: once its destinations have drained, FLOW(go) is queued and the stall timer runs again
(R137, R139). -/
def judgeGo (e : Nat) (s : State) : State :=
  match s.uploads.get e with
  | none => s
  | some u =>
    if !u.go && destsDrained s u then
      onQueues e (Queues.addFlow true) (modUpload e (fun u => { u with go := true, stall := .running Config.stallMs }) s)
    else s

/-- The station whose upload has the lane as a destination. -/
def uploaderOf (s : State) (l : Fin 4) : Option Nat :=
  (s.uploads.find fun _ u => u.dests.any fun d => decide (d.1 = l)).map (·.1)

/-- The lane is taken out of its upload's destinations; the loss of the last one ends the upload (R141). -/
def loseDest (l : Fin 4) (s : State) : State :=
  match uploaderOf s l with
  | none => s
  | some e =>
    let s1 := modUpload e (fun u => { u with dests := u.dests.filter fun d => decide (d.1 ≠ l) }) s
    match s1.uploads.get e with
    | none => s1
    | some u => if u.dests.isEmpty then endUpload e s1 else judgeGo e s1

/-! Lane failure (R152–R154) -/

/-- The role lane of a delivery entry in its record's row (R153). -/
def roleLane (w : Row) : Role → Option (Fin 4)
  | .primary => w.primary
  | .copy => w.copy

/-- A rerouted entry moves to its role lane if that lane is UP or LOOPBACK (R153, R154). -/
def placeBack (s : State) (w : Row) (d : Delivery) : Delivery :=
  match roleLane w d.role with
  | some l => if s.lanes[l].state.carries then { d with lane := l, rerouted := false } else d
  | none => d

/-- The placement of a delivery entry given back by a failed lane (R153). -/
def placeEntry (s : State) (w : Row) (d : Delivery) : Delivery :=
  match d.rerouted, w.fallback with
  | false, some f => { d with lane := f, rerouted := true }
  | false, none => d
  | true, _ => placeBack s w d

/-- One delivery of a failing lane: its entry returns to WAITING and is placed, and a transmitting lane leaves its upload
(R153). -/
def giveBack (l : Fin 4) (s : State) (w : WindowEntry) : State :=
  let row := (s.sheets.get w.slot).bind (planRow s)
  let s1 := modDelivery w.slot w.side w.role
    (fun d => match row with | some x => placeEntry s x d.back | none => d.back) s
  if w.phase = .transmitting then loseDest l s1 else s1

/-- The lane with its window, FIFO and control words emptied (R153). -/
def Lane.emptied (l : Lane) : Lane := { l with window := [], fifo := [], ctrl := [], refusing := false }

/-- The failure effects of a lane (R153). -/
def failureEffects (l : Fin 4) (s : State) : State :=
  modLane l Lane.emptied (s.lanes[l].window.foldl (giveBack l) s)

/-- The lane on entry to FAILED (R145, R152, R155). The word on the line stays: that a control word half sent then goes on
to its end is the model's choice (log 14). -/
def Lane.toFailed (l : Lane) : Lane :=
  { l with
    state := .failed, silence := none, malformed := 0, suspendPending := false
    counters := { l.counters with failures := bump l.counters.failures } }

/-- The lane fails (R152). -/
def failLane (l : Fin 4) (s : State) : State :=
  raise .laneFailed l (modLane l Lane.toFailed (failureEffects l s))

/-- The lane's line is lost (R145, R152). -/
def loseLine (l : Fin 4) (s : State) : State :=
  match s.lanes[l].state with
  | .aligning | .suspended => modLane l Lane.toDown s
  | .up => if s.lanes[l].window.isEmpty then modLane l Lane.toDown s else failLane l s
  | .down | .loopback | .failed => s

/-! The upload arbiter (R134, R135, R147) -/

/-- The first of `n` delivery numbers from `d` on, wrapping, that the window does not hold. -/
def freeNumberFrom (held : DelivNo → Bool) : Nat → DelivNo → DelivNo
  | 0, d => d
  | n + 1, d => if held d then freeNumberFrom held n (d + 1) else d

/-- The number the lane's next delivery takes (R147). -/
def Lane.takeNumber (l : Lane) : DelivNo :=
  freeNumberFrom (fun d => (l.entry d).isSome) Config.deliveryCount l.nextNo

/-- The lane with a new delivery at the tail of its window and OFFER queued (R147). -/
def Lane.offer (slot : Nat) (x : Serial) (sd : Side) (ro : Role) (secure : Bool) (l : Lane) : Lane :=
  let d := l.takeNumber
  let w : WindowEntry := { number := d, slot := slot, serial := x, side := sd, role := ro, secure := secure }
  let l1 : Lane := { l with
    nextNo := d + 1, window := l.window ++ [w], counters := { l.counters with offered := bump l.counters.offered } }
  l1.addCtrl (.offer d x sd ro secure)

/-- One entry taken by an upload becomes IN_FLIGHT under its lane's next number (R135). -/
def offerEntry (slot : Nat) (x : Serial) (secure : Bool) (s : State) (d : Delivery) : State :=
  let n := s.lanes[d.lane].takeNumber
  modDelivery slot d.side d.role (fun d => { d with status := .inFlight, number := some n })
    (modLane d.lane (Lane.offer slot x d.side d.role secure) s)

/-- The upload of a chosen side of station `e` starts (R135). -/
def startUpload (e : Nat) (c : Eligible) (s : State) : State :=
  let x : Serial := { batch := c.record.batch, seq := c.record.seq.getD 0 }
  let secure := match planRow s c.record with | some w => w.secure | none => false
  let s1 := c.takes.foldl (offerEntry c.slot x secure) s
  let u : Upload :=
    { slot := c.slot, serial := x, tag := c.record.tag, side := c.side, dests := c.takes.map fun d => (d.lane, d.role) }
  onQueues e (Queues.addUpload c.record.tag c.side) { s1 with uploads := s1.uploads.put e u, lastUpload := e }

/-- The first station of a round that has an eligible side, with that side (R134). -/
def firstChoice (s : State) : List Nat → Option (Nat × Eligible)
  | [] => none
  | e :: es =>
    match stationChoice s e with
    | some c => some (e, c)
    | none => firstChoice s es

/-- At most `n` choices of the arbiter, each round starting after the station served last (R134). -/
def arbitrateN : Nat → State → State
  | 0, s => s
  | n + 1, s =>
    match firstChoice s (roundOrder Config.entryCount s.lastUpload) with
    | some (e, c) => arbitrateN n (startUpload e c s)
    | none => s

/-- The upload arbiter is judged: four lanes carry at most four uploads (R133, R134). -/
def arbitrate (s : State) : State := arbitrateN Config.uploadRoom s

/-- The upload of station `e` fails (R140). -/
def failUpload (e : Nat) (s : State) : State :=
  match s.uploads.get e with
  | none => s
  | some u => countFailure u.slot (abandonUpload e s)

/-- A delivery that ended DONE leaves the window and is counted (R149, R151). -/
def Lane.finish (d : DelivNo) (l : Lane) : Lane :=
  let l1 := l.dropEntry d
  Lane.settleSuspend { l1 with counters := { l1.counters with done := bump l1.counters.done } }

/-- A delivery ends DONE and leaves its lane's window; the record's completion is judged (R149, R156). -/
def deliveryDone (l : Fin 4) (w : WindowEntry) (s : State) : State :=
  let s1 := modLane l (Lane.finish w.number) s
  completeIfDone w.slot (modDelivery w.slot w.side w.role Delivery.finish s1)

/-- A delivery on a LOOPBACK lane ends DONE and marks its batch (R26, R156). -/
def loopbackDone (l : Fin 4) (w : WindowEntry) (s : State) : State :=
  deliveryDone l w (modBatch w.serial.batch (fun b => { b with testFlag := true }) s)

/-- A delivery whose check has agreed and whose last block has left its FIFO: END is queued, or in LOOPBACK the
delivery ends (R148, R156). -/
def closeDelivery (l : Fin 4) (d : DelivNo) (s : State) : State :=
  let x := s.lanes[l]
  match x.entry d with
  | none => s
  | some w =>
    match w.phase, w.closing with
    | .ending, some (n, k) =>
      if x.fifo.any fun b => decide (b.1 = d) then s
      else if x.state = .loopback then loopbackDone l w s
      else modLane l (Lane.addCtrl (.endWord d n k)) s
    | _, _ => s

/-- The batch and the station of the record in a slot, for the judgments that end an event. -/
def ownersOf (s : State) (slot : Nat) : List Nat × List Nat :=
  match s.sheets.get slot with
  | some r => ([r.batch], [r.station])
  | none => ([], [])

end Sys2Proof.Machine
end

