-- ==== Sys2Proof/Machine/Links.lean ====
section
/-! DEFINITION. Feed ports and the directory: link bookkeeping, reservations and re-query, detach, identification and attach. -/

namespace Sys2Proof.Machine

/-! Re-query of UNLISTED ports (R53) -/

/-- All ports in increasing number. -/
def allPorts : List (Fin 16) := List.finRange 16

/-- The lowest-numbered port that meets a test. -/
def lowestPort (s : State) (q : Port → Bool) : Option (Fin 16) := allPorts.find? fun p => q s.ports[p]

/-- The port is UNLISTED with reason FULL. -/
def Port.waitsFull (x : Port) : Bool :=
  decide (x.link = .unlisted) && match x.kept with | some (_, .full) => true | _ => false

/-- The port is UNLISTED with reason DUPLICATE for an ID. -/
def Port.waitsFor (i : StationId) (x : Port) : Bool :=
  decide (x.link = .unlisted) && match x.kept with | some (j, .duplicate) => decide (j = i) | _ => false

/-- The port moves to QUERYING and QUERY is queued; `f` is the ID it is re-queried for, if any (R49, R53). -/
def Port.toQuerying (f : Option StationId) (x : Port) : Port :=
  { x with link := .querying, align := 0, queryTimer := none, kept := none, requeriedFor := f, queues := x.queues.addQuery }

/-- A free entry is reserved for the lowest-numbered FULL port, which is re-queried; with none it is unreserved (R53). -/
def reserveEntry (i : Nat) (s : State) : State :=
  match lowestPort s Port.waitsFull with
  | some p => modPort p (Port.toQuerying none) { s with reservations := s.reservations.put i p }
  | none => { s with reservations := s.reservations.del i }

/-- The free entry reserved for a port. -/
def reservedFor (s : State) (p : Fin 16) : Option Nat := (s.reservations.find fun _ q => decide (q = p.val)).map (·.1)

/-- A port gives up its reservation, which passes to the next FULL port (R53). -/
def releaseReservation (p : Fin 16) (s : State) : State :=
  match reservedFor s p with
  | some i => reserveEntry i s
  | none => s

/-- The lowest-numbered DUPLICATE port for an ID is re-queried (R53). -/
def requeryDuplicate (i : StationId) (s : State) : State :=
  match lowestPort s (Port.waitsFor i) with
  | some p => modPort p (Port.toQuerying (some i)) s
  | none => s

/-- A port that was re-queried for an ID leaves QUERYING without attaching the entry: while the entry is still ABSENT the
next DUPLICATE port for the ID is queried (R53). -/
def passRequery (f : Option StationId) (s : State) : State :=
  match f with
  | none => s
  | some i =>
    match findId s i with
    | some (_, x) => if x.port.isNone then requeryDuplicate i s else s
    | none => s

/-! Losing a station (R54, R89) -/

/-- The RELEASE words of a port that have not left: the one on the line, then those waiting (R42, R54). -/
def Port.unsentReleases (x : Port) : List (Tag × ReleaseOutcome) :=
  (match x.line with | some (.release t o) => [(t, o)] | _ => []) ++ x.queues.release

/-- The entry after its port is lost, before the LINK_LOST halt (R54, R89). -/
def Entry.detached (rs : List (Tag × ReleaseOutcome)) (x : Entry) : Entry :=
  { x with
    port := none, owed := rs.foldl (fun l r => owe r l) x.owed
    view := none, lastPos := none, lastGaugeTrail := none, traySeenEmpty := false }

/-- The pick timer stops when the record leaves PICKING (R82). -/
def stopTimer (e : Nat) (s : State) : State := modEntry e (fun x => { x with timer := .stopped }) s

/-- The station's PICKING record is freed, if it has one, and its pick timer stops; the flag says whether a slot was
freed (R35, R89). -/
def freePickingOf (e : Nat) (s : State) : State × Bool :=
  match pickingOf s e with
  | some (slot, _) => (stopTimer e (freePicking slot s), true)
  | none => (s, false)

/-- The detach of entry `e` from port `p`: the loss is applied by every owner, and the port is left DOWN with empty
queues (R54, R89, R142). -/
def detach (e : Nat) (p : Fin 16) (s : State) : State :=
  match s.entries.get e with
  | none => modPort p (fun _ => {}) s
  | some x =>
    let hs := pathBatches s x ++ x.bound.toList ++ ((pickingOf s e).map (·.2.batch)).toList
    let rs := s.ports[p].unsentReleases
    let s1 := abandonUpload e s
    let s2 := emptyPath (fun v => { v with linkLost := true }) e s1
    let (s3, freed) := freePickingOf e s2
    let s4 := modEntry e (Entry.detached rs) (modPort p (fun _ => {}) s3)
    let s5 := halt e .linkLost s4
    let s6 := requeryDuplicate x.id s5
    let s7 := if freed then offerSlot s6 else s6
    arbitrate (settle hs [e] s.lastAlloc s7)

/-- A port goes to DOWN from any state (R49, R50, R54, R55). -/
def portDown (p : Fin 16) (s : State) : State :=
  let x := s.ports[p]
  match x.link, x.entry with
  | .down, _ => s
  | .up, some e => detach e p s
  | .querying, _ => passRequery x.requeriedFor (releaseReservation p (modPort p (fun _ => {}) s))
  | _, _ => modPort p (fun _ => {}) s

/-! Link bookkeeping (R49, R50) -/

/-- A well-formed word restarts the silence timer, clears the malformed-word count and counts toward alignment (R49,
R50). -/
def Port.wellFormed (silence : Nat) (x : Port) : Port :=
  let y := { x with silence := some silence, malformed := 0 }
  match x.link with
  | .down => x
  | .aligning =>
    if x.align + 1 < Config.alignWords then { y with align := x.align + 1 } else y.toQuerying none
  | _ => y

/-- A well-formed word on port `p`; `k` is what its owner does with it, where the port is UP and attached (R56). -/
def takeWord (p : Fin 16) (k : Nat → State → State) (s : State) : State :=
  let s1 := modPort p (Port.wellFormed s.room.silence) s
  match s.ports[p].link, s.ports[p].entry with
  | .up, some e => k e s1
  | _, _ => s1

/-- A malformed word on port `p` (R49, R50). -/
def takeMalformed (p : Fin 16) (s : State) : State :=
  match s.ports[p].link with
  | .down => s
  | .aligning => modPort p (fun x => { x with align := 0, silence := some s.room.silence }) s
  | _ =>
    if Config.malformedWords ≤ s.ports[p].malformed + 1 then portDown p s
    else modPort p (fun x => { x with malformed := x.malformed + 1, silence := some s.room.silence }) s

/-! Identification and attach (R51, R58) -/

/-- An IDENT is valid (R51). -/
def Ident.valid (w : Ident) : Bool :=
  decide (w.id.maker ≠ 65535) && decide (w.id.serial ≠ 4294967295) && Config.within 4 255 w.facts.capacity &&
  Config.within 20 4000 w.facts.pickToGauge && Config.within 20 8000 w.facts.gaugeToExit &&
  Config.within 0 8000 w.facts.divertLimit

/-- The slots of the station's live records that lose their images with its store, in increasing slot number, an order the
manual leaves open (R43a, R58, log 21). -/
def storeRecords (s : State) (e : Nat) : List Nat :=
  (s.sheets.filter fun p => decide (p.2.station = e) &&
    (decide (p.2.state = .suspect) || decide (p.2.state = .routing) || decide (p.2.state = .fault))).map Prod.fst

/-- The port an attach leaves: UP, its last call flag clear, with the words the attach queues (R43, R58, R75). -/
def attachedPort (s : State) (e : Nat) (x : Entry) (same : Bool) : Port :=
  { link := .up, silence := some s.room.silence, entry := some e
    queues :=
      { halt := decide (x.feed = .halted) || decide (x.feed = .clearing)
        release := if same then x.owed else []
        identify := if x.identify then some true else none } }

/-- The entry an attach leaves (R43, R58). -/
def Entry.attached (p : Fin 16) (w : Ident) (x : Entry) : Entry :=
  { x with port := some p, facts := some w.facts, epoch := some w.epoch, owed := [] }

/-- Entry `e` is attached to port `p` by an IDENT (R43, R58, R90). -/
def attach (e : Nat) (p : Fin 16) (w : Ident) (s : State) : State :=
  match s.entries.get e with
  | none => s
  | some x =>
    let same := decide (x.epoch = some w.epoch)
    let lost := match x.epoch with
      | some o => if o = w.epoch then [] else storeRecords s e
      | none => []
    let hs := lost.filterMap fun n => (s.sheets.get n).map (·.batch)
    let line := some (s.ports[p].line.getD (timeWord s))
    let s1 := lost.foldl (fun t n => enterFault n .imagesLost t) s
    let s2 := modPort p (fun _ => { attachedPort s e x same with line := line }) s1
    let s3 := modEntry e (Entry.attached p w) s2
    arbitrate (settle hs [e] s.lastAlloc s3)

/-- The free entry a port may take: the one reserved for it, or the lowest-numbered unreserved one (R51 case 3). -/
def availableEntry (s : State) (p : Fin 16) : Option Nat :=
  match reservedFor s p with
  | some i => some i
  | none => (List.range Config.entryCount).find? fun i =>
      (s.entries.get i).isNone && (s.reservations.get i).isNone

/-- The port goes UNLISTED with a kept ID and a reason (R49, R51). -/
def Port.toUnlisted (i : StationId) (r : UnlistedReason) (x : Port) : Port :=
  { x with link := .unlisted, queryTimer := none, kept := some (i, r), requeriedFor := none, queues := {} }

/-- A valid IDENT taken on port `p` is looked up in the directory (R51, R53). -/
def identify (p : Fin 16) (w : Ident) (s : State) : State :=
  let f := s.ports[p].requeriedFor
  match findId s w.id with
  | some (e, x) =>
    match x.port with
    | none => passRequery f (releaseReservation p (attach e p w s))
    | some _ =>
      passRequery f (releaseReservation p
        (raise .duplicateId p (modPort p (Port.toUnlisted w.id .duplicate) s)))
  | none =>
    match availableEntry s p with
    | some i =>
      let s1 := { s with entries := s.entries.put i { id := w.id }, reservations := s.reservations.del i }
      passRequery f (raise .stationNew i (attach i p w s1))
    | none =>
      passRequery f (raise .directoryFull p (modPort p (Port.toUnlisted w.id .full) s))

end Sys2Proof.Machine
end

