-- ==== Sys2Proof/Machine/Verdict.lean ====
section
/-! DEFINITION. The Double-Feed Monitor and the paths of its verdicts: assembly, evidence, disposition, class kinds and exit checks. -/

namespace Sys2Proof.Machine

/-! Places of a path queue (R84) -/

/-- Change the place of a sheet in its station's path queue. -/
def modPlace (e slot : Nat) (f : Place → Place) (s : State) : State :=
  modEntry e (fun x => { x with path := x.path.map fun c => if c.slot = slot then f c else c }) s

/-- The place of a record in an entry's path queue. -/
def placeOf (x : Entry) (slot : Nat) : Option Place := x.path.find? fun c => decide (c.slot = slot)

/-! Disposition (R99, R100) -/

/-- DIVERT is queued for a sheet and its divert-ordered flag is set (R73, R100). -/
def orderDivert (e slot : Nat) (t : Tag) (s : State) : State :=
  modPlace e slot (fun c => { c with divertOrdered := true }) (onQueues e (Queues.addDivert t) s)

/-- A suspect sheet with a formed verdict, still in its path queue, is disposed of once under its captured action
(R99, R100). -/
def dispose (e slot : Nat) (s : State) : State :=
  match s.entries.get e, s.sheets.get slot with
  | some x, some r =>
    match placeOf x slot, r.captured with
    | some c, some k =>
      if c.divertOrdered then s
      else match k.policy.action with
        | .stop => halt e .suspect s
        | .divert =>
          let s1 := orderDivert e slot r.tag s
          if divertLate x c then halt e .suspect s1 else s1
    | _, _ => s
  | _, _ => s

/-! Class kinds (chapter 6) -/

/-- The batch after a DOCUMENT verdict (R111). -/
def Batch.beginDocument (b : Batch) : Batch :=
  if b.documentOpen then b else { b with documents := b.documents + 1, documentOpen := true }

/-- A DOCUMENT verdict begins or continues a document (R111). -/
def actDocument (h slot : Nat) (s : State) : State :=
  let s1 := modBatch h Batch.beginDocument s
  match s1.batches.get h with
  | some b => modSheet slot (fun r => { r with document := some b.documents }) s1
  | none => s1

/-- A SEPARATOR verdict clears the document-open flag (R112). -/
def actSeparator (h : Nat) (s : State) : State := modBatch h (fun b => { b with documentOpen := false }) s

/-- The slots behind a sheet in a path queue. -/
def slotsBehind (x : Entry) (slot : Nat) : List Nat :=
  ((x.path.dropWhile fun c => decide (c.slot ≠ slot)).drop 1).map (·.slot)

/-- A sheet behind an end sheet gains BEYOND_END; one in IN_PATH with verdict CLEAR is disposed of at once (R104). -/
def gainBeyondEnd (e : Nat) (s : State) (slot : Nat) : State :=
  match s.sheets.get slot with
  | none => s
  | some r =>
    let s1 := gainEvidence (fun v => { v with beyondEnd := true }) slot s
    if r.state = .inPath ∧ r.verdict = .clear then dispose e slot s1 else s1

/-- A BATCH_END verdict closes the batch, clears the document-open flag and marks the sheets behind (R23, R113). -/
def actBatchEnd (e h slot : Nat) (s : State) : State :=
  let s1 := modBatch h (fun b =>
    { (if b.state = .open then b.toClosing else b) with documentOpen := false }) s
  match s1.entries.get e with
  | some x => (slotsBehind x slot).foldl (gainBeyondEnd e) s1
  | none => s1

/-- The batch after a CHECKPOINT_MARK verdict: OPEN, its target is set or lowered to the sheet's sequence (R115, R120). -/
def Batch.mark (q : Nat) (b : Batch) : Batch :=
  if b.state = .open then
    { b with target := match b.target with | some t => some (min t q) | none => some q }
  else b

/-- A CHECKPOINT_MARK verdict (R120). -/
def actMark (h : Nat) (q : Option Nat) (s : State) : State :=
  match q with
  | some n => modBatch h (Batch.mark n) s
  | none => s

/-- What the class kind does at the verdict (R110). -/
def actKind (e slot : Nat) (r : Sheet) (k : ClassKind) (s : State) : State :=
  match k with
  | .document => actDocument r.batch slot s
  | .separator => actSeparator r.batch s
  | .batchEnd => actBatchEnd e r.batch slot s
  | .checkpointMark => actMark r.batch r.seq s

/-! The verdict (R94–R96) -/

/-- The plan and policy a record captures from its batch (R92). -/
def Batch.capture (b : Batch) : Captured := { plan := b.plan, policy := b.policy, band := b.band, minGap := b.minGap }

/-- The record with class, capture, evidence and verdict, steps 1 to 4 of R96; missing thickness and pattern take their
defaults (R95). -/
def Sheet.judged (r : Sheet) (k : Captured) (classes : Vector ClassEntry 64) : Sheet :=
  let p := r.pattern.getD 0
  let r1 := { r with thick := some (r.thick.getD (.unknown, 0)), pattern := some p }
  let c := classes[p]
  let v := judgeEvidence r1 k c.exempt
  { r1 with
    cls := some (c.kind, c.category), captured := some k, evidence := v
    verdict := decideVerdict v k.policy.agreement }

/-- The verdict of the record in `slot` of station `e` is formed (R96). -/
def formVerdict (e slot : Nat) (s : State) : State :=
  match s.sheets.get slot with
  | none => s
  | some r =>
    match s.batches.get r.batch with
    | none => s
    | some b =>
      let r1 := r.judged b.capture s.classes
      let s1 := modPlan b.plan (fun p => { p with captures := p.captures + 1 }) (modSheet slot (fun _ => r1) s)
      let s2 := if r1.verdict = .suspect ∧ r.state = .inPath then newSuspect slot s1 else s1
      let s3 := if r1.verdict = .suspect ∨ r.state = .suspect then dispose e slot s2 else s2
      match r1.cls with
      | some (k, _) => actKind e slot r1 k s3
      | none => s3

/-- The verdict is formed if it is pending and its three inputs are present (R94). -/
def judgeInputs (e slot : Nat) (s : State) : State :=
  match s.sheets.get slot with
  | some r => if r.verdict = .pending ∧ r.inputsComplete then formVerdict e slot s else s
  | none => s

/-- The record a THICK or PATCH word is taken for: in the station's path queue, not in CLEARING, verdict pending (R93). -/
def reportTarget (s : State) (e : Nat) (t : Tag) : Option (Nat × Sheet) :=
  match findTagged s e t, s.entries.get e with
  | some (slot, r), some x =>
    if inPath s slot r && decide (x.feed ≠ .clearing) && decide (r.verdict = .pending) then some (slot, r) else none
  | _, _ => none

end Sys2Proof.Machine
end

