-- ==== Sys2Proof/Machine/Operands.lean ====
section
/-! DEFINITION. How a command reaches its meaning: the Command Port's judgment of a request and its reply, the hold of RESET_N, and the checks of a request's operands. -/

namespace Sys2Proof.Machine

/-- What the owner of a request answers: a refusal, which changes no state (R161), or OK with the state its event leaves
and the reply data. -/
inductive Answer where
  | refuse (r : Result)
  | done (s : State) (d : ReplyData)

/-- A reply is assembled: it carries the overrun flag, which is then cleared, and the port moves to REPLY_READY (R159,
R160). -/
def assemble (code : Byte) (r : Result) (d : ReplyData) (s : State) : State :=
  { s with cp := { s.cp with
    phase := .replyReady, request := none
    reply := some { code := code, result := r, overrun := s.cp.overrun, data := d }
    overrun := false } }

/-- The Command Port is busy (R160 case 1). -/
def busy (s : State) : Bool := decide (s.cp.phase ≠ .idle)

/-- A frame that arrives at a busy port is discarded and sets the overrun flag (R160). -/
def overrun (s : State) : State := { s with cp := { s.cp with overrun := true } }

/-- While RESET_N is held low the part does nothing (R169). -/
def unheld (f : State → State) (s : State) : State := if s.resetLow then s else f s

/-- A request frame: discarded at a busy port, refused with BAD_VALUE where its parameter area is malformed (R171),
otherwise taken by its owner (R159, R160). -/
def request {α : Type} (code : Byte) (a : Params α) (owner : α → State → Answer) (s : State) : State :=
  unheld (fun s =>
    if busy s then overrun s
    else match a with
      | .malformed => assemble code .badValue .empty s
      | .given v => match owner v s with
        | .refuse r => assemble code r .empty s
        | .done s1 d => assemble code .ok d s1) s

/-- An event of a link, a lane or a timer; none happens while RESET_N is low or before the start-up load has ended
(R169). -/
def event (f : State → State) (s : State) : Host.Outcome State Fault Refusal :=
  .next (if s.resetLow || s.loading then s else f s)

/-! Checks of operands -/

/-- A label is well formed (R3). -/
def labelOk (l : Text) : Bool :=
  Config.within 1 16 l.length && (l.all fun c => Config.within 32 126 c.toNat) &&
  decide (l.head? ≠ some 32) && decide (l.getLast? ≠ some 32)

/-- A name is well formed: at most `n` characters, codes 32–126 (R60, R129). -/
def nameOk (n : Nat) (l : Text) : Bool := decide (l.length ≤ n) && l.all fun c => Config.within 32 126 c.toNat

/-- An optional value, where given, lies in range. -/
def optOk (q : Nat → Bool) : Option Nat → Bool
  | none => true
  | some v => q v

/-- The batch record a handle names (R4). -/
def batchAt (s : State) (h : Nat) : Option Batch := if h < Config.batchCount then s.batches.get h else none

/-- The directory entry an index names (R4, R59). -/
def entryAt (s : State) (e : Nat) : Option Entry := if e < Config.entryCount then s.entries.get e else none

/-- The sheet record a slot number names (R38). -/
def sheetAt (s : State) (n : Nat) : Option Sheet := if n < Config.sheetCount then s.sheets.get n else none

/-- The lane a number names (R154). -/
def laneAt (n : Nat) : Option (Fin 4) := if h : n < 4 then some ⟨n, h⟩ else none

/-- The record a serial names, once its batch is found (R37, R44). -/
def serialAt (s : State) (x : Serial) : Option (Nat × Sheet) := if (batchAt s x.batch).isSome then findSerial s x else none

/-- A length band is well formed (R1, R5). -/
def bandOk (b : Band) : Bool := Config.bandMinOk b.min && Config.bandMaxOk b.max && decide (b.min < b.max)

/-- A request on a batch: NOT_FOUND, or its owner's answer (R4). -/
def withBatch (h : Nat) (s : State) (k : Batch → Answer) : Answer :=
  match batchAt s h with
  | none => .refuse .notFound
  | some b => k b

/-- A request on a directory entry: NOT_FOUND, or its owner's answer (R59–R61, 4.2). -/
def withEntry (e : Nat) (s : State) (k : Entry → Answer) : Answer :=
  match entryAt s e with
  | none => .refuse .notFound
  | some x => k x

/-- A request on a lane: NOT_FOUND, or its owner's answer (R154, R155, R157). -/
def withLane (n : Nat) (k : Fin 4 → Answer) : Answer :=
  match laneAt n with
  | none => .refuse .notFound
  | some l => k l

/-! Addresses (R62) -/

/-- An address with maker code 65535 and a serial other than all ones is refused (R62). -/
def addressOk (a : StationId) : Bool := decide (a.maker ≠ 65535) || decide (a.serial = 4294967295)

/-- An address matches an entry: room-wide, maker-wide or single (R62). -/
def addressMatches (a : StationId) (x : Entry) : Bool :=
  if a.serial = 4294967295 then decide (a.maker = 65535) || decide (x.id.maker = a.maker) else decide (x.id = a)

/-- The entries an address matches, present or absent (R62). -/
def matching (s : State) (a : StationId) : List Nat :=
  (s.entries.filter fun p => addressMatches a p.2).map Prod.fst

end Sys2Proof.Machine
end

