-- ==== Sys2Proof/Machine/Clock.lean ====
section
/-! DEFINITION. The room clock: one millisecond of the clock and of every timer, which passes in a step on an empty queue (3.4, R167; log 3). -/

namespace Sys2Proof.Machine

/-- One millisecond of a port's timers (R49, R50). -/
def Port.tick (x : Port) : Port := { x with silence := x.silence.map (· - 1), queryTimer := x.queryTimer.map (· - 1) }

/-- One millisecond of a lane's timers (R145, R149). -/
def Lane.tick (l : Lane) : Lane :=
  { l with
    silence := l.silence.map (· - 1)
    window := l.window.map fun w => { w with timer := w.timer.map (· - 1) } }

/-- One millisecond of the room clock, which wraps, and of the running timers; none passes while RESET_N is low or before
the start-up load has ended (R167, R169). -/
def tick (s : State) : State :=
  if s.resetLow || s.loading then s
  else { s with
    clock := s.clock + 1
    ports := s.ports.map Port.tick
    entries := s.entries.map fun p => (p.1, { p.2 with timer := p.2.timer.tick })
    uploads := s.uploads.map fun p => (p.1, { p.2 with stall := p.2.stall.tick })
    lanes := s.lanes.map Lane.tick }

end Sys2Proof.Machine
end

