-- ==== Sys2Proof/Machine/BatchCmds.lean ====
section
/-! DEFINITION. The requests on batch records: opening, finding, reading, amending, binding, pausing, checkpoints, closing, aborting and retiring (chapters 1 and 7). -/

namespace Sys2Proof.Machine

/-! Opening, finding and reading (1.3) -/

/-- The length band of OPEN_BATCH is absent, or two bounds in range with min below max (R5). -/
def openBandOk (lo hi : Option Nat) : Bool :=
  match lo, hi with
  | none, none => true
  | some a, some b => bandOk { min := a, max := b }
  | _, _ => false

/-- Check 1 of OPEN_BATCH: the label and every value but the plan number (R5). -/
def openArgsOk (a : OpenArgs) : Bool :=
  labelOk a.label && openBandOk a.bandMin a.bandMax && optOk Config.minGapOk a.minGap &&
  optOk Config.intervalOk a.interval && optOk Config.expectedOk a.expected &&
  optOk Config.suspectLimitOk a.suspectLimit && optOk Config.retriesOk a.retries

/-- The policy of OPEN_BATCH, each omitted setting at its default (R5). -/
def openPolicy (a : OpenArgs) : Policy :=
  { mask := a.mask.getD Policy.default.mask
    agreement := a.agreement.getD Policy.default.agreement
    action := a.action.getD Policy.default.action
    unknownCounts := a.unknownCounts.getD Policy.default.unknownCounts }

/-- The length band of OPEN_BATCH. -/
def openBand (a : OpenArgs) : Option Band :=
  match a.bandMin, a.bandMax with
  | some lo, some hi => some { min := lo, max := hi }
  | _, _ => none

/-- The record OPEN_BATCH makes, before its periodic target (R5). -/
def openRecord (a : OpenArgs) : Batch :=
  { label := a.label, plan := a.plan.getD 0, policy := openPolicy a, band := openBand a, minGap := a.minGap.getD 40
    interval := a.interval.getD 0, expected := a.expected, suspectLimit := a.suspectLimit.getD 0
    retries := a.retries.getD 2, report := a.report.getD false }

/-- The record OPEN_BATCH makes, with its periodic target where the interval is non-zero (R5, R118). -/
def openedBatch (a : OpenArgs) : Batch := { openRecord a with target := (openRecord a).periodicTarget }

/-- The owner of OPEN_BATCH (R5). -/
def ownOpenBatch (a : OpenArgs) (s : State) : Answer :=
  if !openArgsOk a then .refuse .badValue
  else if Config.planCount ≤ a.plan.getD 0 then .refuse .notFound
  else if (findLabel s a.label).isSome then .refuse .duplicateLabel
  else match s.batches.firstFree Config.batchCount with
    | none => .refuse .tableFull
    | some h => .done { s with batches := s.batches.put h (openedBatch a) } (.handle h)

/-- OPEN_BATCH (R5). -/
def execOpenBatch (a : Params OpenArgs) (s : State) : Host.Outcome State Fault Refusal :=
  .next (request 0x20 a ownOpenBatch s)

/-- The owner of FIND_BATCH (R6). -/
def ownFindBatch (l : Text) (s : State) : Answer :=
  if labelOk l then
    match findLabel s l with
    | some (h, b) => .done s (.found h b.state b.outcome)
    | none => .refuse .notFound
  else .refuse .badValue

/-- FIND_BATCH (R6). -/
def execFindBatch (a : Params Text) (s : State) : Host.Outcome State Fault Refusal :=
  .next (request 0x21 a ownFindBatch s)

/-- The owner of READ_BATCH (R7). -/
def ownReadBatch (h : Nat) (s : State) : Answer := withBatch h s fun b => .done s (.batch h b b.phase)

/-- READ_BATCH (R7). -/
def execReadBatch (a : Params Nat) (s : State) : Host.Outcome State Fault Refusal :=
  .next (request 0x22 a ownReadBatch s)

/-! Amendments (1.6) -/

/-- Check 1 of an IMMEDIATE amendment (R16). -/
def amendNowOk (a : AmendNowArgs) : Bool :=
  (a.label.isSome || a.expected.isSome || a.suspectLimit.isSome || a.interval.isSome || a.retries.isSome) &&
  !a.foreign && a.label.all labelOk && a.expected.all (optOk Config.expectedOk) &&
  optOk Config.suspectLimitOk a.suspectLimit && optOk Config.intervalOk a.interval && optOk Config.retriesOk a.retries

/-- The amendment names an expected count below fed plus picking (R16 check 4). -/
def expectedTooLow (a : AmendNowArgs) (b : Batch) : Bool :=
  match a.expected with
  | some (some n) => decide (n < b.fed + b.picking)
  | _ => false

/-- The label is carried by another record than `h` (R16 check 5). -/
def labelTaken (s : State) (h : Nat) : Option Text → Bool
  | none => false
  | some l => (s.batches.find fun j b => decide (b.label = l) && decide (j ≠ h)).isSome

/-- The batch with the named fields changed (R16). -/
def Batch.amendFields (a : AmendNowArgs) (b : Batch) : Batch :=
  { b with
    label := a.label.getD b.label, expected := a.expected.getD b.expected
    suspectLimit := a.suspectLimit.getD b.suspectLimit, interval := a.interval.getD b.interval
    retries := a.retries.getD b.retries }

/-- A named interval sets the periodic target where none is pending (R118). -/
def Batch.amendTarget (a : AmendNowArgs) (b : Batch) : Batch :=
  if a.interval.isSome && b.target.isNone then { b with target := b.periodicTarget } else b

/-- The owner of AMEND_BATCH in mode IMMEDIATE (R16). -/
def ownAmendNow (a : AmendNowArgs) (s : State) : Answer :=
  if amendNowOk a then
    withBatch a.handle s fun b =>
      if b.state ≠ .open then .refuse .wrongState
      else if expectedTooLow a b then .refuse .badValue
      else if labelTaken s a.handle a.label then .refuse .duplicateLabel
      else
        .done (settle [a.handle] b.bound.toList s.lastAlloc
          (modBatch a.handle (fun b => (b.amendFields a).amendTarget a) s)) .empty
  else .refuse .badValue

/-- AMEND_BATCH in mode IMMEDIATE (R16). -/
def execAmendBatchImmediate (a : Params AmendNowArgs) (s : State) : Host.Outcome State Fault Refusal :=
  .next (request 0x23 a ownAmendNow s)

/-- The band an amendment names is absent or well formed (R17). -/
def amendBandOk : Option (Option Band) → Bool
  | some (some b) => bandOk b
  | _ => true

/-- Check 1 of an AT_CHECKPOINT amendment (R17). -/
def amendLaterOk (a : AmendLaterArgs) : Bool :=
  (a.plan.isSome || a.policy.isSome || a.band.isSome || a.minGap.isSome) && !a.foreign && amendBandOk a.band &&
  optOk Config.minGapOk a.minGap

/-- The pending amendment with the named fields merged in (R17). -/
def Amendment.merge (a : AmendLaterArgs) (m : Amendment) : Amendment :=
  { plan := a.plan.or m.plan, policy := a.policy.or m.policy, band := a.band.or m.band, minGap := a.minGap.or m.minGap }

/-- The owner of AMEND_BATCH in mode AT_CHECKPOINT (R17). -/
def ownAmendLater (a : AmendLaterArgs) (s : State) : Answer :=
  if amendLaterOk a then
    withBatch a.handle s fun b =>
      if !optOk (fun n => decide (n < Config.planCount)) a.plan then .refuse .notFound
      else if b.state ≠ .open then .refuse .wrongState
      else
        let m := (b.pendingAmend.getD {}).merge a
        .done (modBatch a.handle (fun b => { b with pendingAmend := some m }) s) (.amendment m)
  else .refuse .badValue

/-- AMEND_BATCH in mode AT_CHECKPOINT (R17). -/
def execAmendBatchAtCheckpoint (a : Params AmendLaterArgs) (s : State) : Host.Outcome State Fault Refusal :=
  .next (request 0x23 a ownAmendLater s)

/-! Binding (1.7) -/

/-- The binding is set on both sides, and the station goes from IDLE to READY with its misfeed count 0 (R18, R83). -/
def bindPair (h e : Nat) (s : State) : State :=
  modEntry e (fun x => { x with bound := some h, feed := .ready, misfeeds := 0 })
    (modBatch h (fun b => { b with bound := some e }) s)

/-- The owner of BIND (R18). -/
def ownBind (a : BindArgs) (s : State) : Answer :=
  withBatch a.handle s fun b =>
    withEntry a.index s fun x =>
      if b.state = .open ∧ b.bound = none ∧ x.feed = .idle then
        .done (settle [a.handle] [a.index] s.lastAlloc (bindPair a.handle a.index s)) .empty
      else .refuse .wrongState

/-- BIND (R18). -/
def execBindBatch (a : Params BindArgs) (s : State) : Host.Outcome State Fault Refusal :=
  .next (request 0x24 a ownBind s)

/-- UNBIND is allowed from entry `e` (R19). -/
def mayUnbind (s : State) (e : Nat) (x : Entry) : Bool :=
  decide (x.feed ≠ .running) && decide (x.feed ≠ .clearing) && x.path.isEmpty && (pickingOf s e).isNone

/-- The owner of UNBIND (R19). -/
def ownUnbind (h : Nat) (s : State) : Answer :=
  withBatch h s fun b =>
    match b.state, b.bound with
    | .open, some e =>
      match s.entries.get e with
      | some x =>
        if mayUnbind s e x then .done (settle [h] [e] s.lastAlloc (unbindPair h e s)) .empty else .refuse .wrongState
      | none => .refuse .wrongState
    | _, _ => .refuse .wrongState

/-- UNBIND (R19). -/
def execUnbind (a : Params Nat) (s : State) : Host.Outcome State Fault Refusal := .next (request 0x25 a ownUnbind s)

/-! Pausing (1.5) -/

/-- The pause-reason set with HOST set or cleared (R12). -/
def PauseSet.withHost (on : Bool) (p : PauseSet) : PauseSet := { p with host := on }

/-- The owner of PAUSE and RESUME_BATCH (R12); that the OK carries the set also where RESUME_BATCH finds no HOST is the model's
choice (log 29). -/
def ownPause (on : Bool) (h : Nat) (s : State) : Answer :=
  withBatch h s fun b =>
    if b.state = .open then
      .done (settle [h] b.bound.toList s.lastAlloc (modBatch h (fun b => { b with pauses := b.pauses.withHost on }) s))
        (.pauses (b.pauses.withHost on))
    else .refuse .wrongState

/-- PAUSE (R12). -/
def execPause (a : Params Nat) (s : State) : Host.Outcome State Fault Refusal :=
  .next (request 0x26 a (ownPause true) s)

/-- RESUME_BATCH (R12). -/
def execResumeBatch (a : Params Nat) (s : State) : Host.Outcome State Fault Refusal :=
  .next (request 0x27 a (ownPause false) s)

/-! Checkpoints (7.2) -/

/-- The phase a batch has after an event. -/
def phaseOf (s : State) (h : Nat) : Phase := ((s.batches.get h).map Batch.phase).getD .none

/-- The owner of CHECKPOINT (R119). -/
def ownCheckpoint (h : Nat) (s : State) : Answer :=
  withBatch h s fun b =>
    if b.state = .open ∧ b.target = none ∧ b.reached ≠ b.last then
      let s1 := settle [h] b.bound.toList s.lastAlloc (modBatch h (fun b => { b with target := some b.reached }) s)
      .done s1 (.checkpoint b.reached (phaseOf s1 h))
    else .refuse .wrongState

/-- CHECKPOINT (R119). -/
def execCheckpoint (a : Params Nat) (s : State) : Host.Outcome State Fault Refusal :=
  .next (request 0x28 a ownCheckpoint s)

/-! Closing and aborting (1.8) -/

/-- The owner of CLOSE (R21). -/
def ownClose (h : Nat) (s : State) : Answer :=
  withBatch h s fun b =>
    if b.state = .open then
      .done (settle [h] b.bound.toList s.lastAlloc (modBatch h Batch.toClosing s)) .empty
    else .refuse .wrongState

/-- CLOSE (R21). -/
def execClose (a : Params Nat) (s : State) : Host.Outcome State Fault Refusal := .next (request 0x29 a ownClose s)

/-- The bound station of an aborting batch: unbound, halted with ABORT or sent to IDLE, and rid of the batch's sheets
(R24 step 1). -/
def abortStation (h e : Nat) (s : State) : State :=
  match s.entries.get e with
  | none => s
  | some x =>
    let s1 := modEntry e (fun x => { x with bound := none }) (modBatch h (fun b => { b with bound := none }) s)
    let s2 := if x.path.isEmpty then modEntry e (fun x => { x with feed := .idle, cause := none }) s1 else halt e .abort s1
    (x.path.filter fun c => match s.sheets.get c.slot with
      | some r => decide (r.batch = h)
      | none => false).foldl (fun t c => leavePath e c.slot t) s2

/-- The slots of a batch's records in PICKING, or past it, in increasing slot number: that ABORT retires them, and so queues
their RELEASE and ABANDON words, in this order is the model's choice (log 21). -/
def batchSlots (s : State) (h : Nat) (picking : Bool) : List Nat :=
  (s.sheets.filter fun p => decide (p.2.batch = h) && decide (decide (p.2.state = .picking) = picking)).map Prod.fst

/-- A PICKING record of an aborting batch is freed, and its station's pick timer stops (R24 step 2, R82). -/
def abortPicking (s : State) (slot : Nat) : State :=
  match s.sheets.get slot with
  | none => s
  | some r => stopTimer r.station (freePicking slot s)

/-- A live record of an aborting batch: its upload ends, its deliveries are abandoned, its release falls due and it
retires (R24 steps 3 to 5). -/
def abortRecord (s : State) (slot : Nat) : State :=
  match s.sheets.get slot with
  | none => s
  | some r =>
    removeRecord slot (if r.fault = some .imagesLost then none else some .dropped)
      (withdrawDeliveries slot (abandonUploadOf slot r s))

/-- The batch's counts once an ABORT has ended its records: `n` more discarded, and picking, live and open suspects at 0 (R24
steps 2 and 5). -/
def Batch.discardAll (n : Nat) (b : Batch) : Batch :=
  { b with discarded := b.discarded + n, picking := 0, live := 0, openSuspects := 0 }

/-- The effects of an ABORT on the batch and its neighbours (R24). That its records retire in the order of their
slots, so that their RELEASE words join a port's queue and their ABANDON words a lane's in that order (R42, R148), and that
freed slots are offered once the batch is closed, is the model's choice (log 21). -/
def abortBatch (h : Nat) (b : Batch) (s : State) : State :=
  let picks := batchSlots s h true
  let lives := batchSlots s h false
  let es := b.bound.toList ++ (picks ++ lives).filterMap fun n => (s.sheets.get n).map (·.station)
  let s1 := match b.bound with | some e => abortStation h e s | none => s
  let s2 := lives.foldl abortRecord (picks.foldl abortPicking s1)
  let s3 := enterClosed h .aborted (modBatch h (Batch.discardAll lives.length) s2)
  settle [] es s.lastAlloc (arbitrate (offerSlots (picks.length + lives.length) s3))

/-- The owner of ABORT (R24). -/
def ownAbort (h : Nat) (s : State) : Answer :=
  withBatch h s fun b =>
    match b.state with
    | .open | .closing => .done (abortBatch h b s) (.records (batchSlots s h false).length)
    | .closed => .refuse .wrongState

/-- ABORT (R24). -/
def execAbort (a : Params Nat) (s : State) : Host.Outcome State Fault Refusal := .next (request 0x2A a ownAbort s)

/-- The attention pairs that go with a retired batch (R25). -/
def namesBatch (h : Nat) (a : Attn) : Bool :=
  decide (a.2 = h) &&
  (decide (a.1 = .suspectOpen) || decide (a.1 = .sheetFault) || decide (a.1 = .checkpointPassed) ||
   decide (a.1 = .countReached) || decide (a.1 = .batchClosed))

/-- The owner of RETIRE (R25). -/
def ownRetire (h : Nat) (s : State) : Answer :=
  withBatch h s fun b =>
    if b.state = .closed then .done (dropAttention (namesBatch h) { s with batches := s.batches.del h }) .empty
    else .refuse .wrongState

/-- RETIRE (R25). -/
def execRetire (a : Params Nat) (s : State) : Host.Outcome State Fault Refusal := .next (request 0x2B a ownRetire s)

end Sys2Proof.Machine
end

