-- ==== Sys2Proof/Machine/Frames.lean ====
section
/-! DEFINITION. What the AS16 puts on its lines: reply frames (11.2), words to stations (11.3) and words to archives (11.4). The item numbering of replies is the model's reading of 11.2 (log 20). -/

namespace Sys2Proof.Machine

/-! Codes: positions from 1 in the list or table that first gives the values (11.2) -/

/-- The code of a result (11.2). -/
def Result.code : Result → Byte
  | .ok => 0x00 | .badFrame => 0x01 | .unknownRequest => 0x02 | .badValue => 0x03 | .notFound => 0x04
  | .wrongState => 0x05 | .inUse => 0x06 | .tableFull => 0x07 | .duplicateLabel => 0x08 | .storeFault => 0x09

/-- The code of a link state. -/
def Link.code : Link → Nat
  | .down => 1 | .aligning => 2 | .querying => 3 | .up => 4 | .unlisted => 5

/-- The code of an unlisted reason. -/
def UnlistedReason.code : UnlistedReason → Nat
  | .full => 1 | .duplicate => 2

/-- The code of a feed state. -/
def FeedState.code : FeedState → Nat
  | .idle => 1 | .ready => 2 | .running => 3 | .halted => 4 | .clearing => 5

/-- The code of a halt cause. -/
def HaltCause.code : HaltCause → Nat
  | .jam => 1 | .misfeed => 2 | .suspect => 3 | .suspectPassed => 4 | .reverse => 5 | .linkLost => 6 | .host => 7
  | .abort => 8 | .stationFault => 9 | .cover => 10

/-- The place of a hold reason in the table of R79, from 0. -/
def Hold.bit : Hold → Nat
  | .notRunning => 0 | .noBatch => 1 | .absent => 2 | .noStatus => 3 | .hostHold => 4 | .batch => 5
  | .checkpointLimit => 6 | .count => 7 | .sequence => 8 | .picking => 9 | .pathFull => 10 | .trayEmpty => 11
  | .coverOpen => 12 | .storeFull => 13 | .noRecord => 14

/-- The code of a batch state: its position in R1's table, which names no FREE, is the model's choice beside R2's list of four
states (log 20). -/
def BatchState.code : BatchState → Nat
  | .open => 1 | .closing => 2 | .closed => 3

/-- The code of a batch outcome. -/
def BatchOutcome.code : BatchOutcome → Nat
  | .complete => 1 | .aborted => 2

/-- The code of a checkpoint phase. -/
def Phase.code : Phase → Nat
  | .none => 1 | .pending => 2 | .limited => 3 | .armed => 4

/-- The code of a sheet state; RETIRED takes the code after them (log 20). -/
def SheetState.code : SheetState → Nat
  | .picking => 1 | .inPath => 2 | .suspect => 3 | .routing => 4 | .fault => 5

/-- The code of a verdict. -/
def Verdict.code : Verdict → Nat
  | .pending => 1 | .clear => 2 | .suspect => 3

/-- The code of a FAULT cause. -/
def FaultCause.code : FaultCause → Nat
  | .uploadFailed => 1 | .imagesLost => 2

/-- The code of a thickness verdict. -/
def thickCode : ThickVerdict → Nat
  | .single => 1 | .multiple => 2 | .unknown => 3

/-- The code of a class kind. -/
def kindCode : ClassKind → Nat
  | .document => 1 | .separator => 2 | .batchEnd => 3 | .checkpointMark => 4

/-- The class kind a code names. -/
def kindOfCode : Nat → Option ClassKind
  | 1 => some .document | 2 => some .separator | 3 => some .batchEnd | 4 => some .checkpointMark | _ => none

/-- The code of a tray. -/
def trayCode : Tray → Nat
  | .output => 1 | .reject => 2

/-- The number of a side. -/
def sideCode : Side → Nat
  | .one => 1 | .two => 2

/-- The code of a role. -/
def Role.code : Role → Nat
  | .primary => 1 | .copy => 2

/-- The code of a delivery status. -/
def DeliveryStatus.code : DeliveryStatus → Nat
  | .waiting => 1 | .inFlight => 2 | .sent => 3 | .accepted => 4 | .done => 5

/-- The code of a release outcome. -/
def ReleaseOutcome.code : ReleaseOutcome → Nat
  | .kept => 1 | .dropped => 2

/-- The code of a lane state. -/
def LaneState.code : LaneState → Nat
  | .down => 1 | .aligning => 2 | .up => 3 | .suspended => 4 | .loopback => 5 | .failed => 6

/-- The code of a window phase. -/
def WindowPhase.code : WindowPhase → Nat
  | .transmitting => 1 | .ending => 2 | .awaitAccept => 3 | .awaitSecure => 4

/-- The code of an archive's readiness. -/
def readinessCode : Readiness → Nat
  | .ready => 1 | .busy => 2

/-- The code of an upload phase. -/
def UploadPhase.code : UploadPhase → Nat
  | .asked => 1 | .receiving => 2

/-- The code of a store state. -/
def StoreState.code : StoreState → Nat
  | .valid => 1 | .defaulted => 2 | .fault => 3

/-- The code of an agreement. -/
def agreementCode : Agreement → Nat
  | .any => 1 | .two => 2

/-- The code of an action. -/
def actionCode : Action → Nat
  | .stop => 1 | .divert => 2

/-- The code of a direction, in the order of R69. -/
def directionCode : Direction → Nat
  | .forward => 1 | .stopped => 2 | .reverse => 3

/-- A set as a number, one bit for each member from the least significant (11.2). -/
def setNum : List Bool → Nat
  | [] => 0
  | b :: t => b.toNat + 2 * setNum t

/-- An attention mask as a number. -/
def maskNum (m : List AttnKind) : Nat := setNum (attnKinds.map fun k => decide (k ∈ m))

/-- The kinds a coded set names, in table order; none where a bit names no kind (R163). -/
def maskOfNum (n : Nat) : Option (List AttnKind) :=
  if n < 8192 then some (attnKinds.filter fun k => n.testBit (attnRank k)) else none

/-! Items -/

/-- An item. -/
def item (i : Nat) (v : List Byte) : List Byte := BitVec.ofNat 8 i :: BitVec.ofNat 8 v.length :: v

/-- An item that holds a number of `w` bytes. -/
def itemNum (i w n : Nat) : List Byte := item i (numBytes w n)

/-- An item that holds a number, or length 0 where it is absent. -/
def itemOpt (i w : Nat) : Option Nat → List Byte
  | some n => itemNum i w n
  | none => item i []

/-- One item for each member of a list. -/
def itemList (i : Nat) (l : List (List Byte)) : List Byte := l.flatMap (item i)

/-- A number within a value of several fields, all ones where it is absent (log 20). -/
def fieldOpt (w : Nat) : Option Nat → List Byte
  | some n => numBytes w n
  | none => numBytes w (256 ^ w - 1)

/-- A station ID's six bytes. -/
def idBytes (i : StationId) : List Byte := numBytes 2 i.maker ++ numBytes 4 i.serial

/-- A serial's three bytes. -/
def serialBytes (x : Serial) : List Byte := numBytes 1 x.batch ++ numBytes 2 x.seq

/-- A policy's four bytes. -/
def policyBytes (p : Policy) : List Byte :=
  numBytes 1 (setNum [p.mask.thickness, p.mask.length, p.mask.shortLength, p.mask.shortGap]) ++
  numBytes 1 (agreementCode p.agreement) ++ numBytes 1 (actionCode p.action) ++ numBytes 1 p.unknownCounts.toNat

/-- A band's four bytes. -/
def bandBytes (b : Band) : List Byte := numBytes 2 b.min ++ numBytes 2 b.max

/-- A row's four bytes. -/
def rowBytes (r : Row) : List Byte :=
  fieldOpt 1 (r.primary.map (·.val)) ++ fieldOpt 1 (r.copy.map (·.val)) ++ fieldOpt 1 (r.fallback.map (·.val)) ++
  numBytes 1 r.secure.toNat

/-- An amendment: which of its four fields it names, then those fields; a band it removes is all ones (log 20). -/
def amendBytes (a : Amendment) : List Byte :=
  numBytes 1 (setNum [a.plan.isSome, a.policy.isSome, a.band.isSome, a.minGap.isSome]) ++
  ((a.plan.map (numBytes 1)).getD [] ++ ((a.policy.map policyBytes).getD [] ++
  ((a.band.map (fun b => (b.map bandBytes).getD (numBytes 4 0xFFFFFFFF))).getD [] ++
  (a.minGap.map (numBytes 2)).getD [])))

/-- The evidence set as a number. -/
def evidenceNum (v : Evidence) : Nat :=
  setNum [v.thickness, v.length, v.shortLength, v.shortGap, v.cleared, v.linkLost, v.beyondEnd, v.passed]

/-- The pause-reason set as a number. -/
def pauseNum (p : PauseSet) : Nat := setNum [p.host, p.checkpoint, p.suspectLimit, p.countReached, p.sequenceEnd]

/-- A hold-reason set as a number. -/
def holdNum (l : List Hold) : Nat := setNum ((List.range 15).map fun i => l.any fun h => decide (h.bit = i))

/-- A timer's state and remaining milliseconds. That the remaining time stands there in every state, also while the timer runs, and
as 0 where it is stopped, is the model's choice (R69, log 20). -/
def timerBytes : Timer → List Byte
  | .stopped => numBytes 1 1 ++ numBytes 2 0
  | .running n => numBytes 1 2 ++ numBytes 2 n
  | .suspended n => numBytes 1 3 ++ numBytes 2 n

/-- A status view's four bytes, in the order of R69. -/
def viewBytes (v : StatusView) : List Byte :=
  numBytes 1 (if v.coverOpen then 1 else 2) ++ numBytes 1 (if v.trayEmpty then 2 else 1) ++
  numBytes 1 v.pathClear.toNat ++ numBytes 1 (directionCode v.direction)

/-- The five room parameters, items 1 to 5 (R167). -/
def roomItems (r : RoomParams) : List Byte :=
  itemNum 1 1 r.share ++ itemNum 2 1 r.silence ++ itemNum 3 2 r.pickTimeout ++ itemNum 4 2 r.jamSlack ++
  itemNum 5 2 (maskNum r.mask)

/-- A port line of LIST_STATIONS (R59). -/
def portLineBytes (x : PortLine) : List Byte :=
  numBytes 1 x.link.code ++ fieldOpt 1 x.entry ++
  match x.kept with
  | some (i, r) => idBytes i ++ numBytes 1 r.code
  | none => numBytes 6 (256 ^ 6 - 1) ++ numBytes 1 255

/-- The code of PRESENT and ABSENT (R59). -/
def presenceCode (present : Bool) : Nat := if present then 1 else 2

/-- An entry line of LIST_STATIONS, its fields in R59's order; a free entry is its index and the port that reserves it,
told from one in use by its length (the model's choice, log 20). -/
def entryLineBytes : EntryLine → List Byte
  | .free i q => numBytes 1 i ++ fieldOpt 1 q
  | .used i d n p f b =>
    numBytes 1 i ++ idBytes d ++ n ++ numBytes 1 (presenceCode p) ++ numBytes 1 f.code ++ fieldOpt 1 b

/-- The items of READ_STATION: the rows of R57's table, then the lists and items of R59 and R69. -/
def stationItems (x : Entry) (hs : List Hold) (path : List (Option Serial)) (pk : Option (Nat × Tag)) : List Byte :=
  let facts := match x.facts with
    | some f => itemNum 4 2 f.model ++ itemNum 5 1 f.duplex.toNat ++ itemNum 6 1 f.capacity
    | none => item 4 [] ++ item 5 [] ++ item 6 []
  let geometry := match x.facts with
    | some f => item 8 (numBytes 2 f.pickToGauge ++ numBytes 2 f.gaugeToExit ++ numBytes 2 f.divertLimit)
    | none => item 8 []
  let picking := match pk with
    | some (n, t) => item 18 (numBytes 2 n ++ [t])
    | none => item 18 []
  let serials := path.map fun q => match q with | some y => serialBytes y | none => numBytes 3 0
  [item 1 (idBytes x.id), item 2 x.name, itemOpt 3 1 (x.port.map (·.val)), facts, itemOpt 7 2 x.epoch,
    geometry, itemNum 9 1 x.identify.toNat, itemNum 10 1 x.hostHold.toNat, itemOpt 11 1 x.bound,
    item 12 (numBytes 1 x.feed.code ++ fieldOpt 1 (x.cause.map HaltCause.code)), itemNum 13 2 (holdNum hs),
    item 14 [x.nextTag], itemNum 15 2 x.liveCount, itemList 16 (x.owed.map fun r => r.1 :: numBytes 1 r.2.code),
    itemList 17 serials, picking, itemNum 19 1 x.misfeeds, itemNum 20 2 x.owed.length, item 21 (timerBytes x.timer),
    itemNum 22 1 x.traySeenEmpty.toNat, (match x.view with | some v => item 23 (viewBytes v) | none => item 23 []),
    itemOpt 24 2 (x.lastPos.map BitVec.toNat), itemOpt 25 2 (x.lastGaugeTrail.map BitVec.toNat)].flatten

/-- The items of READ_BATCH: the rows of R1's table, then the document-open flag and the phase. -/
def batchItems (h : Nat) (b : Batch) (ph : Phase) : List Byte :=
  [itemNum 1 1 h, item 2 b.label, itemNum 3 1 b.state.code, itemOpt 4 1 (b.outcome.map BatchOutcome.code),
    itemNum 5 1 b.testFlag.toNat, itemOpt 6 1 b.bound, itemNum 7 1 b.plan, item 8 (policyBytes b.policy),
    (match b.band with | some x => item 9 (bandBytes x) | none => item 9 []), itemNum 10 2 b.minGap,
    itemNum 11 2 b.interval, itemOpt 12 2 b.target, itemNum 13 2 b.last, itemNum 14 2 b.passed, itemOpt 15 2 b.expected,
    itemNum 16 1 b.suspectLimit, itemNum 17 1 b.retries, itemNum 18 1 b.report.toNat, itemNum 19 3 b.nextSeq,
    item 20 (numBytes 2 b.fed ++ numBytes 2 b.completed ++ numBytes 2 b.discarded ++ numBytes 2 b.rescanned),
    itemNum 21 2 b.misfeeds, itemNum 22 2 b.documents, itemNum 23 1 b.picking, itemNum 24 2 b.live,
    itemNum 25 2 b.openSuspects, itemNum 26 1 (pauseNum b.pauses),
    (match b.pendingAmend with | some a => item 27 (amendBytes a) | none => item 27 []),
    itemNum 28 1 b.documentOpen.toNat, itemNum 29 1 ph.code].flatten

/-- A delivery entry of READ_SHEET; the order of its fields is R28's, the model's choice beside R38's (log 20). -/
def deliveryBytes (d : Delivery) : List Byte :=
  numBytes 1 (sideCode d.side) ++ numBytes 1 d.role.code ++ numBytes 1 d.lane ++ numBytes 1 d.rerouted.toNat ++
  numBytes 1 d.status.code ++ fieldOpt 2 (d.number.map BitVec.toNat)

/-- The items of READ_SHEET: the rows of R28's table, then the path mark and the active upload (R38, R132). -/
def sheetItems (n : Nat) (r : Sheet) (p : Bool) (up : Option Upload) : List Byte :=
  let captured := match r.captured with
    | some c => item 16 (numBytes 1 c.plan ++ policyBytes c.policy ++
        (match c.band with | some b => bandBytes b | none => numBytes 4 0xFFFFFFFF) ++ numBytes 2 c.minGap)
    | none => item 16 []
  let upload := match up with
    | some u => item 23 (numBytes 1 (sideCode u.side) ++ numBytes 1 u.phase.code ++ numBytes 2 u.taken ++
        numBytes 1 (if u.go then 1 else 2))
    | none => item 23 []
  [itemNum 1 2 n, itemNum 2 1 r.batch, itemNum 3 1 r.station, item 4 [r.tag], itemOpt 5 2 r.seq, itemOpt 6 2 r.document,
    itemNum 7 1 r.state.code, itemNum 8 1 (evidenceNum r.evidence), itemNum 9 1 r.verdict.code,
    itemNum 10 1 r.resolved.toNat, itemOpt 11 2 r.length, itemOpt 12 2 r.gap,
    (match r.thick with | some (v, l) => item 13 (numBytes 1 (thickCode v) ++ [l]) | none => item 13 []),
    itemOpt 14 1 (r.pattern.map (·.val)),
    (match r.cls with | some (k, c) => item 15 (numBytes 1 (kindCode k) ++ numBytes 1 c) | none => item 15 []),
    captured, itemOpt 17 1 (r.tray.map trayCode), itemOpt 18 1 (r.images.map sideCode),
    itemOpt 19 1 (r.fault.map FaultCause.code), itemNum 20 1 r.failures,
    itemList 21 ((r.deliveries.getD []).map deliveryBytes), itemNum 22 1 p.toNat, upload].flatten

/-- A record of LIST_SUSPECTS (R39). -/
def suspectBytes (x : SuspectLine) : List Byte :=
  numBytes 2 x.seq ++ numBytes 1 x.state.code ++ numBytes 1 (evidenceNum x.evidence) ++
  fieldOpt 1 (x.fault.map FaultCause.code) ++ numBytes 1 x.imagesReady.toNat ++ numBytes 1 x.inPath.toNat

/-- A class entry of READ_CLASS and SET_CLASS (R108, R109); that SET_CLASS's entry carries its index as READ_CLASS's do is the
model's choice (log 20). -/
def classBytes (x : Nat × ClassEntry) : List Byte :=
  numBytes 1 x.1 ++ numBytes 1 (kindCode x.2.kind) ++ numBytes 1 x.2.category ++ numBytes 1 x.2.exempt.toNat

/-- The six lane parameters, as items from `i` on (R157). -/
def laneParamItems (i : Nat) (p : LaneParams) : List Byte :=
  itemNum i 1 p.window ++ itemNum (i + 1) 1 p.high ++ itemNum (i + 2) 1 p.low ++ itemNum (i + 3) 1 p.silence ++
  itemNum (i + 4) 2 p.ack ++ itemNum (i + 5) 2 p.secure

/-- A window entry of READ_LANE (R157). -/
def windowBytes (w : WindowEntry) : List Byte :=
  numBytes 2 w.number.toNat ++ serialBytes w.serial ++ numBytes 1 (sideCode w.side) ++ numBytes 1 w.role.code ++
  numBytes 1 w.secure.toNat ++ numBytes 1 w.phase.code

/-- The items of READ_LANE: state, gate and its inputs, parameters, next number, FIFO, upload, counters, window (R157). -/
def laneItems (l : Lane) (gate : Bool) (up : Option (Nat × Side)) : List Byte :=
  let c := l.counters
  [itemNum 1 1 l.state.code, itemNum 2 1 gate.toNat, itemNum 3 1 l.suspendPending.toNat, itemNum 4 1 l.window.length,
    itemNum 5 1 l.refusing.toNat, itemOpt 6 1 (l.view.map readinessCode), laneParamItems 7 l.params,
    itemNum 13 2 l.nextNo.toNat, itemNum 14 1 l.fifo.length,
    (match up with | some (n, sd) => item 15 (numBytes 2 n ++ numBytes 1 (sideCode sd)) | none => item 15 []),
    itemNum 16 2 c.offered, itemNum 17 2 c.done, itemNum 18 2 c.refusedCheck, itemNum 19 2 c.refusedFormat,
    itemNum 20 2 c.refusedFull, itemNum 21 2 c.abandoned, itemNum 22 2 c.stray, itemNum 23 2 c.failures,
    itemList 24 (l.window.map windowBytes)].flatten

/-- The reply data as items, numbered as log 20 says; SET_CLASS's entry is an item of READ_CLASS's form (11.2, log 20). -/
def ReplyData.bytes : ReplyData → List Byte
  | .empty => []
  | .attention l more n =>
    itemList 1 (l.map fun a => numBytes 1 (attnRank a.1 + 1) ++ numBytes 1 a.2) ++ itemNum 2 1 more.toNat ++ itemNum 3 2 n
  | .count n => itemNum 1 1 n
  | .records n => itemNum 1 2 n
  | .roomParams r => roomItems r
  | .room r clock a b c d e st n =>
    [roomItems r, itemNum 6 4 clock.toNat, itemNum 7 2 a, itemNum 8 1 b, itemNum 9 1 c, itemNum 10 1 d, itemNum 11 2 e,
      itemNum 12 1 st.code, itemNum 13 1 n].flatten
  | .mask m => itemNum 1 2 (maskNum m)
  | .stations p e => itemList 1 (p.map portLineBytes) ++ itemList 2 (e.map entryLineBytes)
  | .station x hs p k => stationItems x hs p k
  | .portWas l => itemNum 1 1 l.code
  | .feed f => itemNum 1 1 f.code
  | .handle h => itemNum 1 1 h
  | .found h st o => itemNum 1 1 h ++ itemNum 2 1 st.code ++ itemOpt 3 1 (o.map BatchOutcome.code)
  | .batch h b ph => batchItems h b ph
  | .amendment a => item 1 (amendBytes a)
  | .pauses p => itemNum 1 1 (pauseNum p)
  | .checkpoint t ph => itemNum 1 2 t ++ itemNum 2 1 ph.code
  | .sheetFound n st e t p =>
    itemNum 1 2 n ++ itemNum 2 1 st.code ++ itemNum 3 1 e ++ item 4 [t] ++ itemNum 5 1 p.toNat
  | .sheet n r p up => sheetItems n r p up
  | .suspects l more => itemList 1 (l.map suspectBytes) ++ itemNum 2 1 more.toNat
  | .resolved st => itemNum 1 1 (match st with | some x => x.code | none => 6)
  | .classes l => itemList 1 (l.map classBytes)
  | .plan b x y z =>
    item 1 b.name ++ itemList 2 (b.rows.toList.map rowBytes) ++ itemNum 3 1 x ++ itemNum 4 1 y ++ itemNum 5 2 z
  | .lane l g up => laneItems l g up
  | .laneParams p => laneParamItems 1 p
  | .laneState st => itemNum 1 1 st.code

/-! Frames and words -/

/-- The empty reply frame: a length field of 0 (11.2). -/
def emptyFrame : List Byte := [0, 0]

/-- A reply frame (11.2). -/
def Reply.frame (r : Reply) : List Byte :=
  let d := r.data.bytes
  let f := numBytes 2 (d.length + 5) ++ (r.code :: r.result.code :: numBytes 1 r.overrun.toNat ++ d)
  f ++ numBytes 2 (crc16 f).toNat

/-- The reply frame a read transaction clocks out (R159). -/
def replyFrame (s : State) : List Byte :=
  match s.cp.phase, s.cp.reply with
  | .replyReady, some r => r.frame
  | _, _ => emptyFrame

/-- A word in its envelope (11.3). -/
def envelope (kind : Byte) (v : List Byte) : List Byte :=
  let f := kind :: (numBytes 2 v.length ++ v)
  f ++ numBytes 2 (crc16 f).toNat

/-- A word to a station as its bytes (11.3). -/
def DownWord.bytes : DownWord → List Byte
  | .grant t => envelope 0x01 [t]
  | .divert t => envelope 0x02 [t]
  | .halt => envelope 0x03 []
  | .resume => envelope 0x04 []
  | .flow go => envelope 0x05 (numBytes 1 go.toNat)
  | .upload t sd => envelope 0x06 (t :: numBytes 1 (sideCode sd))
  | .release t o => envelope 0x07 (t :: numBytes 1 o.code)
  | .identify on => envelope 0x08 (numBytes 1 on.toNat)
  | .query => envelope 0x09 []
  | .time low => envelope 0x0A (numBytes 2 low.toNat)

/-- A control word to an archive as its bytes (11.4). -/
def CtrlWord.bytes : CtrlWord → List Byte
  | .offer d x sd ro sec =>
    envelope 0x81 (numBytes 2 d.toNat ++ serialBytes x ++ numBytes 1 (sideCode sd) ++ numBytes 1 ro.code ++
      numBytes 1 sec.toNat)
  | .endWord d n k => envelope 0x83 (numBytes 2 d.toNat ++ numBytes 2 n ++ numBytes 4 k.toNat)
  | .abandon d => envelope 0x84 (numBytes 2 d.toNat)

/-- A BLOCK word to an archive as its bytes (11.4). -/
def blockBytes (b : FifoBlock) : List Byte := envelope 0x82 (numBytes 2 b.1.toNat ++ b.2)

/-- The fill word of a lane as its bytes (11.4). -/
def laneFillBytes : List Byte := envelope 0x85 []

/-- The word a lane has on its line as its bytes: fill in LOOPBACK, nothing in DOWN or while RESET_N is low (R144, R148,
R156, R173). Where the block being sent is dropped in the middle of its word, the rest of the word is fill, and its
leaving takes no block away: the model's choice (log 14). -/
def laneLineBytes (s : State) (l : Fin 4) : List Byte :=
  if s.resetLow then []
  else match s.lanes[l].line with
    | .none => []
    | .fill => laneFillBytes
    | .looped _ => laneFillBytes
    | .ctrl w => w.bytes
    | .block d =>
      match s.lanes[l].fifo.head? with
      | some b => if b.1 = d then blockBytes b else laneFillBytes
      | none => laneFillBytes

/-- The word a port has on its line as its bytes: nothing in DOWN or while RESET_N is low (R49, R67, R169). -/
def portLineWord (s : State) (p : Fin 16) : List Byte :=
  if s.resetLow then [] else match s.ports[p].line with
    | some w => w.bytes
    | none => []

end Sys2Proof.Machine
end

