-- ==== Sys2Proof/Machine/Settings.lean ====
section
/-! DEFINITION. The Settings Store: the copy taken from working memory, the 109 entries and their order, the loads that use them, and the commands of a save (R168, R169). -/

namespace Sys2Proof.Machine

/-- The values of the 109 store entries as working memory holds them (R168). -/
def workingSettings (s : State) : Settings :=
  { room := s.room
    lanes := Vector.ofFn fun l : Fin 4 => s.lanes[l].params
    classes := s.classes
    plans := Vector.ofFn fun n : Fin 16 => s.plans[n].body
    directory := Vector.ofFn fun e : Fin 24 => (s.entries.get e).map fun x => (x.id, x.name) }

/-- The number of store entries (R168). -/
def storeEntries : Nat := 109

/-- Store entry `i` holds the same value in both: room 0, lanes 1–4, classes 5–68, plans 69–84, directory 85–108 (R168). -/
def sameEntry (a b : Settings) (i : Nat) : Bool :=
  if i = 0 then decide (a.room = b.room)
  else if i < 5 then decide (a.lanes[i - 1]? = b.lanes[i - 1]?)
  else if i < 69 then decide (a.classes[i - 5]? = b.classes[i - 5]?)
  else if i < 85 then decide (a.plans[i - 69]? = b.plans[i - 69]?)
  else decide (a.directory[i - 85]? = b.directory[i - 85]?)

/-- One element of a group copied. -/
def copyAt {α : Type} {n : Nat} (i : Nat) (v t : Vector α n) : Vector α n :=
  match v[i]? with
  | some x => t.setIfInBounds i x
  | none => t

/-- Store entry `i` taken from a copy, whole (R168). -/
def writeEntry (c t : Settings) (i : Nat) : Settings :=
  if i = 0 then { t with room := c.room }
  else if i < 5 then { t with lanes := copyAt (i - 1) c.lanes t.lanes }
  else if i < 69 then { t with classes := copyAt (i - 5) c.classes t.classes }
  else if i < 85 then { t with plans := copyAt (i - 69) c.plans t.plans }
  else { t with directory := copyAt (i - 85) c.directory t.directory }

/-- The entries in which two contents differ, in the order of the table of R168. -/
def differing (a b : Settings) : List Nat := (List.range storeEntries).filter fun i => !sameEntry a b i

/-- The number of store entries that differ from working memory (R167). -/
def differingCount (s : State) : Nat := (differing (workingSettings s) s.store.settings).length

/-- The settings a load takes: the stored ones where the check agrees, the defaults where it does not (R169). -/
def loadedSettings (t : Store) : Settings := if t.checkOk then t.settings else defaultSettings

/-- The directory rebuilt from the stored triples: ABSENT entries at their stored indices (R57). -/
def rebuiltEntries (d : Vector (Option (StationId × Text)) 24) : Tab Entry :=
  (List.finRange 24).filterMap fun i => d[i].map fun x => (i.val, { id := x.1, name := x.2 })

/-- Working memory takes a load's settings (R169). -/
def takeSettings (c : Settings) (s : State) : State :=
  { s with
    room := c.room
    lanes := Vector.ofFn fun l : Fin 4 => { s.lanes[l] with params := c.lanes[l] }
    classes := c.classes
    plans := Vector.ofFn fun n : Fin 16 => { body := c.plans[n], captures := 0 }
    entries := rebuiltEntries c.directory }

/-- The store with one more entry of the copy written; its check no longer agrees with its entries (R168). -/
def Store.put (c : Settings) (i : Nat) (t : Store) : Store := { settings := writeEntry c t.settings i, checkOk := false }

/-- SAVE_SETTINGS holds the port in EXECUTING with the copy taken (R159, R168). -/
def beginSave (s : State) : State :=
  { s with
    cp := { s.cp with phase := .executing, request := some 0x06 }
    save := some { copy := workingSettings s, written := 0 } }

/-- One store entry of a save is written (R168). -/
def writeNext (s : State) : State :=
  match s.save with
  | none => s
  | some v =>
    match differing v.copy s.store.settings with
    | [] => s
    | i :: _ => { s with store := s.store.put v.copy i, save := some { v with written := v.written + 1 } }

/-- A save completes: every differing entry and the check are written (R168). -/
def completeSave (s : State) : State :=
  match s.save with
  | none => s
  | some v =>
    let n := v.written + (differing v.copy s.store.settings).length
    assemble 0x06 .ok (.count n)
      { s with store := { settings := v.copy, checkOk := true }, storeState := .valid, save := none }

/-- A save has something to write: an entry that differs, or a stored check that does not agree (R168). -/
def saveWrites (v : Save) (s : State) : Bool := !(differing v.copy s.store.settings).isEmpty || !s.store.checkOk

/-- A save fails at an entry or at the check: what was written stays, and the check no longer agrees (R168). A save with
nothing to write cannot fail (log 4). -/
def failSave (s : State) : State :=
  match s.save with
  | none => s
  | some v =>
    if saveWrites v s then
      assemble 0x06 .storeFault (.count v.written)
        { s with store := { s.store with checkOk := false }, storeState := .fault, save := none }
    else s

/-- SAVE_SETTINGS (R168). -/
def execSaveSettings (a : Params Unit) (s : State) : Host.Outcome State Fault Refusal :=
  .next (unheld (fun s =>
    if busy s then overrun s
    else match a with
      | .malformed => assemble 0x06 .badValue .empty s
      | .given _ => beginSave s) s)

/-- SETTINGS_ENTRY_WRITTEN (R168). -/
def execSettingsEntryWritten (s : State) : Host.Outcome State Fault Refusal := event writeNext s

/-- SAVE_SETTINGS_COMPLETION (R168). -/
def execSaveSettingsCompletion (s : State) : Host.Outcome State Fault Refusal := event completeSave s

/-- SAVE_SETTINGS_WRITE_FAILURE (R168). -/
def execSaveSettingsWriteFailure (s : State) : Host.Outcome State Fault Refusal := event failSave s

end Sys2Proof.Machine
end

