-- ==== Sys2Proof/Machine/CommandPort.lean ====
section
/-! DEFINITION. The Command Port and start-up: power, RESET_N, the load, transactions, attention and room requests, and part reset (chapter 10). -/

namespace Sys2Proof.Machine

/-! Starting afresh (R169) -/

/-- The state after a start with a store: every block in its reset state, the settings a load takes in working memory,
and the port in EXECUTING while the load lasts (R169, log 5, log 6). -/
def startWith (pending : List Instr) (t : Store) (st : StoreState) : State :=
  takeSettings (loadedSettings t) { State.reset with pending := pending, store := t, storeState := st }

/-- The AS16 starts afresh; the Settings Store and the waiting commands stay (R169). -/
def startAfresh (s : State) : State := startWith s.pending s.store s.storeState

/-- The start-up load ends: every block in its reset state with the settings the load takes, the clock at 0, and the port
in IDLE with its overrun flag kept (R169, log 6). -/
def endLoad (s : State) : State :=
  let s1 := { startAfresh s with loading := false, cp := { s.cp with phase := .idle } }
  if s.store.checkOk then { s1 with storeState := .valid }
  else raise .settingsDefaulted 0 { s1 with storeState := .defaulted }

/-- POWER_UP: a start afresh; the RESET_N line keeps its level (R169). -/
def execPowerUp (s : State) : Host.Outcome State Fault Refusal :=
  .next { startAfresh s with resetLow := s.resetLow }

/-- RESET_N_ASSERT: the line goes low, and a save ends where it stands (R169). -/
def execResetNAssert (s : State) : Host.Outcome State Fault Refusal :=
  .next { s with resetLow := true, save := none }

/-- RESET_N_RELEASE: a low line goes high, and the AS16 starts afresh (R169). -/
def execResetNRelease (s : State) : Host.Outcome State Fault Refusal :=
  .next (if s.resetLow then startAfresh s else s)

/-- SETTINGS_LOAD_END (R169). -/
def execSettingsLoadEnd (s : State) : Host.Outcome State Fault Refusal :=
  .next (unheld (fun s => if s.loading then endLoad s else s) s)

/-! Transactions (R159, R160, R171) -/

/-- FRAME_OVERRUN: a frame at a busy port sets the overrun flag (R160). -/
def execFrameOverrun (s : State) : Host.Outcome State Fault Refusal :=
  .next (unheld (fun s => if busy s then overrun s else s) s)

/-- BAD_FRAME: the reply echoes the code received, or 0x00 (R160). -/
def execBadFrame (code : Option Byte) (s : State) : Host.Outcome State Fault Refusal :=
  .next (unheld (fun s => if busy s then overrun s else assemble (code.getD 0) .badFrame .empty s) s)

/-- UNKNOWN_REQUEST (R160). -/
def execUnknownRequest (code : Byte) (s : State) : Host.Outcome State Fault Refusal :=
  .next (unheld (fun s => if busy s then overrun s else assemble code .unknownRequest .empty s) s)

/-- IGNORED_TRANSACTION: ignored whole (R171). -/
def execIgnoredTransaction (_first : Byte) (s : State) : Host.Outcome State Fault Refusal := .next s

/-- The reply has been read: its buffer is emptied and the port moves to IDLE; after RESET_PART the reset is taken
(R159, R170). -/
def replyRead (s : State) : State :=
  if s.cp.resetDue then startAfresh s
  else { s with cp := { s.cp with phase := .idle, reply := none } }

/-- A read transaction of `clocked` frame bytes (R159). That bytes clocked past the frame's end are not listed is the model's
choice (log 24). -/
def readFrame (clocked : Nat) (s : State) : State :=
  let f := replyFrame s
  let s1 := if s.cp.phase = .replyReady ∧ f.length ≤ clocked then replyRead s else s
  { s1 with cp := { s1.cp with out := f.take clocked } }

/-- READ_TRANSACTION (R159). -/
def execReadTransaction (clocked : Nat) (s : State) : Host.Outcome State Fault Refusal :=
  .next (unheld (readFrame clocked) s)

/-! Attention requests (R163, R165, R166) -/

/-- The owner of READ_ATTENTION (R165). -/
def ownReadAttention (k : KeyArgs) (s : State) : Answer :=
  match attnOfCode k.kind with
  | none => .refuse .badValue
  | some kind =>
    let l := s.attention.filter fun a => decide (attnKey (kind, k.index) ≤ attnKey a)
    .done s (.attention (l.take Config.attentionPage) (decide (Config.attentionPage < l.length)) s.attention.length)

/-- READ_ATTENTION (R165). -/
def execReadAttention (a : Params KeyArgs) (s : State) : Host.Outcome State Fault Refusal :=
  .next (request 0x01 a ownReadAttention s)

/-- The pairs a CLEAR_ATTENTION names: one, or with index 255 every pair of the kind (R166). -/
def clears (k : AttnKind) (i : Nat) (a : Attn) : Bool :=
  decide (a.1 = k) && (decide (i = 255) || decide (a.2 = i))

/-- The owner of CLEAR_ATTENTION (R166). -/
def ownClearAttention (k : KeyArgs) (s : State) : Answer :=
  match attnOfCode k.kind with
  | none => .refuse .badValue
  | some kind =>
    .done (dropAttention (clears kind k.index) s) (.count (s.attention.filter (clears kind k.index)).length)

/-- CLEAR_ATTENTION (R166). -/
def execClearAttention (a : Params KeyArgs) (s : State) : Host.Outcome State Fault Refusal :=
  .next (request 0x02 a ownClearAttention s)

/-- The owner of SET_ATTENTION_MASK (R163). -/
def ownSetAttentionMask (n : Nat) (s : State) : Answer :=
  match maskOfNum n with
  | none => .refuse .badValue
  | some m => .done { s with room := { s.room with mask := m } } (.mask m)

/-- SET_ATTENTION_MASK (R163). -/
def execSetAttentionMask (a : Params Nat) (s : State) : Host.Outcome State Fault Refusal :=
  .next (request 0x05 a ownSetAttentionMask s)

/-! Room requests (R167) -/

/-- The owner of READ_ROOM (R167). -/
def ownReadRoom (_ : Unit) (s : State) : Answer :=
  .done s (.room s.room s.clock (Config.sheetCount - s.sheets.length) (Config.batchCount - s.batches.length)
    (Config.entryCount - s.entries.length) s.uploads.length s.attention.length s.storeState (differingCount s))

/-- READ_ROOM (R167). -/
def execReadRoom (a : Params Unit) (s : State) : Host.Outcome State Fault Refusal :=
  .next (request 0x03 a ownReadRoom s)

/-- SET_ROOM names a parameter, and every value lies in its range (R167). -/
def roomArgsOk (a : RoomArgs) : Bool :=
  (a.share.isSome || a.silence.isSome || a.pickTimeout.isSome || a.jamSlack.isSome) &&
  optOk Config.shareOk a.share && optOk Config.silenceOk a.silence && optOk Config.pickTimeoutOk a.pickTimeout &&
  optOk Config.jamSlackOk a.jamSlack

/-- The room parameters with the named ones replaced (R167). -/
def RoomParams.set (a : RoomArgs) (r : RoomParams) : RoomParams :=
  { r with
    share := a.share.getD r.share, silence := a.silence.getD r.silence
    pickTimeout := a.pickTimeout.getD r.pickTimeout, jamSlack := a.jamSlack.getD r.jamSlack }

/-- The owner of SET_ROOM: every entry in use is judged again (R80, R167). -/
def ownSetRoom (a : RoomArgs) (s : State) : Answer :=
  if roomArgsOk a then
    let s1 := { s with room := s.room.set a }
    .done (rejudgeAll (s1.entries.map Prod.fst) s.lastAlloc s1) (.roomParams s1.room)
  else .refuse .badValue

/-- SET_ROOM (R167). -/
def execSetRoom (a : Params RoomArgs) (s : State) : Host.Outcome State Fault Refusal :=
  .next (request 0x04 a ownSetRoom s)

/-! Part reset (R170) -/

/-- The owner of RESET_PART: nothing changes until the reply has been read (R170). -/
def ownResetPart (_ : Unit) (s : State) : Answer := .done { s with cp := { s.cp with resetDue := true } } .empty

/-- RESET_PART (R170). -/
def execResetPart (a : Params Unit) (s : State) : Host.Outcome State Fault Refusal :=
  .next (request 0x07 a ownResetPart s)

end Sys2Proof.Machine
end

