-- ==== Sys2Proof/Machine/FeedCmds.lean ====
section
/-! DEFINITION. The requests on a station's feed state: START, STANDBY, HALT_STATION and RESUME (4.2). -/

namespace Sys2Proof.Machine

/-- The feed state an entry has after an event. -/
def feedOf (s : State) (e : Nat) : FeedState := ((s.entries.get e).map (·.feed)).getD .idle

/-- START moves an entry from READY to RUNNING (R70). -/
def startEntry (e : Nat) (x : Entry) (s : State) : State :=
  settle x.bound.toList [e] s.lastAlloc (modEntry e (fun x => { x with feed := .running, misfeeds := 0 }) s)

/-- The owner of START (R70); that the OK on an entry already RUNNING carries the feed state too is the model's choice
(log 29). -/
def ownStart (e : Nat) (s : State) : Answer :=
  withEntry e s fun x =>
    match x.feed with
    | .ready => .done (startEntry e x s) (.feed .running)
    | .running => .done s (.feed .running)
    | .idle | .halted | .clearing => .refuse .wrongState

/-- START (R70). -/
def execStart (a : Params Nat) (s : State) : Host.Outcome State Fault Refusal := .next (request 0x17 a ownStart s)

/-- STANDBY moves an entry from RUNNING to READY (R71). -/
def standbyEntry (e : Nat) (x : Entry) (s : State) : State :=
  settle x.bound.toList [e] s.lastAlloc (modEntry e (fun x => { x with feed := .ready }) s)

/-- The owner of STANDBY (R71). -/
def ownStandby (e : Nat) (s : State) : Answer :=
  withEntry e s fun x =>
    match x.feed with
    | .running => .done (standbyEntry e x s) .empty
    | .ready => .done s .empty
    | .idle | .halted | .clearing => .refuse .wrongState

/-- STANDBY (R71). -/
def execStandby (a : Params Nat) (s : State) : Host.Outcome State Fault Refusal := .next (request 0x18 a ownStandby s)

/-- The owner of HALT_STATION: a halt with cause HOST, and the feed state that results (R72). -/
def ownHaltStation (e : Nat) (s : State) : Answer :=
  withEntry e s fun x =>
    match x.feed with
    | .running | .ready =>
      let s1 := settle x.bound.toList [e] s.lastAlloc (halt e .host s)
      .done s1 (.feed (feedOf s1 e))
    | .halted | .clearing => .done s (.feed x.feed)
    | .idle => .refuse .wrongState

/-- HALT_STATION (R72). -/
def execHaltStation (a : Params Nat) (s : State) : Host.Outcome State Fault Refusal :=
  .next (request 0x19 a ownHaltStation s)

/-- RESUME is allowed on an entry (R73 checks 1 to 3, log 11). -/
def mayResume (x : Entry) : Bool :=
  decide (x.feed = .halted) && x.port.isSome && x.view.isSome &&
  (decide (x.cause ≠ some .linkLost) || x.pathClear) && (x.bound.isSome || x.pathClear)

/-- The suspect sheets of a path queue whose divert-ordered flag is clear, with their tags, in queue order (R73). -/
def runOutSheets (s : State) (x : Entry) : List (Nat × Tag) :=
  x.path.filterMap fun c =>
    match s.sheets.get c.slot with
    | some r => if r.state = .suspect ∧ c.divertOrdered = false then some (c.slot, r.tag) else none
    | none => none

/-- RESUME with a batch bound: the DIVERT words, the RESUME word, and RUNNING (R73). -/
def runOut (e : Nat) (x : Entry) (s : State) : State :=
  let s1 := (runOutSheets s x).foldl (fun t p => orderDivert e p.1 p.2 t) s
  let s2 := modEntry e (fun x =>
    { x with feed := .running, cause := none, misfeeds := 0, timer := x.timer.resume }) (onQueues e Queues.addResume s1)
  settle x.bound.toList [e] s.lastAlloc s2

/-- RESUME with no batch bound: the RESUME word and IDLE (R73). That it sets the misfeed count to 0 as well, as R83 says of
RESUME without condition, is the model's choice (log 30). -/
def runOutUnbound (e : Nat) (s : State) : State :=
  settle [] [e] s.lastAlloc
    (modEntry e (fun x => { x with feed := .idle, cause := none, misfeeds := 0 }) (onQueues e Queues.addResume s))

/-- The owner of RESUME (R73). -/
def ownResume (e : Nat) (s : State) : Answer :=
  withEntry e s fun x =>
    if mayResume x then
      if x.bound.isSome then .done (runOut e x s) (.count (runOutSheets s x).length)
      else .done (runOutUnbound e s) (.count 0)
    else .refuse .wrongState

/-- RESUME (R73). -/
def execResume (a : Params Nat) (s : State) : Host.Outcome State Fault Refusal := .next (request 0x1A a ownResume s)

end Sys2Proof.Machine
end

