-- ==== Sys2Proof/Machine/ImagePath.lean ====
section
/-! DEFINITION. The image path: READY, the image words of a station against its active upload, and the stall timer (chapter 8). -/

namespace Sys2Proof.Machine

/-! READY (R130, R131) -/

/-- A side count as images-ready holds it; others are ignored (R131). -/
def sideCount : Nat → Option Side
  | 1 => some .one
  | 2 => some .two
  | _ => none

/-- The station may send this side count: 2 only where it is duplex capable (R131). -/
def sidesAllowed (x : Entry) (n : Side) : Bool :=
  decide (n = .one) || match x.facts with
    | some f => f.duplex
    | none => true

/-- The record's images become ready (R131). -/
def markReady (slot : Nat) (n : Side) (s : State) : State := modSheet slot (fun r => { r with images := some n }) s

/-- A READY that matches a record of the entry (R131). -/
def readyRecord (slot : Nat) (r : Sheet) (n : Side) (s : State) : State :=
  if r.images.isSome then s
  else match r.state with
    | .picking | .fault => s
    | .inPath | .suspect => markReady slot n s
    | .routing =>
      settle [r.batch] [r.station] s.lastAlloc (arbitrate (completeIfDone slot (buildEntries slot (markReady slot n s))))

/-- A READY taken for the attached entry (R131). -/
def readyTaken (t : Tag) (sides : Nat) (e : Nat) (s : State) : State :=
  match findTagged s e t, sideCount sides, s.entries.get e with
  | some (slot, r), some n, some x => if sidesAllowed x n then readyRecord slot r n s else s
  | _, _, _ => s

/-- READY (R131). -/
def execReady (p : Fin 16) (t : Tag) (sides : Nat) (s : State) : Host.Outcome State Fault Refusal :=
  event (takeWord p (readyTaken t sides)) s

/-! Image words (R136–R138) -/

/-- The upload of station `e` fails, and the judgments that follow (R140). -/
def uploadFails (e : Nat) (u : Upload) (s : State) : State :=
  let (hs, es) := ownersOf s u.slot
  settle hs es s.lastAlloc (arbitrate (failUpload e s))

/-- A block count an IMAGE_START may name (R136). -/
def blockCountOk (n : Nat) : Bool := Config.within 1 16383 n

/-- An IMAGE_START against the active upload (R136, R139). -/
def imageStartTaken (t : Tag) (sd : Side) (n : Nat) (e : Nat) (s : State) : State :=
  match s.uploads.get e with
  | none => s
  | some u =>
    if u.phase = .asked ∧ u.tag = t ∧ u.side = sd ∧ blockCountOk n = true then
      modUpload e (fun u => { u with phase := .receiving, blocks := some n, stall := .running Config.stallMs }) s
    else uploadFails e u s

/-- IMAGE_START (R136). -/
def execImageStart (p : Fin 16) (t : Tag) (sd : Side) (blocks : Nat) (s : State) : Host.Outcome State Fault Refusal :=
  event (takeWord p (imageStartTaken t sd blocks)) s

/-- The delivery number an upload has on a destination. -/
def destNumber (s : State) (u : Upload) (d : Fin 4 × Role) : Option DelivNo :=
  ((s.sheets.get u.slot).bind fun r => deliveryOf r u.side d.2).bind (·.number)

/-- A destination FIFO is full (R137). -/
def someFifoFull (s : State) (u : Upload) : Bool :=
  u.dests.any fun d => decide (Config.fifoRoom ≤ s.lanes[d.1].fifo.length)

/-- A block is copied to the tail of one destination's FIFO (R137). -/
def copyBlock (u : Upload) (data : List Byte) (s : State) (d : Fin 4 × Role) : State :=
  match destNumber s u d with
  | some n => modLane d.1 (fun x => { x with fifo := x.fifo ++ [(n, data)] }) s
  | none => s

/-- A destination FIFO has free space at or below its lane's high margin (R137). -/
def someFifoHigh (s : State) (u : Upload) : Bool :=
  u.dests.any fun d => decide (Config.fifoRoom - s.lanes[d.1].fifo.length ≤ s.lanes[d.1].params.high)

/-- The upload with one more block taken into its running check (R136). -/
def Upload.take (data : List Byte) (u : Upload) : Upload :=
  { u with taken := u.taken + 1, check := checkBytes u.check data }

/-- The flow state and the stall timer after a block was taken (R137, R139). -/
def flowAfterBlock (e : Nat) (u : Upload) (s : State) : State :=
  if !u.go then s
  else if someFifoHigh s u then
    onQueues e (Queues.addFlow false)
      (modUpload e (fun u => { u with go := false, stall := .suspended Config.stallMs }) s)
  else modUpload e (fun u => { u with stall := .running Config.stallMs }) s

/-- A BLOCK against the active upload (R136, R137). -/
def blockTaken (data : List Byte) (e : Nat) (s : State) : State :=
  match s.uploads.get e with
  | none => s
  | some u =>
    match u.phase with
    | .asked => s
    | .receiving =>
      if u.blocks.getD 0 ≤ u.taken ∨ someFifoFull s u = true then uploadFails e u s
      else flowAfterBlock e u (u.dests.foldl (copyBlock u data) (modUpload e (Upload.take data) s))

/-- BLOCK; one without 1024 bytes of image data is malformed (R136, R172). -/
def execBlock (p : Fin 16) (data : List Byte) (s : State) : Host.Outcome State Fault Refusal :=
  event (fun s => if data.length = Config.blockBytes then takeWord p (blockTaken data) s else takeMalformed p s) s

/-- A delivery is told to end: ENDING with the block count and check its END will carry (R138, R147). -/
def Lane.toEnding (d : DelivNo) (n : Nat) (k : Check) (l : Lane) : Lane :=
  { l with window := l.window.map fun w => if w.number = d then { w with phase := .ending, closing := some (n, k) } else w }

/-- One destination's entry becomes SENT and its lane is told to end the delivery (R138). -/
def endDest (u : Upload) (k : Check) (s : State) (d : Fin 4 × Role) : State :=
  match destNumber s u d with
  | none => s
  | some n =>
    let s1 := modDelivery u.slot u.side d.2 (fun x => { x with status := .sent }) s
    closeDelivery d.1 n (modLane d.1 (Lane.toEnding n u.taken k) s1)

/-- The check and the block count both agree (R138). -/
def Upload.agrees (k : Check) (u : Upload) : Bool := decide (checkValue u.check = k) && decide (u.blocks = some u.taken)

/-- An IMAGE_END against the active upload (R136, R138). -/
def imageEndTaken (k : Check) (e : Nat) (s : State) : State :=
  match s.uploads.get e with
  | none => s
  | some u =>
    match u.phase with
    | .asked => s
    | .receiving =>
      if u.agrees k then
        let (hs, es) := ownersOf s u.slot
        settle hs es s.lastAlloc (arbitrate (u.dests.foldl (endDest u k) (endUpload e s)))
      else uploadFails e u s

/-- IMAGE_END (R138). -/
def execImageEnd (p : Fin 16) (check : Check) (s : State) : Host.Outcome State Fault Refusal :=
  event (takeWord p (imageEndTaken check)) s

/-! The stall timer (R139) -/

/-- The stall timer of the upload of station `e` expires (R139). -/
def stallExpiry (e : Nat) (s : State) : State :=
  match s.uploads.get e with
  | some u => if u.stall.isRunning then uploadFails e u s else s
  | none => s

/-- STALL_TIMER_EXPIRY (R139). -/
def execStallTimerExpiry (e : Fin 24) (s : State) : Host.Outcome State Fault Refusal := event (stallExpiry e) s

end Sys2Proof.Machine
end

