-- ==== Sys2Proof/Machine/LaneCmds.lean ====
section
/-! DEFINITION. The requests on archive lanes: reading, parameters, suspension, loopback and reset (chapter 9). -/

namespace Sys2Proof.Machine

/-- The slot and side of the upload a lane transmits (R157). -/
def laneUpload (s : State) (l : Fin 4) : Option (Nat × Side) :=
  (s.uploads.find fun _ u => u.dests.any fun d => decide (d.1 = l)).map fun p => (p.2.slot, p.2.side)

/-- The owner of READ_LANE (R157). -/
def ownReadLane (n : Nat) (s : State) : Answer :=
  withLane n fun l => .done s (.lane s.lanes[l] s.lanes[l].gateOpen (laneUpload s l))

/-- READ_LANE (R157). -/
def execReadLane (a : Params Nat) (s : State) : Host.Outcome State Fault Refusal :=
  .next (request 0x50 a ownReadLane s)

/-- SET_LANE names a parameter, and every value lies in its range (R157 check 1). -/
def laneArgsOk (a : LaneArgs) : Bool :=
  (a.window.isSome || a.high.isSome || a.low.isSome || a.silence.isSome || a.ack.isSome || a.secure.isSome) &&
  optOk Config.windowOk a.window && optOk Config.highOk a.high && optOk Config.lowOk a.low &&
  optOk Config.silenceOk a.silence && optOk Config.ackOk a.ack && optOk Config.secureOk a.secure

/-- The window size named is below the window's occupancy. -/
def windowTooSmall (a : LaneArgs) (l : Lane) : Bool :=
  match a.window with
  | some n => decide (n < l.window.length)
  | none => false

/-- The lane's state forbids SET_LANE (R157 check 3). -/
def laneArgsBarred (a : LaneArgs) (l : Lane) : Bool :=
  decide (l.state = .up) || (decide (l.state = .loopback) && windowTooSmall a l)

/-- The lane parameters with the named ones replaced (R157). -/
def LaneParams.set (a : LaneArgs) (p : LaneParams) : LaneParams :=
  { window := a.window.getD p.window, high := a.high.getD p.high, low := a.low.getD p.low
    silence := a.silence.getD p.silence, ack := a.ack.getD p.ack, secure := a.secure.getD p.secure }

/-- The owner of SET_LANE; a raised window may open the gate (R146, R157). -/
def ownSetLane (a : LaneArgs) (s : State) : Answer :=
  if laneArgsOk a then
    withLane a.lane fun l =>
      if laneArgsBarred a s.lanes[l] then .refuse .wrongState
      else
        .done (arbitrate (modLane l (fun x => { x with params := x.params.set a }) s))
          (.laneParams (s.lanes[l].params.set a))
  else .refuse .badValue

/-- SET_LANE (R157). -/
def execSetLane (a : Params LaneArgs) (s : State) : Host.Outcome State Fault Refusal :=
  .next (request 0x51 a ownSetLane s)

/-- The lane after SUSPEND_LANE: the gate closes, and an empty window suspends it at once (R155). -/
def Lane.suspend (l : Lane) : Lane := { l with suspendPending := true }.settleSuspend

/-- The owner of SUSPEND_LANE (R155); that the OK of a lane already SUSPENDED carries the state too is the model's choice
(log 29). -/
def ownSuspendLane (n : Nat) (s : State) : Answer :=
  withLane n fun l =>
    match s.lanes[l].state with
    | .up | .loopback => .done (modLane l Lane.suspend s) (.laneState s.lanes[l].suspend.state)
    | .suspended => .done s (.laneState .suspended)
    | .down | .aligning | .failed => .refuse .wrongState

/-- SUSPEND_LANE (R155). -/
def execSuspendLane (a : Params Nat) (s : State) : Host.Outcome State Fault Refusal :=
  .next (request 0x52 a ownSuspendLane s)

/-- RESUME_LANE applies to a lane: SUSPENDED, or carrying with a suspension pending (R155). -/
def mayResumeLane (l : Lane) : Bool := decide (l.state = .suspended) || (l.state.carries && l.suspendPending)

/-- The lane after RESUME_LANE (R155). -/
def Lane.resume (l : Lane) : Lane :=
  if l.state = .suspended then { l with state := .up } else { l with suspendPending := false }

/-- The owner of RESUME_LANE; the gate may open (R146, R155). -/
def ownResumeLane (n : Nat) (s : State) : Answer :=
  withLane n fun l =>
    if mayResumeLane s.lanes[l] then .done (arbitrate (modLane l Lane.resume s)) (.laneState s.lanes[l].resume.state)
    else .refuse .wrongState

/-- RESUME_LANE (R155). -/
def execResumeLane (a : Params Nat) (s : State) : Host.Outcome State Fault Refusal :=
  .next (request 0x53 a ownResumeLane s)

/-- The lane in LOOPBACK: its line is not watched (R144, R145). The word on the line stays: that a control word half sent then
goes on to its end is the model's choice (log 14). -/
def Lane.toLoopback (l : Lane) : Lane := { l with state := .loopback, silence := none, malformed := 0 }

/-- The owner of LOOPBACK_LANE; the gate may open (R146, R155). -/
def ownLoopbackLane (n : Nat) (s : State) : Answer :=
  withLane n fun l =>
    if s.lanes[l].state = .suspended then .done (arbitrate (modLane l Lane.toLoopback s)) .empty
    else .refuse .wrongState

/-- LOOPBACK_LANE (R155). -/
def execLoopbackLane (a : Params Nat) (s : State) : Host.Outcome State Fault Refusal :=
  .next (request 0x54 a ownLoopbackLane s)

/-- A WAITING rerouted entry on a lane being reset is placed again (R154). -/
def replaceEntry (l : Fin 4) (s : State) (w : Row) (d : Delivery) : Delivery :=
  if d.lane = l ∧ d.status = .waiting ∧ d.rerouted = true then placeBack s w d else d

/-- The waiting rerouted entries of a record on a lane being reset are placed again (R154). -/
def replaceWaiting (l : Fin 4) (s : State) (slot : Nat) : State :=
  match (s.sheets.get slot).bind (planRow s) with
  | some w => modSheet slot (Sheet.mapDeliveries (replaceEntry l s w)) s
  | none => s

/-- A lane is reset: the failure effects, the placements, then DOWN (R154). -/
def resetLane (l : Fin 4) (s : State) : State :=
  let s1 := failureEffects l s
  arbitrate (modLane l Lane.toDown ((s1.sheets.map Prod.fst).foldl (replaceWaiting l) s1))

/-- The owner of RESET_LANE (R154). -/
def ownResetLane (n : Nat) (s : State) : Answer :=
  withLane n fun l => .done (resetLane l s) (.laneState s.lanes[l].state)

/-- RESET_LANE (R154). -/
def execResetLane (a : Params Nat) (s : State) : Host.Outcome State Fault Refusal :=
  .next (request 0x55 a ownResetLane s)

end Sys2Proof.Machine
end

