-- ==== Sys2Proof/Machine/LaneLink.lean ====
section
/-! DEFINITION. The events of an archive lane: line activity, words, answers, losses, timers and a word leaving (chapters 9 and 11). -/

namespace Sys2Proof.Machine

/-! The line (R144, R145, R173) -/

/-- Line activity moves a DOWN lane to ALIGNING, from which it sends fill (R144, log 16). -/
def Lane.activity (l : Lane) : Lane :=
  if l.state = .down then
    { l with state := .aligning, align := 0, malformed := 0, silence := some l.params.silence, line := .fill }
  else l

/-- LANE_LINE_ACTIVITY (R144). -/
def execLaneLineActivity (l : Fin 4) (s : State) : Host.Outcome State Fault Refusal := event (modLane l Lane.activity) s

/-- The lane's line is watched (R145). -/
def LaneState.watched : LaneState → Bool
  | .aligning | .up | .suspended => true
  | .down | .loopback | .failed => false

/-- The lane hands an archive's words to their rules (R149, R173). -/
def LaneState.listens : LaneState → Bool
  | .up | .suspended => true
  | .down | .aligning | .loopback | .failed => false

/-- A well-formed word restarts the silence timer, clears the malformed-word count and counts toward alignment (R144,
R145). -/
def Lane.wellFormed (l : Lane) : Lane :=
  if l.state.watched then
    let y := { l with silence := some l.params.silence, malformed := 0 }
    if l.state = .aligning then
      if l.align + 1 < Config.alignWords then { y with align := l.align + 1 } else { y with state := .up, align := 0 }
    else y
  else l

/-- A well-formed word on a lane; `k` is what its kind does on a lane in UP or SUSPENDED (R173). -/
def takeLaneWord (l : Fin 4) (k : State → State) (s : State) : State :=
  let s1 := modLane l Lane.wellFormed s
  match s.lanes[l].state with
  | .up | .suspended => k s1
  | .aligning => arbitrate s1
  | .down | .loopback | .failed => s

/-- ARCHIVE_FILL (R173). -/
def execArchiveFill (l : Fin 4) (s : State) : Host.Outcome State Fault Refusal := event (takeLaneWord l id) s

/-- A malformed word that does not lose the line: the count rises and the timer restarts; in ALIGNING the alignment
count is cleared (R145, R173, log 23). -/
def Lane.countMalformed (l : Lane) : Lane :=
  { l with
    align := if l.state = .aligning then 0 else l.align
    malformed := min (l.malformed + 1) Config.malformedWords, silence := some l.params.silence }

/-- A malformed word on a lane (R145, R173). -/
def laneMalformed (l : Fin 4) (s : State) : State :=
  let x := s.lanes[l]
  if !x.state.watched then s
  else if x.state.listens && decide (Config.malformedWords ≤ x.malformed + 1) then arbitrate (loseLine l s)
  else modLane l Lane.countMalformed s

/-- LANE_MALFORMED_WORD (R145, R173). -/
def execLaneMalformedWord (l : Fin 4) (s : State) : Host.Outcome State Fault Refusal := event (laneMalformed l) s

/-- The silence timeout of a lane: its line is lost (R145). -/
def laneSilence (l : Fin 4) (s : State) : State :=
  if s.lanes[l].silence.isSome then arbitrate (loseLine l s) else s

/-- LANE_SILENCE_TIMEOUT (R145). -/
def execLaneSilenceTimeout (l : Fin 4) (s : State) : Host.Outcome State Fault Refusal := event (laneSilence l) s

/-! Answers (R149–R151) -/

/-- The lane with one more stray acknowledgement (R151). -/
def Lane.strayed (l : Lane) : Lane := { l with counters := { l.counters with stray := bump l.counters.stray } }

/-- The window entry after an ACCEPT of a delivery that requires SECURED (R149). -/
def WindowEntry.accepted (secure : Nat) (w : WindowEntry) : WindowEntry :=
  { w with phase := .awaitSecure, timer := some (secure * 1000) }

/-- A delivery moves to AWAIT_SECURE, and its entry is ACCEPTED (R149). -/
def awaitSecure (l : Fin 4) (w : WindowEntry) (s : State) : State :=
  modDelivery w.slot w.side w.role (fun d => { d with status := .accepted })
    (modLane l (fun x =>
      { x with window := x.window.map fun v => if v.number = w.number then v.accepted x.params.secure else v }) s)

/-- A delivery ends DONE, with the judgments that follow (R146, R149). -/
def endDone (l : Fin 4) (w : WindowEntry) (s : State) : State :=
  let (hs, es) := ownersOf s w.slot
  settle hs es s.lastAlloc (arbitrate (deliveryDone l w s))

/-- An ACCEPT by window entry (R149, R151). -/
def acceptTaken (l : Fin 4) (d : DelivNo) (s : State) : State :=
  match s.lanes[l].entry d with
  | none => modLane l Lane.strayed s
  | some w =>
    match w.phase, w.secure with
    | .awaitAccept, false => endDone l w s
    | .awaitAccept, true => awaitSecure l w s
    | _, _ => modLane l Lane.strayed s

/-- A SECURED by window entry (R149, R151). -/
def securedTaken (l : Fin 4) (d : DelivNo) (s : State) : State :=
  match s.lanes[l].entry d with
  | none => modLane l Lane.strayed s
  | some w =>
    match w.phase with
    | .awaitSecure => endDone l w s
    | .transmitting | .ending | .awaitAccept => modLane l Lane.strayed s

/-- A refused counter rises (R151). -/
def LaneCounters.refuse (r : RefuseReason) (c : LaneCounters) : LaneCounters :=
  match r with
  | .check => { c with refusedCheck := bump c.refusedCheck }
  | .format => { c with refusedFormat := bump c.refusedFormat }
  | .full => { c with refusedFull := bump c.refusedFull }

/-- The control word is the END of a delivery. -/
def CtrlWord.ends (d : DelivNo) : CtrlWord → Bool
  | .endWord n _ _ => decide (n = d)
  | .offer _ _ _ _ _ | .abandon _ => false

/-- The lane without a refused delivery (R150). -/
def Lane.refuse (d : DelivNo) (r : RefuseReason) (l : Lane) : Lane :=
  let l1 := (l.dropEntry d).dropBlocks d
  let l2 := { l1 with
    ctrl := l1.ctrl.filter fun w => !w.ends d
    counters := l1.counters.refuse r
    refusing := l1.refusing || decide (r = RefuseReason.full) }
  l2.settleSuspend

/-- A delivery the window holds is refused (R150). -/
def refuseEntry (l : Fin 4) (w : WindowEntry) (r : RefuseReason) (s : State) : State :=
  let s1 := modDelivery w.slot w.side w.role Delivery.back (modLane l (Lane.refuse w.number r) s)
  let s2 := if w.phase = .transmitting then loseDest l s1 else s1
  match r with
  | .check | .format => countFailure w.slot s2
  | .full => raise .laneRefusing l s2

/-- A REFUSE by window entry (R150, R151). -/
def refuseTaken (l : Fin 4) (d : DelivNo) (r : RefuseReason) (s : State) : State :=
  match s.lanes[l].entry d with
  | none => modLane l Lane.strayed s
  | some w =>
    let (hs, es) := ownersOf s w.slot
    settle hs es s.lastAlloc (arbitrate (refuseEntry l w r s))

/-- An answer of the archive: taken in UP and SUSPENDED, ignored in LOOPBACK, and stray in every other state, where no
window entry matches it (R149, R151, R173; in DOWN, log 32). -/
def takeAnswer (l : Fin 4) (k : State → State) (s : State) : State :=
  match s.lanes[l].state with
  | .up | .suspended | .loopback => takeLaneWord l k s
  | .aligning => takeLaneWord l id (modLane l Lane.strayed s)
  | .down | .failed => modLane l Lane.strayed s

/-- ACCEPT (R149). -/
def execAccept (l : Fin 4) (d : DelivNo) (s : State) : Host.Outcome State Fault Refusal :=
  event (takeAnswer l (acceptTaken l d)) s

/-- SECURED (R149). -/
def execSecured (l : Fin 4) (d : DelivNo) (s : State) : Host.Outcome State Fault Refusal :=
  event (takeAnswer l (securedTaken l d)) s

/-- REFUSE (R150). -/
def execRefuse (l : Fin 4) (d : DelivNo) (r : RefuseReason) (s : State) : Host.Outcome State Fault Refusal :=
  event (takeAnswer l (refuseTaken l d r)) s

/-- The lane after a STATUS of its archive; READY clears the refusing flag (R146). -/
def Lane.report (r : Readiness) (l : Lane) : Lane :=
  { l with view := some r, refusing := l.refusing && decide (r ≠ Readiness.ready) }

/-- ARCHIVE_STATUS; the gate may open (R146). -/
def execArchiveStatus (l : Fin 4) (r : Readiness) (s : State) : Host.Outcome State Fault Refusal :=
  event (takeLaneWord l fun t => arbitrate (modLane l (Lane.report r) t)) s

/-! Delivery timers (R152) -/

/-- A delivery's timer expires in a phase, and the lane fails (R152). -/
def deliveryExpiry (l : Fin 4) (d : DelivNo) (ph : WindowPhase) (s : State) : State :=
  match s.lanes[l].entry d with
  | none => s
  | some w => if w.phase = ph ∧ w.timer.isSome = true then arbitrate (failLane l s) else s

/-- ACK_TIMEOUT (R152). -/
def execAckTimeout (l : Fin 4) (d : DelivNo) (s : State) : Host.Outcome State Fault Refusal :=
  event (deliveryExpiry l d .awaitAccept) s

/-- SECURE_TIMEOUT (R152). -/
def execSecureTimeout (l : Fin 4) (d : DelivNo) (s : State) : Host.Outcome State Fault Refusal :=
  event (deliveryExpiry l d .awaitSecure) s

/-! A word leaves (R148) -/

/-- An END has left: the delivery is AWAIT_ACCEPT and its acknowledgement timer runs (R148). -/
def Lane.endLeft (d : DelivNo) (l : Lane) : Lane :=
  { l with window := l.window.map fun w =>
      if w.number = d ∧ w.phase = .ending then { w with phase := .awaitAccept, timer := some l.params.ack } else w }

/-- The block at the head of the FIFO has left, if it is the one that was being sent (R148, log 14). -/
def Lane.popBlock (d : DelivNo) (l : Lane) : Lane :=
  match l.fifo with
  | [] => l
  | b :: t => if b.1 = d then { l with fifo := t } else l

/-- A block of a delivery has left: flow control is judged, and the delivery may close (R137, R148, R156). -/
def blockLeft (l : Fin 4) (d : DelivNo) (s : State) : State :=
  let s1 := modLane l (Lane.popBlock d) s
  let s2 := match uploaderOf s1 l with | some e => judgeGo e s1 | none => s1
  match s.lanes[l].entry d with
  | none => arbitrate s2
  | some w =>
    let (hs, es) := ownersOf s w.slot
    settle hs es s.lastAlloc (arbitrate (closeDelivery l d s2))

/-- What a word's leaving does. -/
def laneWordLeft (l : Fin 4) (w : LaneLine) (s : State) : State :=
  match w with
  | .ctrl (.endWord d _ _) => modLane l (Lane.endLeft d) s
  | .block d | .looped d => blockLeft l d s
  | .none | .fill | .ctrl (.offer _ _ _ _ _) | .ctrl (.abandon _) => s

/-- The lane takes its next word: the oldest control word, then the oldest block, then fill; in LOOPBACK only its blocks
take their turn (R148, R156, log 14). -/
def Lane.nextWord (l : Lane) : Lane :=
  match l.state, l.ctrl, l.fifo with
  | .down, _, _ => { l with line := .none }
  | .loopback, _, b :: _ => { l with line := .looped b.1 }
  | .loopback, _, [] => { l with line := .fill }
  | _, c :: t, _ => { l with line := .ctrl c, ctrl := t }
  | _, [], b :: _ => { l with line := .block b.1 }
  | _, [], [] => { l with line := .fill }

/-- A word leaves a lane that is not DOWN (R148). -/
def laneLeaves (l : Fin 4) (s : State) : State :=
  if s.lanes[l].state = .down then s else modLane l Lane.nextWord (laneWordLeft l s.lanes[l].line s)

/-- LANE_WORD_LEAVES (R148). -/
def execLaneWordLeaves (l : Fin 4) (s : State) : Host.Outcome State Fault Refusal := event (laneLeaves l) s

end Sys2Proof.Machine
end

