-- ==== Sys2Proof/Machine/FeedLink.lean ====
section
/-! DEFINITION. The events of a feed link that concern the link itself and the station's status: line activity, words, losses, IDENT, STATUS and a downstream word leaving (chapters 3, 4 and 11). -/

namespace Sys2Proof.Machine

/-! The line (R49, R50, R172) -/

/-- Line activity moves a DOWN port to ALIGNING, from which it sends TIME (R49, log 16). -/
def lineActivity (p : Fin 16) (s : State) : State :=
  if s.ports[p].link = .down then
    modPort p (fun x =>
      { x with link := .aligning, align := 0, silence := some s.room.silence, line := some (timeWord s) }) s
  else s

/-- PORT_LINE_ACTIVITY (R49). -/
def execPortLineActivity (p : Fin 16) (s : State) : Host.Outcome State Fault Refusal := event (lineActivity p) s

/-- FILL: a well-formed word handed to no owner (R172). -/
def execFill (p : Fin 16) (s : State) : Host.Outcome State Fault Refusal := event (takeWord p fun _ t => t) s

/-- MALFORMED_WORD (R50, R172). -/
def execMalformedWord (p : Fin 16) (s : State) : Host.Outcome State Fault Refusal := event (takeMalformed p) s

/-- STATION_SILENCE_TIMEOUT: a port that is not DOWN goes to DOWN (R50). -/
def execStationSilenceTimeout (p : Fin 16) (s : State) : Host.Outcome State Fault Refusal :=
  event (fun s => if s.ports[p].silence.isSome then portDown p s else s) s

/-- The query timer of a QUERYING port expires: QUERY is queued again (R49). -/
def queryExpiry (p : Fin 16) (s : State) : State :=
  if s.ports[p].link = .querying ∧ s.ports[p].queryTimer.isSome then
    modPort p (fun x => { x with queryTimer := none, queues := x.queues.addQuery }) s
  else s

/-- QUERY_TIMER_EXPIRY (R49). -/
def execQueryTimerExpiry (p : Fin 16) (s : State) : Host.Outcome State Fault Refusal := event (queryExpiry p) s

/-! IDENT (R51, R52) -/

/-- The attached entry takes the facts of an IDENT with its own ID and epoch (R52). -/
def refreshFacts (e : Nat) (w : Ident) (s : State) : State :=
  settle [] [e] s.lastAlloc (modEntry e (fun x => { x with facts := some w.facts }) s)

/-- A port that has just detached its entry, judged as if in QUERYING (R52). -/
def lookupPort (s : State) : Port :=
  { link := .querying, silence := some s.room.silence, line := some (timeWord s) }

/-- A valid IDENT on a port in UP (R52). An IDENT that detaches is judged whole as a detach before it is looked up: that the
grant decisions and the upload arbiter are judged once there and again at the attach is the model's choice (log 8). -/
def identUp (p : Fin 16) (e : Nat) (w : Ident) (s : State) : State :=
  match s.entries.get e with
  | none => s
  | some x =>
    if x.id = w.id ∧ x.epoch = some w.epoch then refreshFacts e w s
    else identify p w (modPort p (fun _ => lookupPort s) (detach e p s))

/-- A valid IDENT by port state (R49, R51, R52). -/
def identTaken (p : Fin 16) (w : Ident) (s : State) : State :=
  let s1 := modPort p (Port.wellFormed s.room.silence) s
  match s.ports[p].link, s.ports[p].entry with
  | .querying, _ => identify p w s1
  | .up, some e => identUp p e w s1
  | _, _ => s1

/-- IDENT: an invalid one is a malformed word (R51). -/
def execIdent (p : Fin 16) (w : Ident) (s : State) : Host.Outcome State Fault Refusal :=
  event (fun s => if Ident.valid w then identTaken p w s else takeMalformed p s) s

/-! STATUS (R65, R76–R78) -/

/-- A new call raises STATION_CALL and puts the identify lamp out; the port keeps the word's call flag (R65). -/
def takeCall (e : Nat) (p : Fin 16) (call : Bool) (s : State) : State :=
  let s1 := modPort p (fun x => { x with lastCall := call }) s
  if call && !s.ports[p].lastCall then
    let s2 := raise .stationCall e s1
    match s.entries.get e with
    | some x => if x.identify then onQueues e (Queues.addIdentify false) (modEntry e (fun x => { x with identify := false }) s2)
      else s2
    | none => s2
  else s1

/-- The status view, last position and tray-empty-seen flag a STATUS leaves (R76). -/
def fillView (e : Nat) (w : StatusWord) (s : State) : State :=
  let picking := (pickingOf s e).isSome
  modEntry e (fun x =>
    { x with
      view := some w.view, lastPos := some w.position
      traySeenEmpty := x.traySeenEmpty || (picking && w.view.trayEmpty) }) s

/-- Apply a judgment to entry `e`, if it is in use. -/
def onEntry (e : Nat) (f : Entry → State → State) (s : State) : State :=
  match s.entries.get e with
  | some x => f x s
  | none => s

/-- Step 1 of R76: the cover. -/
def judgeCover (e : Nat) (x : Entry) (s : State) : State :=
  if x.coverOpen then
    match x.feed with
    | .running | .ready => if x.path.isEmpty && (pickingOf s e).isNone then s else halt e .cover s
    | .halted => modEntry e (fun x => { x with feed := .clearing }) s
    | .idle | .clearing => s
  else s

/-- Step 2 of R76: the direction (R77). -/
def judgeReverse (e : Nat) (x : Entry) (s : State) : State :=
  if x.feed.moving && x.reversing && !x.path.isEmpty then halt e .reverse s else s

/-- Step 3 of R76: the jam distances (R88). -/
def judgeJam (e : Nat) (x : Entry) (s : State) : State :=
  if x.feed.moving && !x.reversing && pathJammed s x then halt e .jam s else s

/-- Clearing ends (R78). -/
def endClearing (e : Nat) (s : State) : State :=
  modEntry e (fun x =>
    { x with
      lastGaugeTrail := none, cause := none, feed := if x.bound.isSome then .ready else .idle, timer := x.timer.resume })
    (emptyPath (fun v => { v with cleared := true }) e s)

/-- Step 4 of R76: the end of clearing. -/
def judgeClearing (e : Nat) (x : Entry) (s : State) : State :=
  if x.feed = .clearing ∧ x.coverOpen = false ∧ x.pathClear = true then endClearing e s else s

/-- The batches of a station's path, of its binding and of its PICKING record. -/
def stationBatches (s : State) (e : Nat) : List Nat :=
  match s.entries.get e with
  | some x => pathBatches s x ++ x.bound.toList
  | none => []

/-- A STATUS taken for the attached entry (R65, R76). -/
def statusTaken (p : Fin 16) (w : StatusWord) (e : Nat) (s : State) : State :=
  let s1 := fillView e w (takeCall e p w.call s)
  let s2 := onEntry e (judgeReverse e) (onEntry e (judgeCover e) s1)
  let s3 := onEntry e (judgeClearing e) (onEntry e (judgeJam e) s2)
  settle (stationBatches s e) [e] s.lastAlloc s3

/-- STATUS (R65, R76). -/
def execStatus (p : Fin 16) (w : StatusWord) (s : State) : Host.Outcome State Fault Refusal :=
  event (takeWord p (statusTaken p w)) s

/-! A downstream word leaves (R67) -/

/-- The GRANT of the station's PICKING record has left: the pick timer starts (R82). -/
def grantLeft (e : Nat) (t : Tag) (s : State) : State :=
  match pickingOf s e with
  | some (_, r) =>
    if r.tag = t then
      modEntry e (fun x =>
        { x with timer := if x.feed.moving then .running s.room.pickTimeout else .suspended s.room.pickTimeout }) s
    else s
  | none => s

/-- The UPLOAD of the station's upload has left: the stall timer starts at 500 ms, in either phase (R139). That it stays
suspended while the flow state is STOP is the model's choice (log 31). -/
def uploadLeft (e : Nat) (t : Tag) (sd : Side) (s : State) : State :=
  modUpload e (fun u =>
    if u.tag = t ∧ u.side = sd ∧ u.go = true then { u with stall := .running Config.stallMs } else u) s

/-- What a word's leaving does to the port it leaves and to the records it names; a word still queued is another use of
its tag (R49, R82, R139). -/
def wordLeft (p : Fin 16) (w : DownWord) (s : State) : State :=
  let x := s.ports[p]
  match w, x.entry with
  | .query, _ =>
    if x.link = .querying then modPort p (fun x => { x with queryTimer := some Config.queryMs }) s else s
  | .grant t, some e => if x.queues.grant = some t then s else grantLeft e t s
  | .upload t sd, some e => if x.queues.upload = some (t, sd) then s else uploadLeft e t sd s
  | _, _ => s

/-- The port takes its next word: the highest ranked waiting one, or TIME (R67). -/
def nextWord (p : Fin 16) (s : State) : State :=
  modPort p (fun x =>
    match x.queues.next with
    | some (w, q) => { x with line := some w, queues := q }
    | none => { x with line := some (timeWord s) }) s

/-- A word leaves a port that is not DOWN; the entry is judged again, since a RELEASE word's leaving frees its tag
(R30, R67, R80). -/
def wordLeaves (p : Fin 16) (s : State) : State :=
  let x := s.ports[p]
  if x.link = .down then s
  else
    let s1 := match x.line with | some w => wordLeft p w s | none => s
    let s2 := nextWord p s1
    match x.link, x.entry with
    | .up, some e => rejudge e s2
    | _, _ => s2

/-- DOWNSTREAM_WORD_LEAVES (R67). -/
def execDownstreamWordLeaves (p : Fin 16) (s : State) : Host.Outcome State Fault Refusal := event (wordLeaves p) s

end Sys2Proof.Machine
end

