-- ==== Sys2Proof/Machine/PaperPath.lean ====
section
/-! DEFINITION. The paper path: EDGE, THICK and PATCH words and the pick timer (chapters 4, 5 and 6). -/

namespace Sys2Proof.Machine

/-! Matching an edge (R85) -/

/-- The sheet has already had an edge (R85 condition 2). -/
def Place.seen (c : Place) : EdgeKind → Bool
  | .pickLead => true
  | .pickTrail => c.pickTrail
  | .gaugeLead => c.gaugeLead.isSome
  | .gaugeTrail => c.gaugeTrail.isSome
  | .exitLead => c.exitLead
  | .exitTrail _ => false

/-- The edges an edge follows on the same sheet have been seen (R85 condition 3). -/
def Place.follows (c : Place) : EdgeKind → Bool
  | .pickLead | .pickTrail | .gaugeLead => true
  | .gaugeTrail => c.gaugeLead.isSome && c.pickTrail
  | .exitLead => c.gaugeLead.isSome
  | .exitTrail _ => c.exitLead && c.gaugeTrail.isSome

/-- The sheet ahead has had its TRAIL edge at the sensor of a LEAD edge; one still in the queue has had no EXIT TRAIL
(R85 condition 5). -/
def Place.clearOf (ahead : Place) : EdgeKind → Bool
  | .gaugeLead => ahead.gaugeTrail.isSome
  | .exitLead => false
  | .pickLead | .pickTrail | .gaugeTrail | .exitTrail _ => true

/-- The place just ahead of a sheet in a path queue. -/
def placeAhead (slot : Nat) : List Place → Option Place
  | a :: b :: t => if b.slot = slot then some a else placeAhead slot (b :: t)
  | _ => none

/-- The sheet at a place is the oldest in the queue that has not had an edge (R85 condition 4). -/
def oldestWithout (k : EdgeKind) (l : List Place) (slot : Nat) : Bool :=
  match l.find? fun c => !c.seen k with
  | some c => decide (c.slot = slot)
  | none => false

/-- The place that owns an edge, where all five conditions hold (R85). -/
def edgeOwner (s : State) (e : Nat) (x : Entry) (t : Tag) (k : EdgeKind) : Option Place :=
  match findTagged s e t with
  | none => none
  | some (slot, _) =>
    match placeOf x slot with
    | none => none
    | some c =>
      let clear := match placeAhead slot x.path with | some a => a.clearOf k | none => true
      if !c.seen k && c.follows k && oldestWithout k x.path slot && clear then some c else none

/-! Applying an edge (R86, R87) -/

/-- The sheet's gap is captured at its GAUGE LEAD edge (R87). -/
def captureGap (slot : Nat) (last : Option Pos) (pos : Pos) (s : State) : State :=
  match last with
  | some g => modSheet slot (fun r => { r with gap := some (posDiff g pos) }) s
  | none => s

/-- A GAUGE LEAD edge is applied (R86). -/
def applyGaugeLead (e : Nat) (x : Entry) (slot : Nat) (pos : Pos) (s : State) : State :=
  captureGap slot x.lastGaugeTrail pos (modPlace e slot (fun c => { c with gaugeLead := some pos }) s)

/-- The length a GAUGE TRAIL edge gives lies in the range the AS16 handles (R87). -/
def lengthOk (n : Nat) : Bool := Config.within Config.lengthMin Config.lengthMax n

/-- A GAUGE TRAIL edge with a length in range is applied, and the verdict is formed if its inputs are complete or its
EXIT LEAD deadline has passed (R86, R87, R94, R95). -/
def applyGaugeTrail (e : Nat) (c : Place) (n : Nat) (pos : Pos) (s : State) : State :=
  let s1 := modPlace e c.slot (fun c => { c with gaugeTrail := some pos }) s
  let s2 := modEntry e (fun x => { x with lastGaugeTrail := some pos }) s1
  let s3 := modSheet c.slot (fun r => { r with length := some n }) s2
  match s3.sheets.get c.slot with
  | some r => if r.verdict = .pending ∧ c.exitLead = true then formVerdict e c.slot s3 else judgeInputs e c.slot s3
  | none => s3

/-- An EXIT LEAD edge is applied; it is the deadline of a pending verdict whose GAUGE TRAIL edge was applied (R86,
R95). -/
def applyExitLead (e : Nat) (c : Place) (s : State) : State :=
  let s1 := modPlace e c.slot (fun c => { c with exitLead := true }) s
  match s1.sheets.get c.slot with
  | some r => if r.verdict = .pending ∧ c.gaugeTrail.isSome then formVerdict e c.slot s1 else s1
  | none => s1

/-- The tray check of a CLEAR sheet (R101). -/
def checkTray (e : Nat) (t : Tray) (s : State) : State :=
  match t with
  | .output => s
  | .reject => halt e .stationFault s

/-- A CLEAR sheet exits: ROUTING, the tray check, its entry list if its images are ready, and its completion (R86, R101,
R130). That the STATION_FAULT halt comes before a completed sheet's slot is offered, so that the slot is not granted to
this station, is the model's choice (log 8). -/
def exitClear (e slot : Nat) (t : Tray) (s : State) : State :=
  completeIfDone slot (buildEntries slot (checkTray e t (modSheet slot (fun r => { r with state := .routing }) s)))

/-- A suspect sheet exits: PASSED and a halt where it reached the OUTPUT tray (R102). -/
def exitSuspect (e slot : Nat) (t : Tray) (s : State) : State :=
  match t with
  | .reject => s
  | .output =>
    halt e .suspectPassed (modSheet slot (fun r => { r with evidence := { r.evidence with passed := true } }) s)

/-- An EXIT TRAIL edge is applied (R86). -/
def applyExitTrail (e slot : Nat) (t : Tray) (s : State) : State :=
  let s1 := leavePath e slot (modSheet slot (fun r => { r with tray := some t }) s)
  match s1.sheets.get slot with
  | none => s1
  | some r =>
    match r.state with
    | .inPath => exitClear e slot t s1
    | .suspect => exitSuspect e slot t s1
    | .picking | .routing | .fault => s1

/-- An edge that is not applied: JAM in RUNNING and READY, dropped in HALTED (R85). -/
def edgeDropped (e : Nat) (x : Entry) (s : State) : State := if x.feed.moving then halt e .jam s else s

/-- An edge other than PICK LEAD is matched, and applied or not (R85, R86, R87). -/
def matchEdge (e : Nat) (t : Tag) (k : EdgeKind) (pos : Pos) (x : Entry) (s : State) : State :=
  match edgeOwner s e x t k with
  | none => edgeDropped e x s
  | some c =>
    match k with
    | .pickLead => s
    | .pickTrail => modPlace e c.slot (fun c => { c with pickTrail := true }) s
    | .gaugeLead => applyGaugeLead e x c.slot pos s
    | .gaugeTrail =>
      let n := posDiff (c.gaugeLead.getD pos) pos
      if lengthOk n then applyGaugeTrail e c n pos s else edgeDropped e x s
    | .exitLead => applyExitLead e c s
    | .exitTrail tray => applyExitTrail e c.slot tray s

/-! A pick (R34, R114) -/

/-- The path queue holds a sheet of class kind BATCH_END (R114). -/
def pathHasEnd (s : State) (x : Entry) : Bool :=
  x.path.any fun c => match (s.sheets.get c.slot).bind (·.cls) with
    | some (k, _) => decide (k = .batchEnd)
    | none => false

/-- The batch's side of a pick (R8, R9, R10). -/
def Batch.pick (b : Batch) : Batch :=
  { b with nextSeq := b.nextSeq + 1, fed := b.fed + 1, picking := b.picking - 1, live := b.live + 1 }

/-- The entry's side of a pick: the sheet joins the tail of the path queue, and the pick timer stops (R82–R84). -/
def Entry.pick (slot : Nat) (pos : Pos) (x : Entry) : Entry :=
  { x with path := x.path ++ [{ slot := slot, pickLead := pos }], misfeeds := 0, timer := .stopped }

/-- A PICKING record moves to IN_PATH with the batch's next sequence (R34). -/
def takePick (e slot : Nat) (r : Sheet) (x : Entry) (pos : Pos) (s : State) : State :=
  let s1 := modSheet slot (fun r => { r with state := .inPath, seq := (s.batches.get r.batch).map (·.nextSeq) }) s
  let s2 := modBatch r.batch Batch.pick s1
  let s3 := onQueues e (Queues.dropGrant r.tag) (modEntry e (Entry.pick slot pos) s2)
  if pathHasEnd s x then gainEvidence (fun v => { v with beyondEnd := true }) slot s3 else s3

/-- A PICK LEAD edge is taken by the station's PICKING record, or is stray (R34, R85). -/
def pickLeadTaken (e : Nat) (t : Tag) (pos : Pos) (x : Entry) (s : State) : State :=
  match pickingOf s e with
  | some (slot, r) => if r.tag = t then takePick e slot r x pos s else s
  | none => s

/-- An edge by feed state (R85). -/
def takeEdge (e : Nat) (t : Tag) (k : EdgeKind) (pos : Pos) (x : Entry) (s : State) : State :=
  match x.feed with
  | .idle | .clearing => s
  | .running | .ready | .halted =>
    match k with
    | .pickLead => pickLeadTaken e t pos x s
    | .pickTrail | .gaugeLead | .gaugeTrail | .exitLead | .exitTrail _ => matchEdge e t k pos x s

/-- The batch of the station's PICKING record. -/
def pickingBatches (s : State) (e : Nat) : List Nat := ((pickingOf s e).map fun p => p.2.batch).toList

/-- An EDGE taken for the attached entry: its position is the last position, the edge is taken, and jams are judged at
that position (R85, R88, log 10). -/
def edgeTaken (t : Tag) (k : EdgeKind) (pos : Pos) (e : Nat) (s : State) : State :=
  let s1 := modEntry e (fun x => { x with lastPos := some pos }) s
  let s2 := onEntry e (judgeJam e) (onEntry e (takeEdge e t k pos) s1)
  settle (stationBatches s e ++ pickingBatches s e) [e] s.lastAlloc (arbitrate s2)

/-- EDGE (R85). -/
def execEdge (p : Fin 16) (t : Tag) (k : EdgeKind) (pos : Pos) (s : State) : Host.Outcome State Fault Refusal :=
  event (takeWord p (edgeTaken t k pos)) s

/-! Reports (R93) -/

/-- A report is written into the record it is taken for, and its verdict is judged for formation (R93, R94). -/
def reportTaken (t : Tag) (f : Sheet → Sheet) (e : Nat) (s : State) : State :=
  match reportTarget s e t with
  | none => s
  | some (slot, _) => settle (stationBatches s e) [e] s.lastAlloc (judgeInputs e slot (modSheet slot f s))

/-- THICK (R93). -/
def execThick (p : Fin 16) (t : Tag) (v : ThickVerdict) (level : Byte) (s : State) : Host.Outcome State Fault Refusal :=
  event (takeWord p (reportTaken t fun r => { r with thick := some (v, level) })) s

/-- PATCH (R93). -/
def execPatch (p : Fin 16) (t : Tag) (pattern : Fin 64) (s : State) : Host.Outcome State Fault Refusal :=
  event (takeWord p (reportTaken t fun r => { r with pattern := some pattern })) s

/-! The pick timer (R83) -/

/-- The expiry counts as a misfeed; above the bound batch's retries it halts the station (R83). -/
def countMisfeed (e : Nat) (x : Entry) (h : Nat) (s : State) : State :=
  let s1 := modBatch h (fun b => { b with misfeeds := bump b.misfeeds }) s
  let s2 := modEntry e (fun x => { x with misfeeds := x.misfeeds + 1 }) s1
  match x.bound.bind s.batches.get with
  | some b => if b.retries < x.misfeeds + 1 then halt e .misfeed s2 else s2
  | none => s2

/-- The pick timer of entry `e` expires (R35, R83). -/
def pickExpiry (e : Nat) (x : Entry) (s : State) : State :=
  match x.timer.isRunning, pickingOf s e with
  | true, some (slot, r) =>
    let s1 := modEntry e (fun x => { x with timer := .stopped, traySeenEmpty := false }) (freePicking slot s)
    let s2 := if x.traySeenEmpty then s1 else countMisfeed e x r.batch s1
    settle [r.batch] [e] s.lastAlloc (offerSlot s2)
  | _, _ => s

/-- PICK_TIMER_EXPIRY (R83). -/
def execPickTimerExpiry (e : Fin 24) (s : State) : Host.Outcome State Fault Refusal :=
  event (fun s => onEntry e (pickExpiry e) s) s

end Sys2Proof.Machine
end

