-- ==== Sys2Proof/Machine/SheetCmds.lean ====
section
/-! DEFINITION. The requests on sheet records: finding, reading, listing suspects, and the four resolutions (chapter 2). -/

namespace Sys2Proof.Machine

/-! Finding and reading (2.5) -/

/-- The owner of FIND_SHEET (R37). -/
def ownFindSheet (x : Serial) (s : State) : Answer :=
  if x.seq = 0 then .refuse .badValue
  else match serialAt s x with
    | some (n, r) => .done s (.sheetFound n r.state r.station r.tag (inPath s n r))
    | none => .refuse .notFound

/-- FIND_SHEET (R37). -/
def execFindSheet (a : Params Serial) (s : State) : Host.Outcome State Fault Refusal :=
  .next (request 0x30 a ownFindSheet s)

/-- The active upload of a record (R132). -/
def uploadOf (s : State) (slot : Nat) (r : Sheet) : Option Upload :=
  (s.uploads.get r.station).filter fun u => decide (u.slot = slot)

/-- The reply to READ_SHEET on a record (R38, R132). -/
def sheetReply (s : State) (slot : Nat) (r : Sheet) : ReplyData := .sheet slot r (inPath s slot r) (uploadOf s slot r)

/-- The owner of READ_SHEET (R38). A slot number above 511, which the two bytes of its item can carry, is outside the range R38
gives and is refused with BAD_VALUE; R38 has 384 or more give NOT_FOUND and does not say which of the two it is there, so this is
the model's choice (log 34). -/
def ownReadSheet (a : SheetRef) (s : State) : Answer :=
  match a with
  | .serial x =>
    if x.seq = 0 then .refuse .badValue
    else match serialAt s x with
      | some (n, r) => .done s (sheetReply s n r)
      | none => .refuse .notFound
  | .slot n =>
    if 511 < n then .refuse .badValue
    else match sheetAt s n with
      | some r => .done s (sheetReply s n r)
      | none => .refuse .notFound

/-- READ_SHEET (R38). -/
def execReadSheet (a : Params SheetRef) (s : State) : Host.Outcome State Fault Refusal :=
  .next (request 0x31 a ownReadSheet s)

/-- Insert a record in increasing order of sequence. -/
def insertBySeq (p : Nat × Sheet) : List (Nat × Sheet) → List (Nat × Sheet)
  | [] => [p]
  | q :: t => if p.2.seq.getD 0 ≤ q.2.seq.getD 0 then p :: q :: t else q :: insertBySeq p t

/-- The open suspects of a batch from a sequence on, in increasing order of sequence (R39). -/
def suspectsFrom (s : State) (h start : Nat) : List (Nat × Sheet) :=
  (s.sheets.filter fun p =>
    decide (p.2.batch = h) && p.2.isOpenSuspect && decide (start ≤ p.2.seq.getD 0)).foldr insertBySeq []

/-- What LIST_SUSPECTS says of a record (R39, log 33). -/
def suspectLine (s : State) (p : Nat × Sheet) : SuspectLine :=
  { seq := p.2.seq.getD 0, state := p.2.state, evidence := p.2.evidence, fault := p.2.fault
    imagesReady := p.2.images.isSome, inPath := inPath s p.1 p.2 }

/-- The owner of LIST_SUSPECTS (R39). -/
def ownListSuspects (a : ListArgs) (s : State) : Answer :=
  if a.start = 0 then .refuse .badValue
  else withBatch a.handle s fun _ =>
    let l := suspectsFrom s a.handle a.start
    .done s (.suspects ((l.take Config.suspectPage).map (suspectLine s)) (decide (Config.suspectPage < l.length)))

/-- LIST_SUSPECTS (R39). -/
def execListSuspects (a : Params ListArgs) (s : State) : Host.Outcome State Fault Refusal :=
  .next (request 0x32 a ownListSuspects s)

/-! Resolution (2.9) -/

/-- The four outcomes of RESOLVE (R44). -/
inductive Resolution where
  | accept | rescan | discard | retry
deriving DecidableEq, Repr

/-- The outcome ends the record (R46). -/
def Resolution.ends : Resolution → Bool
  | .rescan | .discard => true
  | .accept | .retry => false

/-- Check 3 of RESOLVE: out of the path, and an open suspect, or in ROUTING without images where the outcome ends it
(R44). -/
def mayResolve (s : State) (o : Resolution) (slot : Nat) (r : Sheet) : Bool :=
  !inPath s slot r && (r.isOpenSuspect || (o.ends && decide (r.state = .routing) && r.images.isNone))

/-- Check 4 of RESOLVE: the outcome's own conditions (R44). -/
def outcomeOk (o : Resolution) (r : Sheet) : Bool :=
  match o with
  | .accept =>
    r.images.isSome && decide (r.fault ≠ some .imagesLost) && !r.evidence.cleared && !r.evidence.linkLost &&
    r.captured.isSome
  | .retry => decide (r.state = .fault) && decide (r.fault = some .uploadFailed)
  | .rescan | .discard => true

/-- The record goes back to ROUTING, an open suspect of its batch no longer (R45, R47). -/
def toRouting (slot : Nat) (r : Sheet) (f : Sheet → Sheet) (s : State) : State :=
  modBatch r.batch (fun b => { b with openSuspects := b.openSuspects - 1 })
    (modSheet slot (fun r => f { r with state := .routing }) s)

/-- The judgments that end a resolution. -/
def afterResolve (slot : Nat) (r : Sheet) (start : Nat) (s : State) : State :=
  settle [r.batch] [r.station] start (arbitrate (completeIfDone slot (buildEntries slot s)))

/-- The record as ACCEPT leaves it: resolved, and from FAULT retried (R45). -/
def Sheet.accepted (r : Sheet) : Sheet :=
  if r.fault.isSome then { r with resolved := true, failures := 0, fault := none } else { r with resolved := true }

/-- RESOLVE ACCEPT on a record (R45). -/
def acceptSheet (slot : Nat) (r : Sheet) (s : State) : State :=
  afterResolve slot r s.lastAlloc (toRouting slot r Sheet.accepted s)

/-- RESOLVE RETRY on a record (R47). -/
def retrySheet (slot : Nat) (r : Sheet) (s : State) : State :=
  afterResolve slot r s.lastAlloc (toRouting slot r (fun r => { r with failures := 0, fault := none }) s)

/-- The release a record ended by RESOLVE owes: none where its images are lost (R42, R46). -/
def endRelease (r : Sheet) : Option ReleaseOutcome := if r.fault = some .imagesLost then none else some .dropped

/-- RESOLVE RESCAN or DISCARD on a record, counted by `f` (R46). -/
def endSheet (slot : Nat) (r : Sheet) (f : Batch → Batch) (s : State) : State :=
  settle [r.batch] [r.station] s.lastAlloc (retireRecord slot (endRelease r) (modBatch r.batch f s))

/-- The state of the record a serial names, or none where it has retired (R44). -/
def stateAfter (s : State) (x : Serial) : Option SheetState := (findSerial s x).map (·.2.state)

/-- The checks of RESOLVE, then what the outcome does (R44). -/
def resolve (o : Resolution) (act : Nat → Sheet → State → State) (x : Serial) (s : State) : Answer :=
  if x.seq = 0 then .refuse .badValue
  else match serialAt s x with
    | none => .refuse .notFound
    | some (slot, r) =>
      if mayResolve s o slot r && outcomeOk o r then
        let s1 := act slot r s
        .done s1 (.resolved (stateAfter s1 x))
      else .refuse .wrongState

/-- RESOLVE with outcome ACCEPT (R44, R45). -/
def execResolveAccept (a : Params Serial) (s : State) : Host.Outcome State Fault Refusal :=
  .next (request 0x33 a (resolve .accept acceptSheet) s)

/-- RESOLVE with outcome RESCAN (R44, R46). -/
def execResolveRescan (a : Params Serial) (s : State) : Host.Outcome State Fault Refusal :=
  .next (request 0x33 a
    (resolve .rescan fun n r => endSheet n r fun b => { b with rescanned := b.rescanned + 1 }) s)

/-- RESOLVE with outcome DISCARD (R44, R46). -/
def execResolveDiscard (a : Params Serial) (s : State) : Host.Outcome State Fault Refusal :=
  .next (request 0x33 a
    (resolve .discard fun n r => endSheet n r fun b => { b with discarded := b.discarded + 1 }) s)

/-- RESOLVE with outcome RETRY (R44, R47). -/
def execResolveRetry (a : Params Serial) (s : State) : Host.Outcome State Fault Refusal :=
  .next (request 0x33 a (resolve .retry retrySheet) s)

end Sys2Proof.Machine
end

