-- ==== Sys2Proof/Machine/StationCmds.lean ====
section
/-! DEFINITION. The requests on stations and ports: listing, reading, naming and forgetting entries, identify and hold by address, and RESET_PORT (chapter 3). -/

namespace Sys2Proof.Machine

/-- What LIST_STATIONS says of a port (R59). -/
def portLine (x : Port) : PortLine :=
  { link := x.link
    entry := if x.link = .up then x.entry else none
    kept := if x.link = .unlisted then x.kept else none }

/-- What LIST_STATIONS says of directory index `i` (R59). -/
def entryLine (s : State) (i : Nat) : EntryLine :=
  match s.entries.get i with
  | some x => .used i x.id x.name x.port.isSome x.feed x.bound
  | none => .free i (s.reservations.get i)

/-- The owner of LIST_STATIONS (R59). -/
def ownListStations (_ : Unit) (s : State) : Answer :=
  .done s (.stations (s.ports.toList.map portLine) ((List.range Config.entryCount).map (entryLine s)))

/-- LIST_STATIONS (R59). -/
def execListStations (a : Params Unit) (s : State) : Host.Outcome State Fault Refusal :=
  .next (request 0x10 a ownListStations s)

/-- The serials of a path queue, in pick order (R59). -/
def pathSerials (s : State) (x : Entry) : List (Option Serial) :=
  x.path.map fun c => (s.sheets.get c.slot).bind Sheet.serial

/-- The owner of READ_STATION (R59). -/
def ownReadStation (e : Nat) (s : State) : Answer :=
  withEntry e s fun x =>
    .done s (.station x (holds s e x) (pathSerials s x) ((pickingOf s e).map fun p => (p.1, p.2.tag)))

/-- READ_STATION (R59). -/
def execReadStation (a : Params Nat) (s : State) : Host.Outcome State Fault Refusal :=
  .next (request 0x11 a ownReadStation s)

/-- The owner of NAME_STATION (R60). -/
def ownNameStation (a : NameArgs) (s : State) : Answer :=
  if nameOk 12 a.name then
    withEntry a.index s fun _ => .done (modEntry a.index (fun x => { x with name := a.name }) s) .empty
  else .refuse .badValue

/-- NAME_STATION (R60). -/
def execNameStation (a : Params NameArgs) (s : State) : Host.Outcome State Fault Refusal :=
  .next (request 0x12 a ownNameStation s)

/-- The attention pairs that go with a forgotten entry (R61). -/
def namesStation (e : Nat) (a : Attn) : Bool :=
  decide (a.2 = e) && (decide (a.1 = .stationNew) || decide (a.1 = .stationCall) || decide (a.1 = .stationHalted))

/-- Every DUPLICATE port waiting for an ID is queried (R61). -/
def requeryAll (i : StationId) (s : State) : State :=
  { s with ports := s.ports.map fun x => if x.waitsFor i then x.toQuerying none else x }

/-- Entry `e` is freed with what goes with it (R61). -/
def forgetEntry (e : Nat) (x : Entry) (s : State) : State :=
  let s1 := { s with entries := s.entries.del e, waiting := s.waiting.filter fun j => decide (j ≠ e) }
  requeryAll x.id (reserveEntry e (dropAttention (namesStation e) s1))

/-- The owner of FORGET_STATION (R61). -/
def ownForgetStation (e : Nat) (s : State) : Answer :=
  withEntry e s fun x =>
    if x.port.isSome || x.bound.isSome || decide (0 < x.liveCount) then .refuse .inUse
    else .done (forgetEntry e x s) .empty

/-- FORGET_STATION (R61). -/
def execForgetStation (a : Params Nat) (s : State) : Host.Outcome State Fault Refusal :=
  .next (request 0x13 a ownForgetStation s)

/-- One matching entry takes an identify setting, and a present one is sent it (R63). -/
def setIdentify (on : Bool) (s : State) (e : Nat) : State :=
  onQueues e (Queues.addIdentify on) (modEntry e (fun x => { x with identify := on }) s)

/-- The owner of IDENTIFY (R62, R63). -/
def ownIdentify (a : IdentifyArgs) (s : State) : Answer :=
  if addressOk a.address then
    let es := matching s a.address
    .done (es.foldl (setIdentify a.setting) s) (.count es.length)
  else .refuse .badValue

/-- IDENTIFY (R63). -/
def execIdentify (a : Params IdentifyArgs) (s : State) : Host.Outcome State Fault Refusal :=
  .next (request 0x14 a ownIdentify s)

/-- One matching entry takes a host hold (R64). -/
def setHold (on : Bool) (s : State) (e : Nat) : State := modEntry e (fun x => { x with hostHold := on }) s

/-- The owner of HOLD_STATION and RELEASE_STATION: the matching entries take the hold and are judged again, in the order
of R33 (R62, R64, R80). -/
def ownHold (on : Bool) (a : StationId) (s : State) : Answer :=
  if addressOk a then
    let es := matching s a
    .done (rejudgeAll es s.lastAlloc (es.foldl (setHold on) s)) (.count es.length)
  else .refuse .badValue

/-- HOLD_STATION (R64). -/
def execHoldStation (a : Params StationId) (s : State) : Host.Outcome State Fault Refusal :=
  .next (request 0x15 a (ownHold true) s)

/-- RELEASE_STATION (R64). -/
def execReleaseStation (a : Params StationId) (s : State) : Host.Outcome State Fault Refusal :=
  .next (request 0x16 a (ownHold false) s)

/-- The owner of RESET_PORT (R55). -/
def ownResetPort (n : Nat) (s : State) : Answer :=
  if h : n < 16 then .done (portDown ⟨n, h⟩ s) (.portWas s.ports[n].link) else .refuse .notFound

/-- RESET_PORT (R55). -/
def execResetPort (a : Params Nat) (s : State) : Host.Outcome State Fault Refusal :=
  .next (request 0x1B a ownResetPort s)

end Sys2Proof.Machine
end

