-- ==== Sys2Proof/Machine/TableCmds.lean ====
section
/-! DEFINITION. The requests on the Class Table and the Route Plan Table (chapters 6 and 8). -/

namespace Sys2Proof.Machine

/-- The entries of the Class Table from an index on, each with its index (R108). -/
def classesFrom (s : State) (start : Nat) : List (Nat × ClassEntry) :=
  ((List.finRange 64).filter fun i => decide (start ≤ i.val)).map fun i => (i.val, s.classes[i])

/-- The owner of READ_CLASS (R108). -/
def ownReadClass (n : Nat) (s : State) : Answer :=
  if n < Config.classCount then .done s (.classes (classesFrom s n)) else .refuse .notFound

/-- READ_CLASS (R108). -/
def execReadClass (a : Params Nat) (s : State) : Host.Outcome State Fault Refusal :=
  .next (request 0x40 a ownReadClass s)

/-- The owner of SET_CLASS (R109). -/
def ownSetClass (a : ClassArgs) (s : State) : Answer :=
  match kindOfCode a.kind with
  | none => .refuse .badValue
  | some k =>
    if 7 < a.category then .refuse .badValue
    else if h : a.index < 64 then
      let c : ClassEntry := { kind := k, category := a.category, exempt := a.exempt }
      .done { s with classes := s.classes.set a.index c } (.classes [(a.index, c)])
    else .refuse .notFound

/-- SET_CLASS (R109). -/
def execSetClass (a : Params ClassArgs) (s : State) : Host.Outcome State Fault Refusal :=
  .next (request 0x41 a ownSetClass s)

/-- The number of batch records in OPEN or CLOSING whose current route plan is a plan (R128). -/
def planUsers (s : State) (n : Nat) : Nat := s.batches.count fun b => decide (b.state ≠ .closed) && decide (b.plan = n)

/-- A pending amendment names a plan. -/
def Batch.amendsTo (n : Nat) (b : Batch) : Bool := decide (b.pendingAmend.bind (·.plan) = some n)

/-- The number of batch records whose pending amendment names a plan (R128). -/
def planAmenders (s : State) (n : Nat) : Nat := s.batches.count (Batch.amendsTo n)

/-- The owner of READ_PLAN (R128). -/
def ownReadPlan (n : Nat) (s : State) : Answer :=
  if h : n < 16 then
    .done s (.plan s.plans[n].body (planUsers s n) (planAmenders s n) s.plans[n].captures)
  else .refuse .notFound

/-- READ_PLAN (R128). -/
def execReadPlan (a : Params Nat) (s : State) : Host.Outcome State Fault Refusal :=
  .next (request 0x42 a ownReadPlan s)

/-- An optional lane number, if it is in range (R129). -/
def laneChoice : Option Nat → Option (Option (Fin 4))
  | none => some none
  | some n => if h : n < 4 then some (some ⟨n, h⟩) else none

/-- The lanes of a row differ, and a row without a primary lane carries nothing else (R127, R129). -/
def rowOk (w : Row) : Bool :=
  match w.primary with
  | none => w.copy.isNone && w.fallback.isNone && !w.secure
  | some p =>
    decide (w.copy ≠ some p) && decide (w.fallback ≠ some p) && (w.fallback.isNone || decide (w.fallback ≠ w.copy))

/-- The row a request carries, if it is well formed (R129). -/
def rowOf (w : RowArgs) : Option Row :=
  match laneChoice w.primary, laneChoice w.copy, laneChoice w.fallback with
  | some p, some c, some f =>
    let r : Row := { primary := p, copy := c, fallback := f, secure := w.secure }
    if rowOk r then some r else none
  | _, _, _ => none

/-- The eight rows a request carries, if they are well formed (R129). -/
def rowsOf (l : List RowArgs) : Option (Vector Row 8) :=
  match l with
  | [a, b, c, d, e, f, g, h] =>
    match rowOf a, rowOf b, rowOf c, rowOf d, rowOf e, rowOf f, rowOf g, rowOf h with
    | some a, some b, some c, some d, some e, some f, some g, some h => some #v[a, b, c, d, e, f, g, h]
    | _, _, _, _, _, _, _, _ => none
  | _ => none

/-- A plan is in use, so that it cannot be changed (R129 check 3). -/
def planInUse (s : State) (n : Nat) (p : Plan) : Bool :=
  decide (0 < planUsers s n) || decide (0 < planAmenders s n) || decide (0 < p.captures)

/-- The owner of SET_PLAN (R129). -/
def ownSetPlan (a : PlanArgs) (s : State) : Answer :=
  if nameOk 8 a.name then
    match rowsOf a.rows with
    | none => .refuse .badValue
    | some rows =>
      if h : a.plan < 16 then
        if planInUse s a.plan s.plans[a.plan] then .refuse .inUse
        else .done (modPlan a.plan (fun p => { p with body := { name := a.name, rows := rows } }) s) .empty
      else .refuse .notFound
  else .refuse .badValue

/-- SET_PLAN (R129). -/
def execSetPlan (a : Params PlanArgs) (s : State) : Host.Outcome State Fault Refusal :=
  .next (request 0x43 a ownSetPlan s)

end Sys2Proof.Machine
end

