-- ==== Sys2Proof/Machine/Dispatch.lean ====
section
/-! DEFINITION. The meaning of every command: one arm for each constructor of Instr, one direct call. -/

namespace Sys2Proof.Machine

/-- A command's effect on everything but the queue. -/
def exec (i : Instr) (s : State) : Host.Outcome State Fault Refusal :=
  match i with
  | .powerUp => Sys2Proof.Machine.execPowerUp s
  | .resetNAssert => Sys2Proof.Machine.execResetNAssert s
  | .resetNRelease => Sys2Proof.Machine.execResetNRelease s
  | .settingsLoadEnd => Sys2Proof.Machine.execSettingsLoadEnd s
  | .frameOverrun => Sys2Proof.Machine.execFrameOverrun s
  | .badFrame code => Sys2Proof.Machine.execBadFrame code s
  | .unknownRequest code => Sys2Proof.Machine.execUnknownRequest code s
  | .ignoredTransaction first => Sys2Proof.Machine.execIgnoredTransaction first s
  | .readTransaction clocked => Sys2Proof.Machine.execReadTransaction clocked s
  | .readAttention a => Sys2Proof.Machine.execReadAttention a s
  | .clearAttention a => Sys2Proof.Machine.execClearAttention a s
  | .readRoom a => Sys2Proof.Machine.execReadRoom a s
  | .setRoom a => Sys2Proof.Machine.execSetRoom a s
  | .setAttentionMask a => Sys2Proof.Machine.execSetAttentionMask a s
  | .saveSettings a => Sys2Proof.Machine.execSaveSettings a s
  | .saveSettingsCompletion => Sys2Proof.Machine.execSaveSettingsCompletion s
  | .saveSettingsWriteFailure => Sys2Proof.Machine.execSaveSettingsWriteFailure s
  | .resetPart a => Sys2Proof.Machine.execResetPart a s
  | .listStations a => Sys2Proof.Machine.execListStations a s
  | .readStation a => Sys2Proof.Machine.execReadStation a s
  | .nameStation a => Sys2Proof.Machine.execNameStation a s
  | .forgetStation a => Sys2Proof.Machine.execForgetStation a s
  | .identify a => Sys2Proof.Machine.execIdentify a s
  | .holdStation a => Sys2Proof.Machine.execHoldStation a s
  | .releaseStation a => Sys2Proof.Machine.execReleaseStation a s
  | .resetPort a => Sys2Proof.Machine.execResetPort a s
  | .start a => Sys2Proof.Machine.execStart a s
  | .standby a => Sys2Proof.Machine.execStandby a s
  | .haltStation a => Sys2Proof.Machine.execHaltStation a s
  | .resume a => Sys2Proof.Machine.execResume a s
  | .openBatch a => Sys2Proof.Machine.execOpenBatch a s
  | .findBatch a => Sys2Proof.Machine.execFindBatch a s
  | .readBatch a => Sys2Proof.Machine.execReadBatch a s
  | .amendBatchImmediate a => Sys2Proof.Machine.execAmendBatchImmediate a s
  | .amendBatchAtCheckpoint a => Sys2Proof.Machine.execAmendBatchAtCheckpoint a s
  | .bindBatch a => Sys2Proof.Machine.execBindBatch a s
  | .unbind a => Sys2Proof.Machine.execUnbind a s
  | .pause a => Sys2Proof.Machine.execPause a s
  | .resumeBatch a => Sys2Proof.Machine.execResumeBatch a s
  | .checkpoint a => Sys2Proof.Machine.execCheckpoint a s
  | .close a => Sys2Proof.Machine.execClose a s
  | .abort a => Sys2Proof.Machine.execAbort a s
  | .retire a => Sys2Proof.Machine.execRetire a s
  | .findSheet a => Sys2Proof.Machine.execFindSheet a s
  | .readSheet a => Sys2Proof.Machine.execReadSheet a s
  | .listSuspects a => Sys2Proof.Machine.execListSuspects a s
  | .resolveAccept a => Sys2Proof.Machine.execResolveAccept a s
  | .resolveRescan a => Sys2Proof.Machine.execResolveRescan a s
  | .resolveDiscard a => Sys2Proof.Machine.execResolveDiscard a s
  | .resolveRetry a => Sys2Proof.Machine.execResolveRetry a s
  | .readClass a => Sys2Proof.Machine.execReadClass a s
  | .setClass a => Sys2Proof.Machine.execSetClass a s
  | .readPlan a => Sys2Proof.Machine.execReadPlan a s
  | .setPlan a => Sys2Proof.Machine.execSetPlan a s
  | .readLane a => Sys2Proof.Machine.execReadLane a s
  | .setLane a => Sys2Proof.Machine.execSetLane a s
  | .suspendLane a => Sys2Proof.Machine.execSuspendLane a s
  | .resumeLane a => Sys2Proof.Machine.execResumeLane a s
  | .loopbackLane a => Sys2Proof.Machine.execLoopbackLane a s
  | .resetLane a => Sys2Proof.Machine.execResetLane a s
  | .portLineActivity p => Sys2Proof.Machine.execPortLineActivity p s
  | .fill p => Sys2Proof.Machine.execFill p s
  | .malformedWord p => Sys2Proof.Machine.execMalformedWord p s
  | .stationSilenceTimeout p => Sys2Proof.Machine.execStationSilenceTimeout p s
  | .queryTimerExpiry p => Sys2Proof.Machine.execQueryTimerExpiry p s
  | .ident p w => Sys2Proof.Machine.execIdent p w s
  | .status p w => Sys2Proof.Machine.execStatus p w s
  | .edge p tag k pos => Sys2Proof.Machine.execEdge p tag k pos s
  | .thick p tag v level => Sys2Proof.Machine.execThick p tag v level s
  | .patch p tag pattern => Sys2Proof.Machine.execPatch p tag pattern s
  | .pickTimerExpiry e => Sys2Proof.Machine.execPickTimerExpiry e s
  | .ready p tag sides => Sys2Proof.Machine.execReady p tag sides s
  | .imageStart p tag side blocks => Sys2Proof.Machine.execImageStart p tag side blocks s
  | .block p data => Sys2Proof.Machine.execBlock p data s
  | .imageEnd p check => Sys2Proof.Machine.execImageEnd p check s
  | .stallTimerExpiry e => Sys2Proof.Machine.execStallTimerExpiry e s
  | .downstreamWordLeaves p => Sys2Proof.Machine.execDownstreamWordLeaves p s
  | .laneLineActivity l => Sys2Proof.Machine.execLaneLineActivity l s
  | .archiveFill l => Sys2Proof.Machine.execArchiveFill l s
  | .laneMalformedWord l => Sys2Proof.Machine.execLaneMalformedWord l s
  | .laneSilenceTimeout l => Sys2Proof.Machine.execLaneSilenceTimeout l s
  | .accept l d => Sys2Proof.Machine.execAccept l d s
  | .secured l d => Sys2Proof.Machine.execSecured l d s
  | .refuse l d r => Sys2Proof.Machine.execRefuse l d r s
  | .archiveStatus l r => Sys2Proof.Machine.execArchiveStatus l r s
  | .ackTimeout l d => Sys2Proof.Machine.execAckTimeout l d s
  | .secureTimeout l d => Sys2Proof.Machine.execSecureTimeout l d s
  | .laneWordLeaves l => Sys2Proof.Machine.execLaneWordLeaves l s
  | .settingsEntryWritten => Sys2Proof.Machine.execSettingsEntryWritten s

end Sys2Proof.Machine
end

