-- ==== Sys2Proof/Safety.lean ====
section
/-! DEFINITION. What every step keeps: canonical tables, the attention set's order, the Command Port's buffers, settings in range, lane windows, grants, and the accounts of every batch; and the words the statements use: when the port takes a request, when events happen, and the state a start leaves. -/

namespace Sys2Proof.Machine

/-! When a command is taken -/

/-- The Command Port takes a request (R159). -/
abbrev Takes (s : State) : Prop := s.resetLow = false ∧ s.cp.phase = .idle

/-- Links, lanes and timers run (R169). -/
abbrev Runs (s : State) : Prop := s.resetLow = false ∧ s.loading = false

/-- The request is answered with a refusal and changes nothing else (R161). -/
abbrev Refuses (c : Instr) (code : Byte) (r : Result) (s : State) : Prop :=
  exec c s = .next (assemble code r .empty s)

/-- The request is answered OK with reply data, and its event leaves `t` (R159). -/
abbrev Replies (c : Instr) (code : Byte) (d : ReplyData) (s t : State) : Prop := exec c s = .next (assemble code .ok d t)

/-- The event changes the state to `t`. -/
abbrev Leaves (c : Instr) (s t : State) : Prop := exec c s = .next t

/-- Port `p` is UP with entry `e` attached. -/
abbrev AttachedTo (s : State) (p : Fin 16) (e : Nat) : Prop := s.ports[p].link = .up ∧ s.ports[p].entry = some e

/-- A well-formed word has been counted on port `p` (R49, R50). -/
def counted (p : Fin 16) (s : State) : State := modPort p (Port.wellFormed s.room.silence) s

/-- A well-formed word has been counted on lane `l` (R144, R145). -/
def laneCounted (l : Fin 4) (s : State) : State := modLane l Lane.wellFormed s

/-- The settings a load takes from the store of a state (R169). -/
def loaded (s : State) : Settings := if s.store.checkOk then s.store.settings else defaultSettings

/-- The state a start leaves, field by field: every block in its reset state, the loaded settings in working memory, the
store kept, and the load in progress (R1, R27, R49, R57, R132, R144, R159, R162, R169; log 5, log 6). -/
def freshState (s : State) : State :=
  { pending := s.pending, resetLow := false, loading := true, clock := 0, cp := {}, attention := []
    room := (loaded s).room, store := s.store, storeState := s.storeState, save := none
    ports := Vector.replicate 16 {}, entries := rebuiltEntries (loaded s).directory, reservations := []
    sheets := [], waiting := [], lastAlloc := 23, batches := [], classes := (loaded s).classes
    plans := Vector.ofFn fun n : Fin 16 => { body := (loaded s).plans[n], captures := 0 }
    uploads := [], lastUpload := 23
    lanes := Vector.ofFn fun l : Fin 4 => { params := (loaded s).lanes[l] } }

/-! What the loss of a station and the end of clearing leave -/

/-- The sheets of batch `h` that stand in IN_PATH in a path queue: its new suspects when the queue is emptied (R98, R103). -/
def pathNews (s : State) (x : Entry) (h : Nat) : Nat :=
  (x.path.filter fun c => match s.sheets.get c.slot with
    | some r => decide (r.batch = h) && decide (r.state = .inPath)
    | none => false).length

/-- From `s` to `u` the sheets of the path queue of `x` have left it: each is SUSPECT with the evidence `f` adds, and each new
suspect is counted in its batch with SUSPECT_OPEN raised; of a batch only pause reasons and picking may change beside (R78,
R89, R98, R103). -/
abbrev PathEmptied (f : Evidence → Evidence) (x : Entry) (s u : State) : Prop :=
  (∀ c ∈ x.path, ∀ r, s.sheets.get c.slot = some r → r.state = .inPath ∨ r.state = .suspect →
    ∃ q, u.sheets.get c.slot = some q ∧
      q = { r with state := .suspect, evidence := f r.evidence, deliveries := q.deliveries }) ∧
  ∀ h b, s.batches.get h = some b → ∃ c, u.batches.get h = some c ∧
    c = { b with openSuspects := b.openSuspects + pathNews s x h, picking := c.picking, pauses := c.pauses } ∧
    (0 < pathNews s x h → AttnKind.suspectOpen ∉ s.room.mask → (.suspectOpen, h) ∈ u.attention)

/-- The RELEASE words of a port that have not left, the one on its line first (R42, R54; the line, log 13). -/
def waitingReleases (x : Port) : List (Tag × ReleaseOutcome) :=
  (match x.line with
    | some (.release t o) => [(t, o)]
    | _ => []) ++ x.queues.release

/-- From `s` to `u` the loss of entry `e`, `x`, on port `p` has been applied: the port is DOWN and empty; the entry is absent
with an empty path, and unless it was IDLE it is HALTED with LINK_LOST; the sheets of its path have LINK_LOST; its PICKING
record is freed uncounted; its upload is abandoned without a failure; and its waiting RELEASE words are owed (R54, R74, R89,
R142). -/
abbrev LossApplied (p : Fin 16) (e : Nat) (x : Entry) (s u : State) : Prop :=
  u = { s with
    entries := u.entries, batches := u.batches, sheets := u.sheets, uploads := s.uploads.del e, lanes := u.lanes
    ports := u.ports, attention := u.attention } ∧
  (u.ports[p] = {} ∧ (∀ q : Fin 16, q ≠ p → x.port ≠ some q → u.ports[q] = s.ports[q]) ∧
    ∀ j, j ≠ e → u.entries.get j = s.entries.get j) ∧
  (∃ y, u.entries.get e = some y ∧
    y = { x with
      port := none, path := [], view := none, lastPos := none, lastGaugeTrail := none, traySeenEmpty := false
      feed := if x.feed = .idle then .idle else .halted
      cause := if x.feed = .idle then x.cause else some .linkLost
      owed := y.owed, timer := y.timer, liveCount := y.liveCount } ∧
    (pickingOf s e = none → y.liveCount = x.liveCount ∧
      y.timer = if x.feed = .running ∨ x.feed = .ready then x.timer.suspend else x.timer) ∧
    (∀ n r, pickingOf s e = some (n, r) →
      u.sheets.get n = none ∧ y.liveCount = x.liveCount - 1 ∧ y.timer = .stopped) ∧
    ((x.owed.map Prod.fst).Pairwise (· < ·) → ((waitingReleases s.ports[p]).map Prod.fst).Nodup → ∀ q,
      q ∈ y.owed ↔ q ∈ waitingReleases s.ports[p] ∨ (q ∈ x.owed ∧ ∀ w ∈ waitingReleases s.ports[p], w.1 ≠ q.1))) ∧
  (x.feed ≠ .idle → AttnKind.stationHalted ∉ s.room.mask → (.stationHalted, e) ∈ u.attention) ∧
  PathEmptied (fun v => { v with linkLost := true }) x s u ∧
  (∀ h b c, s.batches.get h = some b → u.batches.get h = some c →
    ((∀ n r, pickingOf s e = some (n, r) → r.batch ≠ h) → c.picking = b.picking) ∧
    ∀ n r, pickingOf s e = some (n, r) → r.batch = h → c.picking = b.picking - 1) ∧
  (∀ n r, s.sheets.get n = some r → (∀ m z, pickingOf s e = some (m, z) → m ≠ n) → ∃ q, u.sheets.get n = some q ∧
    ((∀ c ∈ x.path, c.slot ≠ n) → q = { r with deliveries := q.deliveries }) ∧
    ((∀ v, s.uploads.get e = some v → v.slot ≠ n) → q.deliveries = r.deliveries) ∧
    ∀ v, s.uploads.get e = some v → v.slot = n → q.failures = r.failures ∧
      ∀ d ∈ v.dests, ∀ z, deliveryOf r v.side d.2 = some z →
        deliveryOf q v.side d.2 = some { z with status := .waiting, number := none } ∧
        ∀ m, z.number = some m → z.status = .inFlight →
          (∀ w ∈ u.lanes[z.lane].window, w.number ≠ m) ∧ (∀ b ∈ u.lanes[z.lane].fifo, b.1 ≠ m) ∧
          (s.lanes[z.lane].state ≠ .loopback → .abandon m ∈ u.lanes[z.lane].ctrl)) ∧
  (s.uploads.get e = none → u.lanes = s.lanes)

/-- What the detach of entry `e`, `x`, from port `p` leaves: the loss applied; the lowest DUPLICATE port for its ID re-queried;
and then the freed slot offered and the judgments of its batches and its own, with the upload arbiter (R53, R54, R89, R142). -/
abbrev DetachLeaves (p : Fin 16) (e : Nat) (x : Entry) (s t : State) : Prop :=
  ∃ u v : State, LossApplied p e x s u ∧
    (lowestPort s (Port.waitsFor x.id) = none → v = u) ∧
    (∀ q, lowestPort s (Port.waitsFor x.id) = some q → v = modPort q (fun y =>
      { y with
        link := .querying, align := 0, queryTimer := none, kept := none, requeriedFor := some x.id
        queues := { y.queues with query := true } }) u) ∧
    t = arbitrate (settle (stationBatches s e ++ pickingBatches s e) [e] s.lastAlloc
      (if (pickingOf s e).isSome then offerSlot v else v))

/-! Invariants -/

/-- Every collection is in its canonical form: rising indices below its size (R1, R27, R57, R132). -/
abbrev TablesOk (s : State) : Prop :=
  Tab.wf Config.entryCount s.entries ∧ Tab.wf Config.entryCount s.reservations ∧ Tab.wf Config.sheetCount s.sheets ∧
  Tab.wf Config.batchCount s.batches ∧ Tab.wf Config.entryCount s.uploads

/-- A reserved directory index is free (R53). -/
abbrev ReservedFree (s : State) : Prop := ∀ q ∈ s.reservations, s.entries.get q.1 = none

/-- The attention set lists each pair once, in key order (R162). -/
abbrev AttentionOk (s : State) : Prop := (s.attention.map attnKey).Pairwise (· < ·)

/-- The Command Port's buffers agree with its state: a reply waits exactly in REPLY_READY, a request is held exactly
during a save, the load and a save hold the port in EXECUTING, and unless RESET_N is low nothing else does (R159). -/
abbrev PortOk (s : State) : Prop :=
  (s.cp.reply.isSome ↔ s.cp.phase = .replyReady) ∧
  (s.loading = true → s.cp.phase = .executing ∧ s.save = none) ∧
  (s.save.isSome → s.cp.phase = .executing ∧ s.cp.request.isSome) ∧
  (s.resetLow = false → s.cp.phase = .executing → s.loading = true ∨ s.save.isSome) ∧
  (s.resetLow = false → s.cp.request.isSome → s.save.isSome) ∧
  (s.cp.resetDue = true → s.cp.phase = .replyReady)

/-- The room parameters lie in their ranges (R167). -/
abbrev RoomOk (r : RoomParams) : Prop :=
  Config.shareOk r.share ∧ Config.silenceOk r.silence ∧ Config.pickTimeoutOk r.pickTimeout ∧ Config.jamSlackOk r.jamSlack

/-- The lane parameters lie in their ranges (R157). -/
abbrev LaneParamsOk (p : LaneParams) : Prop :=
  Config.windowOk p.window ∧ Config.highOk p.high ∧ Config.lowOk p.low ∧ Config.silenceOk p.silence ∧
  Config.ackOk p.ack ∧ Config.secureOk p.secure

/-- A class entry's route category is 0–7 (R107). -/
abbrev ClassOk (c : ClassEntry) : Prop := c.category ≤ 7

/-- A plan's name and rows are well formed (R127). -/
abbrev PlanOk (p : PlanBody) : Prop := nameOk 8 p.name = true ∧ ∀ w ∈ p.rows.toList, rowOk w = true

/-- A directory entry's station ID is one that an IDENT may carry, and its name is well formed (R51, R60). -/
abbrev TripleOk (i : StationId) (n : Text) : Prop := i.maker ≠ 65535 ∧ i.serial ≠ 4294967295 ∧ nameOk 12 n = true

/-- A set of stored settings lies in range (R168). -/
abbrev SettingsOk (c : Settings) : Prop :=
  RoomOk c.room ∧ (∀ p ∈ c.lanes.toList, LaneParamsOk p) ∧ (∀ k ∈ c.classes.toList, ClassOk k) ∧
  (∀ p ∈ c.plans.toList, PlanOk p) ∧ ∀ d ∈ c.directory.toList, ∀ x ∈ d.toList, TripleOk x.1 x.2

/-- Every setting in working memory, in the store and in a save's copy lies in its range, the directory's IDs and names
included (R51, R60, R107, R127, R157, R167). -/
abbrev RangesOk (s : State) : Prop :=
  RoomOk s.room ∧ (∀ l ∈ s.lanes.toList, LaneParamsOk l.params) ∧ (∀ k ∈ s.classes.toList, ClassOk k) ∧
  (∀ p ∈ s.plans.toList, PlanOk p.body) ∧ (∀ p ∈ s.entries, TripleOk p.2.id p.2.name) ∧
  SettingsOk s.store.settings ∧ ∀ v ∈ s.save.toList, SettingsOk v.copy

/-- A lane's window holds at most its window size, each number once, and nothing while the lane carries no deliveries;
its FIFO holds at most 64 blocks (R137, R144, R147). -/
abbrev LaneOk (l : Lane) : Prop :=
  l.window.length ≤ l.params.window ∧ (l.window.map (·.number)).Nodup ∧ (l.state.carries = false → l.window = []) ∧
  l.fifo.length ≤ Config.fifoRoom

/-- Every lane is in order, and an upload names a lane once (R132, R147). -/
abbrev LanesOk (s : State) : Prop :=
  (∀ l ∈ s.lanes.toList, LaneOk l) ∧ ∀ u ∈ s.uploads, (u.2.dests.map Prod.fst).Nodup

/-- The number of a station's records in PICKING. -/
def pickCount (s : State) (e : Nat) : Nat :=
  Tab.count s.sheets fun r => decide (r.station = e) && decide (r.state = .picking)

/-- A station has at most one record in PICKING, and its path queue with that record holds at most 4 sheets (R80). -/
abbrev GrantsOk (s : State) : Prop :=
  (∀ p ∈ s.sheets, pickCount s p.2.station ≤ 1) ∧
  ∀ p ∈ s.entries, p.2.path.length + pickCount s p.1 ≤ Config.pathRoom

/-- The batch and station of a binding name each other; an IDLE station and a CLOSED batch have none (R18, R19, R22). -/
abbrev BindingsOk (s : State) : Prop :=
  (∀ p ∈ s.entries, ∀ h ∈ p.2.bound.toList, ∃ b ∈ (s.batches.get h).toList, b.bound = some p.1) ∧
  (∀ p ∈ s.batches, ∀ e ∈ p.2.bound.toList, ∃ x ∈ (s.entries.get e).toList, x.bound = some p.1) ∧
  (∀ p ∈ s.entries, p.2.feed = .idle → p.2.bound = none) ∧
  ∀ p ∈ s.batches, p.2.state = .closed → p.2.bound = none

/-- The number of a batch's records past PICKING. -/
def liveCount (s : State) (h : Nat) : Nat :=
  Tab.count s.sheets fun r => decide (r.batch = h) && decide (r.state ≠ .picking)

/-- The number of a batch's records in PICKING. -/
def pickingCount (s : State) (h : Nat) : Nat :=
  Tab.count s.sheets fun r => decide (r.batch = h) && decide (r.state = .picking)

/-- A batch's accounts balance, and its live and picking counts are the records the Sheet Table holds for it (R1, R9). -/
abbrev BatchAccounts (s : State) (h : Nat) (b : Batch) : Prop :=
  b.fed = b.completed + b.discarded + b.rescanned + b.live ∧ b.live = liveCount s h ∧ b.picking = pickingCount s h

/-- Every batch's accounts balance, and every live record belongs to a batch in OPEN or CLOSING (R9, R27). -/
abbrev AccountsOk (s : State) : Prop :=
  (∀ p ∈ s.batches, BatchAccounts s p.1 p.2) ∧
  ∀ p ∈ s.sheets, ∃ b ∈ (s.batches.get p.2.batch).toList, b.state ≠ .closed

end Sys2Proof.Machine
end

