-- ==== Sys2Proof/WellFormed.lean ====
section
/-! DEFINITION. Which commands are well formed: every operand fits the field that carries it (chapter 11), and no command contradicts its own row. A command that is not well formed cannot be sent. -/

namespace Sys2Proof

/-- The parameters of a request, where it has them, meet a test. -/
def Params.all {α : Type} (q : α → Bool) : Params α → Bool
  | .malformed => true
  | .given a => q a

/-- A value fits `w` bytes. -/
def fits (w n : Nat) : Bool := decide (n < 256 ^ w)

/-- An optional value, where present, fits `w` bytes. -/
def optFits (w : Nat) : Option Nat → Bool
  | none => true
  | some n => fits w n

/-- An item's value is at most 255 bytes long. -/
def textFits (t : Text) : Bool := fits 1 t.length

/-- A station ID or address fits its 48 bits. -/
def StationId.fits (i : StationId) : Bool := Sys2Proof.fits 2 i.maker && Sys2Proof.fits 4 i.serial

/-- A serial fits its three bytes. -/
def Serial.fits (x : Serial) : Bool := Sys2Proof.fits 1 x.batch && Sys2Proof.fits 2 x.seq

/-- A length band fits its four bytes. -/
def Band.fits (b : Band) : Bool := Sys2Proof.fits 2 b.min && Sys2Proof.fits 2 b.max

/-- An optional value, where present, meets a test. -/
def optAll {α : Type} (q : α → Bool) : Option α → Bool
  | none => true
  | some a => q a

/-- A key fits its two bytes. -/
def KeyArgs.fits (k : KeyArgs) : Bool := Sys2Proof.fits 1 k.kind && Sys2Proof.fits 1 k.index

/-- The operands of SET_ROOM fit their items. -/
def RoomArgs.fits (a : RoomArgs) : Bool :=
  optFits 1 a.share && optFits 1 a.silence && optFits 2 a.pickTimeout && optFits 2 a.jamSlack

/-- The operands of OPEN_BATCH fit their items. -/
def OpenArgs.fits (a : OpenArgs) : Bool :=
  textFits a.label && optFits 1 a.plan && optFits 2 a.bandMin && optFits 2 a.bandMax && optFits 2 a.minGap &&
  optFits 2 a.interval && optFits 2 a.expected && optFits 1 a.suspectLimit && optFits 1 a.retries

/-- The operands of AMEND_BATCH IMMEDIATE fit their items. -/
def AmendNowArgs.fits (a : AmendNowArgs) : Bool :=
  Sys2Proof.fits 1 a.handle && optAll textFits a.label && optAll (optFits 2) a.expected && optFits 1 a.suspectLimit &&
  optFits 2 a.interval && optFits 1 a.retries

/-- The operands of AMEND_BATCH AT_CHECKPOINT fit their items. -/
def AmendLaterArgs.fits (a : AmendLaterArgs) : Bool :=
  Sys2Proof.fits 1 a.handle && optFits 1 a.plan && optAll (optAll Band.fits) a.band && optFits 2 a.minGap

/-- A row's lanes fit a byte, whose value 255 stands for NONE or absent. -/
def RowArgs.fits (w : RowArgs) : Bool :=
  [w.primary, w.copy, w.fallback].all (optAll fun n => decide (n < 255))

/-- The operands of SET_PLAN fit their items, eight rows among them. -/
def PlanArgs.fits (a : PlanArgs) : Bool :=
  Sys2Proof.fits 1 a.plan && textFits a.name && decide (a.rows.length = 8) && a.rows.all RowArgs.fits

/-- The operands of SET_LANE fit their items. -/
def LaneArgs.fits (a : LaneArgs) : Bool :=
  Sys2Proof.fits 1 a.lane && optFits 1 a.window && optFits 1 a.high && optFits 1 a.low && optFits 1 a.silence &&
  optFits 2 a.ack && optFits 2 a.secure

/-- The payload of an IDENT fits its fields. -/
def Ident.fits (w : Ident) : Bool :=
  w.id.fits && Sys2Proof.fits 2 w.facts.model && Sys2Proof.fits 1 w.facts.capacity && Sys2Proof.fits 2 w.epoch &&
  Sys2Proof.fits 2 w.facts.pickToGauge && Sys2Proof.fits 2 w.facts.gaugeToExit && Sys2Proof.fits 2 w.facts.divertLimit

/-- The request codes of the catalogue (11.2). -/
def knownCode (c : Nat) : Bool :=
  Config.within 0x01 0x07 c || Config.within 0x10 0x1B c || Config.within 0x20 0x2B c || Config.within 0x30 0x33 c ||
  Config.within 0x40 0x43 c || Config.within 0x50 0x55 c

/-- A command is well formed. -/
def Instr.wf : Instr → Bool
  | .powerUp | .resetNAssert | .resetNRelease | .settingsLoadEnd | .frameOverrun | .badFrame _ | .readTransaction _ => true
  | .unknownRequest c => !knownCode c.toNat
  | .ignoredTransaction b => decide (b ≠ 0xA5) && decide (b ≠ 0x5A)
  | .readAttention a | .clearAttention a => a.all KeyArgs.fits
  | .setRoom a => a.all RoomArgs.fits
  | .setAttentionMask a => a.all (fits 2)
  | .readRoom _ | .saveSettings _ | .resetPart _ | .listStations _ => true
  | .saveSettingsCompletion | .saveSettingsWriteFailure | .settingsEntryWritten => true
  | .readStation a | .forgetStation a | .resetPort a | .start a | .standby a | .haltStation a | .resume a => a.all (fits 1)
  | .nameStation a => a.all fun x => fits 1 x.index && textFits x.name
  | .identify a => a.all fun x => x.address.fits
  | .holdStation a | .releaseStation a => a.all StationId.fits
  | .openBatch a => a.all OpenArgs.fits
  | .findBatch a => a.all textFits
  | .readBatch a | .unbind a | .pause a | .resumeBatch a | .checkpoint a | .close a | .abort a | .retire a => a.all (fits 1)
  | .amendBatchImmediate a => a.all AmendNowArgs.fits
  | .amendBatchAtCheckpoint a => a.all AmendLaterArgs.fits
  | .bindBatch a => a.all fun x => fits 1 x.handle && fits 1 x.index
  | .findSheet a | .resolveAccept a | .resolveRescan a | .resolveDiscard a | .resolveRetry a => a.all Serial.fits
  | .readSheet a => a.all fun x => match x with | .serial y => y.fits | .slot n => decide (n < 512)
  | .listSuspects a => a.all fun x => fits 1 x.handle && fits 2 x.start
  | .readClass a | .readPlan a | .readLane a | .suspendLane a | .resumeLane a | .loopbackLane a | .resetLane a =>
    a.all (fits 1)
  | .setClass a => a.all fun x => fits 1 x.index && fits 1 x.kind && fits 1 x.category
  | .setPlan a => a.all PlanArgs.fits
  | .setLane a => a.all LaneArgs.fits
  | .ident _ w => w.fits
  | .ready _ _ n => fits 1 n
  | .imageStart _ _ _ n => fits 2 n
  | .block _ d => decide (d.length = Config.blockBytes)
  | .portLineActivity _ | .fill _ | .malformedWord _ | .stationSilenceTimeout _ | .queryTimerExpiry _ | .status _ _
  | .edge _ _ _ _ | .thick _ _ _ _ | .patch _ _ _ | .pickTimerExpiry _ | .imageEnd _ _ | .stallTimerExpiry _
  | .downstreamWordLeaves _ | .laneLineActivity _ | .archiveFill _ | .laneMalformedWord _ | .laneSilenceTimeout _
  | .accept _ _ | .secured _ _ | .refuse _ _ _ | .archiveStatus _ _ | .ackTimeout _ _ | .secureTimeout _ _
  | .laneWordLeaves _ => true

/-- The request code of a request command (11.2). -/
def requestCode : Instr → Option Byte
  | .readAttention _ => some 0x01
  | .clearAttention _ => some 0x02
  | .readRoom _ => some 0x03
  | .setRoom _ => some 0x04
  | .setAttentionMask _ => some 0x05
  | .saveSettings _ => some 0x06
  | .resetPart _ => some 0x07
  | .listStations _ => some 0x10
  | .readStation _ => some 0x11
  | .nameStation _ => some 0x12
  | .forgetStation _ => some 0x13
  | .identify _ => some 0x14
  | .holdStation _ => some 0x15
  | .releaseStation _ => some 0x16
  | .start _ => some 0x17
  | .standby _ => some 0x18
  | .haltStation _ => some 0x19
  | .resume _ => some 0x1A
  | .resetPort _ => some 0x1B
  | .openBatch _ => some 0x20
  | .findBatch _ => some 0x21
  | .readBatch _ => some 0x22
  | .amendBatchImmediate _ => some 0x23
  | .amendBatchAtCheckpoint _ => some 0x23
  | .bindBatch _ => some 0x24
  | .unbind _ => some 0x25
  | .pause _ => some 0x26
  | .resumeBatch _ => some 0x27
  | .checkpoint _ => some 0x28
  | .close _ => some 0x29
  | .abort _ => some 0x2A
  | .retire _ => some 0x2B
  | .findSheet _ => some 0x30
  | .readSheet _ => some 0x31
  | .listSuspects _ => some 0x32
  | .resolveAccept _ => some 0x33
  | .resolveRescan _ => some 0x33
  | .resolveDiscard _ => some 0x33
  | .resolveRetry _ => some 0x33
  | .readClass _ => some 0x40
  | .setClass _ => some 0x41
  | .readPlan _ => some 0x42
  | .setPlan _ => some 0x43
  | .readLane _ => some 0x50
  | .setLane _ => some 0x51
  | .suspendLane _ => some 0x52
  | .resumeLane _ => some 0x53
  | .loopbackLane _ => some 0x54
  | .resetLane _ => some 0x55
  | _ => none

/-- The command is a request whose parameter area is malformed (R171). -/
def badArea : Instr → Bool
  | .readAttention .malformed | .clearAttention .malformed | .readRoom .malformed | .setRoom .malformed
  | .setAttentionMask .malformed | .saveSettings .malformed | .resetPart .malformed | .listStations .malformed
  | .readStation .malformed | .nameStation .malformed | .forgetStation .malformed | .identify .malformed
  | .holdStation .malformed | .releaseStation .malformed | .start .malformed | .standby .malformed
  | .haltStation .malformed | .resume .malformed | .resetPort .malformed | .openBatch .malformed
  | .findBatch .malformed | .readBatch .malformed | .amendBatchImmediate .malformed
  | .amendBatchAtCheckpoint .malformed | .bindBatch .malformed | .unbind .malformed | .pause .malformed
  | .resumeBatch .malformed | .checkpoint .malformed | .close .malformed | .abort .malformed | .retire .malformed
  | .findSheet .malformed | .readSheet .malformed | .listSuspects .malformed | .resolveAccept .malformed
  | .resolveRescan .malformed | .resolveDiscard .malformed | .resolveRetry .malformed | .readClass .malformed
  | .setClass .malformed | .readPlan .malformed | .setPlan .malformed | .readLane .malformed
  | .setLane .malformed | .suspendLane .malformed | .resumeLane .malformed | .loopbackLane .malformed
  | .resetLane .malformed => true
  | _ => false

/-- The command is a write transaction's frame: a request, a bad frame or an unknown request (R160). -/
def sendsFrame : Instr → Bool
  | .frameOverrun | .badFrame _ | .unknownRequest _ => true
  | i => (requestCode i).isSome

end Sys2Proof
end

