-- ==== Sys2Proof/Certificates/Slice0/Obligations.lean ====
section
/-! DEFINITION. The statements about the AS16 that the provers settle. -/

open Sys2Proof Sys2Proof.Machine

/-! The queue and the step -/

/-- A step takes the command at the front of the queue and runs it on the queue's rest; on an empty queue a millisecond passes:
the clock and every timer that runs move, and nothing else does. The queue, first in first out, is the model's own (log 28,
with log 27), and so is what an empty queue does (log 3). -/
def Obligations.StepTakesTheFront : Prop :=
  (∀ (n : Nat) (x : Port) (l : Lane), (Timer.running n).tick = .running (n - 1) ∧
    (Timer.suspended n).tick = .suspended n ∧ Timer.stopped.tick = .stopped ∧
    x.tick = { x with silence := x.silence.map (· - 1), queryTimer := x.queryTimer.map (· - 1) } ∧
    l.tick = { l with
      silence := l.silence.map (· - 1), window := l.window.map fun w => { w with timer := w.timer.map (· - 1) } }) ∧
  (∀ (c : Instr) (s : State), step { s with pending := c :: s.pending } = exec c s) ∧
  ∀ s : State, s.pending = [] →
      (Runs s → step s = .next { s with
        clock := s.clock + 1
        ports := s.ports.map Port.tick
        entries := s.entries.map fun p => (p.1, { p.2 with timer := p.2.timer.tick })
        uploads := s.uploads.map fun p => (p.1, { p.2 with stall := p.2.stall.tick })
        lanes := s.lanes.map Lane.tick }) ∧
      (¬ Runs s → step s = .next s)

/-- Every command answers with a next state, in every state; that each leaves the waiting commands alone, a power-up and a part
reset included, is the model's choice (log 28). -/
def Obligations.EveryCommandAnswersAndLeavesTheQueue : Prop :=
  ∀ (c : Instr) (s : State), ∃ t, exec c s = .next t ∧ t.pending = s.pending

/-! What every step keeps -/

/-- Every collection keeps its canonical form (R1, R27, R57, R132), and a reserved directory index stays free (R53). Putting,
changing or freeing a record reaches its own key alone. -/
def Obligations.TablesStayCanonical : Prop :=
  (∀ (α : Type) (t : Tab α) (k j : Nat) (v : α) (f : α → α),
    (t.put k v).get j = (if j = k then some v else t.get j) ∧
    (t.modify k f).get j = (if j = k then (t.get j).map f else t.get j) ∧
    (t.del k).get j = if j = k then none else t.get j) ∧
  (∀ (k : Nat) (s : State),
    (∀ f, modEntry k f s = { s with entries := s.entries.modify k f }) ∧
    (∀ f, modBatch k f s = { s with batches := s.batches.modify k f }) ∧
    (∀ f, modSheet k f s = { s with sheets := s.sheets.modify k f }) ∧
    (∀ f, modUpload k f s = { s with uploads := s.uploads.modify k f }) ∧
    (∀ (p : Fin 16) f, modPort p f s = { s with ports := s.ports.set p (f s.ports[p]) }) ∧
    ∀ (l : Fin 4) f, modLane l f s = { s with lanes := s.lanes.set l (f s.lanes[l]) }) ∧
  (∀ s t : State, TablesOk s → step s = .next t → TablesOk t) ∧
  ∀ s t : State, TablesOk s ∧ ReservedFree s → step s = .next t → ReservedFree t

/-- The attention set keeps its order and lists no pair twice (R162), and the Command Port's buffers keep agreeing with its
state (R159). -/
def Obligations.AttentionAndPortStayInOrder : Prop :=
  (∀ s t : State, AttentionOk s → step s = .next t → AttentionOk t) ∧
  ∀ s t : State, PortOk s → step s = .next t → PortOk t

/-- Every setting stays in its range, in working memory, in the store and in a save's copy: parameters, classes, plan rows and
names, and the IDs and names of directory entries (R51, R60, R107, R127, R129, R157, R167, R168). -/
def Obligations.SettingsStayInRange : Prop := ∀ s t : State, RangesOk s → step s = .next t → RangesOk t

/-- Every lane's window and FIFO stay within their sizes (R137, R147). -/
def Obligations.LaneWindowsStayInOrder : Prop :=
  ∀ s t : State, RangesOk s ∧ LanesOk s → step s = .next t → RangesOk t ∧ LanesOk t

/-- A station keeps at most one record in PICKING and at most four sheets granted or in its path (R80, R84). -/
def Obligations.GrantsStaySingle : Prop :=
  ∀ s t : State, TablesOk s ∧ GrantsOk s → step s = .next t → TablesOk t ∧ GrantsOk t

/-- Every binding stays on both sides, and every batch's accounts keep balancing (R9, R18, R22); a reserved index is free all
the while (R53). -/
def Obligations.BatchAccountsBalance : Prop :=
  ∀ s t : State, TablesOk s ∧ ReservedFree s ∧ BindingsOk s ∧ AccountsOk s → step s = .next t →
    TablesOk t ∧ ReservedFree t ∧ BindingsOk t ∧ AccountsOk t

/-! Reset, start and load (R169) -/

/-- Right after reset every invariant holds, the load is in progress, every record is free, every link is DOWN and every setting
is at its default. The store's contents, the settings before the load ends and the empty list of bytes on CP_DO are the
model's (log 1, log 6, log 24). -/
def Obligations.ResetState : Prop :=
  (TablesOk State.reset ∧ ReservedFree State.reset ∧ AttentionOk State.reset ∧ PortOk State.reset ∧ RangesOk State.reset ∧
    LanesOk State.reset ∧ GrantsOk State.reset ∧ BindingsOk State.reset ∧ AccountsOk State.reset) ∧
  State.reset.loading = true ∧ State.reset.cp = {} ∧ State.reset.cp.phase = .executing ∧ State.reset.attention = [] ∧
  State.reset.entries = [] ∧ State.reset.batches = [] ∧ State.reset.sheets = [] ∧ State.reset.uploads = [] ∧
  State.reset.lastAlloc = 23 ∧ State.reset.lastUpload = 23 ∧
  (∀ p : Fin 16, State.reset.ports[p].link = .down) ∧ (∀ l : Fin 4, State.reset.lanes[l].state = .down) ∧
  State.reset.room = { share := 24, silence := 20, pickTimeout := 300, jamSlack := 100, mask := [] } ∧
  (∀ l : Fin 4, State.reset.lanes[l].params =
    { window := 16, high := 8, low := 8, silence := 20, ack := 2000, secure := 30 }) ∧
  (∀ i : Fin 61, State.reset.classes[i.val]'(by omega) = { kind := .document, category := 0, exempt := false }) ∧
  State.reset.classes[61] = { kind := .checkpointMark, category := 0, exempt := false } ∧
  State.reset.classes[62] = { kind := .batchEnd, category := 7, exempt := false } ∧
  State.reset.classes[63] = { kind := .separator, category := 7, exempt := false } ∧
  (∀ n : Fin 16, State.reset.plans[n].body.name = [] ∧ State.reset.plans[n].captures = 0 ∧
    (∀ i : Fin 7, State.reset.plans[n].body.rows[i.val]'(by omega) =
      { primary := some 0, copy := none, fallback := none, secure := false }) ∧
    State.reset.plans[n].body.rows[7] = { primary := none, copy := none, fallback := none, secure := false })

/-- POWER_UP and the release of RESET_N start the AS16 afresh, and RESET_N going low ends a save; while RESET_N is held low the
part does nothing; at the end of the load the port is IDLE, and the settings are the stored ones or, with the condition raised,
the defaults; each stored station is an ABSENT entry at its index (R57, R169). How a held part and a release of a high line
behave is log 5, when the settings come into force log 6, that a load end with no load does nothing log 4, and the emptied list
of CP_DO and the kept queue log 24 and log 28. -/
def Obligations.StartsHeldAndLoads : Prop :=
  (defaultSettings = workingSettings State.reset ∧
    (∀ s : State, (s.store.checkOk = true → loaded s = s.store.settings) ∧
      (s.store.checkOk = false → loaded s = defaultSettings)) ∧
    ∀ d : Vector (Option (StationId × Text)) 24, Tab.wf 24 (rebuiltEntries d) ∧ ∀ e : Fin 24,
      (rebuiltEntries d).get e = d[e].map fun x => { id := x.1, name := x.2 }) ∧
  (∀ s : State,
    Leaves .powerUp s { freshState s with resetLow := s.resetLow } ∧
    (s.resetLow = true → Leaves .resetNRelease s (freshState s)) ∧
    (s.resetLow = false → Leaves .resetNRelease s s) ∧
    Leaves .resetNAssert s { s with resetLow := true, save := none }) ∧
  (∀ (c : Instr) (s : State), s.resetLow = true → c ≠ .powerUp → c ≠ .resetNRelease → c ≠ .resetNAssert → Leaves c s s) ∧
  (∀ s : State, s.resetLow = false →
    (s.loading = true → s.store.checkOk = true → Leaves .settingsLoadEnd s
      { freshState s with loading := false, cp := { s.cp with phase := .idle }, storeState := .valid }) ∧
    (s.loading = true → s.store.checkOk = false → Leaves .settingsLoadEnd s
      { freshState s with
        loading := false, cp := { s.cp with phase := .idle }, storeState := .defaulted
        attention := [(.settingsDefaulted, 0)] }) ∧
    (s.loading = false → Leaves .settingsLoadEnd s s))

/-! The Command Port (R159, R160, R171) -/

/-- A frame at a busy port is discarded and sets the overrun flag; an IDLE port refuses a bad frame, an unknown request and
every malformed parameter area, echoing the code; and an assembled reply changes the port alone (R159–R161, R171). -/
def Obligations.PortJudgesFrames : Prop :=
  (∀ (c : Instr) (s : State), sendsFrame c = true → s.resetLow = false → s.cp.phase ≠ .idle →
    Leaves c s { s with cp := { s.cp with overrun := true } }) ∧
  (∀ s : State, Takes s →
    (∀ code : Option Byte, Leaves (.badFrame code) s (assemble (code.getD 0) .badFrame .empty s)) ∧
    (∀ code : Byte, Leaves (.unknownRequest code) s (assemble code .unknownRequest .empty s)) ∧
    (∀ (c : Instr) (code : Byte), requestCode c = some code → badArea c = true → Refuses c code .badValue s)) ∧
  (∀ (code : Byte) (r : Result) (d : ReplyData) (s : State),
    assemble code r d s = { s with cp := { s.cp with
      phase := .replyReady, request := none
      reply := some { code := code, result := r, overrun := s.cp.overrun, data := d }
      overrun := false } })

/-- A reply frame is its length, the echoed code, the result, the overrun flag, the data and the CRC-16 of all that (R160,
11.2). A read transaction: the empty frame with no reply ready, the frame's first bytes where fewer are clocked, and the whole
frame, after which the port is IDLE or a due reset is taken; a transaction with another first byte is ignored (R159, R170,
R171). That the clocked bytes stay listed through the reset and no byte beyond the frame is listed is log 24, and that the
loaded settings stand from the start on log 6. -/
def Obligations.ReadTransactionTakesTheReply : Prop :=
  (∀ (r : Reply) (l : List Byte),
    l = numBytes 2 (r.data.bytes.length + 5) ++ [r.code, r.result.code, if r.overrun then 1 else 0] ++ r.data.bytes →
    r.frame = l ++ numBytes 2 (crc16 l).toNat) ∧
  (∀ (n : Nat) (s : State), s.resetLow = false →
    (s.cp.phase ≠ .replyReady → Leaves (.readTransaction n) s { s with cp := { s.cp with out := [0, 0].take n } }) ∧
    ∀ r : Reply, s.cp.phase = .replyReady → s.cp.reply = some r →
      (n < r.frame.length → Leaves (.readTransaction n) s { s with cp := { s.cp with out := r.frame.take n } }) ∧
      (r.frame.length ≤ n → s.cp.resetDue = false → Leaves (.readTransaction n) s
        { s with cp := { s.cp with phase := .idle, reply := none, out := r.frame } }) ∧
      (r.frame.length ≤ n → s.cp.resetDue = true → Leaves (.readTransaction n) s
        { freshState s with cp := { out := r.frame } })) ∧
  (∀ (b : Byte) (s : State), Leaves (.ignoredTransaction b) s s)

/-! Attention (R162–R166) -/

/-- ATTN is high exactly while the attention set holds a pair and RESET_N is not low; it is low from a start until the load
ends, which may enter SETTINGS_DEFAULTED, and an unmasked raise or the last removal moves it in the same event (R164). -/
def Obligations.AttnPinFollowsTheSet : Prop :=
  (∀ s : State, attnPin s = true ↔ s.resetLow = false ∧ s.attention ≠ []) ∧
  (∀ s : State, attnPin (freshState s) = false) ∧
  (∀ (c : Instr) (s t : State), PortOk s → s.loading = true → attnPin s = false → exec c s = .next t →
    t.loading = true → attnPin t = false) ∧
  (∀ (k : AttnKind) (i : Nat) (s : State), s.resetLow = false → k ∉ s.room.mask → attnPin (raise k i s) = true) ∧
  (∀ (q : Attn → Bool) (s : State), (∀ a ∈ s.attention, q a = true) → attnPin (dropAttention q s) = false)

/-- A raise enters its pair once unless its kind is masked, and changes nothing else (R162, R163). -/
def Obligations.RaiseEntersAnUnmaskedPair : Prop :=
  ∀ (k : AttnKind) (i : Nat) (s : State), i < 256 → (∀ a ∈ s.attention, a.2 < 256) →
    raise k i s = { s with attention := (raise k i s).attention } ∧
    ∀ a : Attn, a ∈ (raise k i s).attention ↔ a ∈ s.attention ∨ (k ∉ s.room.mask ∧ a = (k, i))

/-- READ_ATTENTION lists up to 32 pairs from the start key on in key order, tells whether more follow and how many there are in
all, and changes no state (R165). A pair's key orders by kind, in R162's order, and then by index, and a kind is coded by its
place there, counted from 1 (R162, 11.2). -/
def Obligations.ReadAttentionListsFromTheKey : Prop :=
  ((∀ a : Attn, attnKey a = attnRank a.1 * 256 + a.2) ∧
    ([.stationNew, .stationCall, .stationHalted, .directoryFull, .duplicateId, .suspectOpen, .sheetFault, .checkpointPassed,
      .countReached, .batchClosed, .laneFailed, .laneRefusing, .settingsDefaulted] : List AttnKind).map attnRank =
      List.range 13 ∧
    ∀ n k, attnOfCode n = some k ↔ n = attnRank k + 1) ∧
  ∀ (a : KeyArgs) (s : State), Takes s →
    (attnOfCode a.kind = none → Refuses (.readAttention (.given a)) 0x01 .badValue s) ∧
    ∀ k : AttnKind, attnOfCode a.kind = some k → ∀ l : List Attn,
      l = s.attention.filter (fun x => decide (attnKey (k, a.index) ≤ attnKey x)) →
      Replies (.readAttention (.given a)) 0x01 (.attention (l.take 32) (decide (32 < l.length)) s.attention.length) s s ∧
      (AttentionOk s → (l.map attnKey).Pairwise (· < ·))

/-- CLEAR_ATTENTION removes the pair of a kind and index, or with index 255 every pair of the kind, tells how many it removed,
and touches nothing else; ATTN follows the set, and a later raise enters a removed pair again (R166). -/
def Obligations.ClearAttentionRemovesPairs : Prop :=
  ∀ (a : KeyArgs) (s : State), Takes s →
    (attnOfCode a.kind = none → Refuses (.clearAttention (.given a)) 0x02 .badValue s) ∧
    ∀ k : AttnKind, attnOfCode a.kind = some k → ∀ q : Attn → Bool,
      (∀ x : Attn, q x = true ↔ x.1 = k ∧ (a.index = 255 ∨ x.2 = a.index)) → ∀ t : State,
      t = { s with attention := s.attention.filter fun x => !q x } →
      Replies (.clearAttention (.given a)) 0x02 (.count (s.attention.filter q).length) s t ∧
      (attnPin t = true ↔ t.attention ≠ []) ∧
      ((∀ x ∈ s.attention, x.2 < 256) → ∀ x ∈ s.attention, q x = true → x.1 ∉ s.room.mask →
        x ∉ t.attention ∧ x ∈ (raise x.1 x.2 t).attention)

/-! The room, the store and RESET_PART (R163, R167, R168, R170) -/

/-- READ_ROOM, SET_ROOM, SET_ATTENTION_MASK and RESET_PART, whose reset waits for the reply to be read; a SET_ROOM names a
parameter, and every value named lies in its range (R163, R167, R170). -/
def Obligations.RoomRequests : Prop :=
  (∀ a : RoomArgs, roomArgsOk a = true ↔
    (a.share ≠ none ∨ a.silence ≠ none ∨ a.pickTimeout ≠ none ∨ a.jamSlack ≠ none) ∧
    (∀ v, a.share = some v → 4 ≤ v ∧ v ≤ 64) ∧ (∀ v, a.silence = some v → 5 ≤ v ∧ v ≤ 100) ∧
    (∀ v, a.pickTimeout = some v → 50 ≤ v ∧ v ≤ 2000) ∧ ∀ v, a.jamSlack = some v → 20 ≤ v ∧ v ≤ 2000) ∧
  (∀ s : State, Takes s →
    Replies (.readRoom (.given ())) 0x03
      (.room s.room s.clock (384 - s.sheets.length) (48 - s.batches.length) (24 - s.entries.length) s.uploads.length
        s.attention.length s.storeState (differing (workingSettings s) s.store.settings).length) s s ∧
    (∀ a : RoomArgs, roomArgsOk a = false → Refuses (.setRoom (.given a)) 0x04 .badValue s) ∧
    (∀ a : RoomArgs, roomArgsOk a = true → ∀ r : RoomParams,
      r = { share := a.share.getD s.room.share, silence := a.silence.getD s.room.silence
            pickTimeout := a.pickTimeout.getD s.room.pickTimeout, jamSlack := a.jamSlack.getD s.room.jamSlack
            mask := s.room.mask } →
      Replies (.setRoom (.given a)) 0x04 (.roomParams r) s
        (rejudgeAll (s.entries.map Prod.fst) s.lastAlloc { s with room := r })) ∧
    (∀ n : Nat, 8192 ≤ n → Refuses (.setAttentionMask (.given n)) 0x05 .badValue s) ∧
    (∀ n : Nat, n < 8192 → ∃ m : List AttnKind, (∀ k : AttnKind, k ∈ m ↔ n.testBit (attnRank k) = true) ∧
      Replies (.setAttentionMask (.given n)) 0x05 (.mask m) s { s with room := { s.room with mask := m } })) ∧
  (∀ s : State, Takes s → Replies (.resetPart (.given ())) 0x07 .empty s { s with cp := { s.cp with resetDue := true } })

/-- SAVE_SETTINGS takes a copy and holds the port in EXECUTING; its three events write one entry, complete with a sound
check, or fail; the copy is working memory, of which of a directory entry the ID and the name alone, in 109 entries (R168). That
one event writes the first entry that differs, that the completion writes all that remain and
that a failure leaves its entry unchanged is log 18, and that a save with nothing to write cannot fail log 4. -/
def Obligations.SaveSettingsWritesTheStore : Prop :=
  (∀ (s : State) (c : Settings), c = workingSettings s → c.room = s.room ∧ c.classes = s.classes ∧
    (∀ l : Fin 4, c.lanes[l] = s.lanes[l].params) ∧ (∀ n : Fin 16, c.plans[n] = s.plans[n].body) ∧
    ∀ e : Fin 24, c.directory[e] = (s.entries.get e).map fun x => (x.id, x.name)) ∧
  (∀ a b : Settings, (differing a b = (List.range 109).filter fun i => !sameEntry a b i) ∧
    (sameEntry a b 0 = true ↔ a.room = b.room) ∧
    (∀ l : Fin 4, sameEntry a b (1 + l.val) = true ↔ a.lanes[l] = b.lanes[l]) ∧
    (∀ k : Fin 64, sameEntry a b (5 + k.val) = true ↔ a.classes[k] = b.classes[k]) ∧
    (∀ n : Fin 16, sameEntry a b (69 + n.val) = true ↔ a.plans[n] = b.plans[n]) ∧
    ∀ e : Fin 24, sameEntry a b (85 + e.val) = true ↔ a.directory[e] = b.directory[e]) ∧
  (∀ s : State, Takes s → Leaves (.saveSettings (.given ())) s
    { s with
      cp := { s.cp with phase := .executing, request := some 0x06 }
      save := some { copy := workingSettings s, written := 0 } }) ∧
  (∀ (s : State) (v : Save), Runs s → s.save = some v →
    (∀ i t, differing v.copy s.store.settings = i :: t → Leaves .settingsEntryWritten s
      { s with
        store := { settings := writeEntry v.copy s.store.settings i, checkOk := false }
        save := some { copy := v.copy, written := v.written + 1 } }) ∧
    Leaves .saveSettingsCompletion s (assemble 0x06 .ok
      (.count (v.written + (differing v.copy s.store.settings).length))
      { s with store := { settings := v.copy, checkOk := true }, storeState := .valid, save := none }) ∧
    (differing v.copy s.store.settings ≠ [] ∨ s.store.checkOk = false → Leaves .saveSettingsWriteFailure s
      (assemble 0x06 .storeFault (.count v.written)
        { s with store := { settings := s.store.settings, checkOk := false }, storeState := .fault, save := none })) ∧
    (differing v.copy s.store.settings = [] → s.store.checkOk = true → Leaves .saveSettingsWriteFailure s s)) ∧
  ∀ (c t : Settings) (i j : Nat), i < 109 → j < 109 →
    sameEntry c (writeEntry c t i) i = true ∧ (j ≠ i → sameEntry t (writeEntry c t i) j = true)

/-! Stations and ports (chapter 3) -/

/-- LIST_STATIONS, READ_STATION, READ_BATCH, FIND_BATCH, FIND_SHEET, READ_SHEET and LIST_SUSPECTS report what stands, find the
record that carries a label or a serial, and change no state; LIST_SUSPECTS lists each open suspect from the start on once, in
increasing order of sequence. What the replies hold is spelled out beside them: the port and entry lines, the path by serial,
the PICKING record, the record a serial names, whether a record is in its station's path and its upload; and a label is 1 to 16
characters of codes 32–126 with no space at either end (R3, R4, R6, R7, R37–R39, R59, R84, R132). That LIST_SUSPECTS leaves
upload failures to READ_SHEET is log 33, and that READ_SHEET refuses a slot number above 511 with BAD_VALUE log 34. -/
def Obligations.ReadsChangeNothing : Prop :=
  ((∀ l : Text, labelOk l = true ↔ 1 ≤ l.length ∧ l.length ≤ 16 ∧ (∀ c ∈ l, 32 ≤ c.toNat ∧ c.toNat ≤ 126) ∧
      l.head? ≠ some 32 ∧ l.getLast? ≠ some 32) ∧
    (∀ (s : State) (n : Nat), batchAt s n = (if n < 48 then s.batches.get n else none) ∧
      entryAt s n = (if n < 24 then s.entries.get n else none) ∧
      sheetAt s n = if n < 384 then s.sheets.get n else none) ∧
    (∀ (r : Sheet) (x : Serial), r.serial = some x ↔ r.batch = x.batch ∧ r.seq = some x.seq) ∧
    ∀ (s : State) (x : Serial), (serialAt s x = none ↔ batchAt s x.batch = none ∨ ∀ p ∈ s.sheets, p.2.serial ≠ some x) ∧
      ∀ p, serialAt s x = some p → p ∈ s.sheets ∧ p.2.serial = some x) ∧
  ((∀ y : Port, portLine y = { link := y.link, entry := if y.link = .up then y.entry else none
                               kept := if y.link = .unlisted then y.kept else none }) ∧
    (∀ (s : State) (i : Nat),
      (∀ x, s.entries.get i = some x → entryLine s i = .used i x.id x.name x.port.isSome x.feed x.bound) ∧
      (s.entries.get i = none → entryLine s i = .free i (s.reservations.get i))) ∧
    (∀ (s : State) (x : Entry), pathSerials s x = x.path.map fun c => (s.sheets.get c.slot).bind Sheet.serial) ∧
    (∀ (s : State) (e : Nat), (pickingOf s e = none ↔ ∀ p ∈ s.sheets, p.2.station = e → p.2.state ≠ .picking) ∧
      ∀ p, pickingOf s e = some p → p ∈ s.sheets ∧ p.2.station = e ∧ p.2.state = .picking) ∧
    ∀ (s : State) (n : Nat) (r : Sheet),
      (inPath s n r = true ↔ ∃ x, s.entries.get r.station = some x ∧ ∃ c ∈ x.path, c.slot = n) ∧
      (∀ u, uploadOf s n r = some u ↔ s.uploads.get r.station = some u ∧ u.slot = n) ∧
      suspectLine s (n, r) = { seq := r.seq.getD 0, state := r.state, evidence := r.evidence, fault := r.fault
                               imagesReady := r.images.isSome, inPath := inPath s n r }) ∧
  (∀ s : State, Takes s →
    Replies (.listStations (.given ())) 0x10
      (.stations (s.ports.toList.map portLine) ((List.range 24).map (entryLine s))) s s ∧
    (∀ e, entryAt s e = none → Refuses (.readStation (.given e)) 0x11 .notFound s) ∧
    (∀ e x, entryAt s e = some x → Replies (.readStation (.given e)) 0x11
      (.station x (holds s e x) (pathSerials s x) ((pickingOf s e).map fun p => (p.1, p.2.tag))) s s)) ∧
  (∀ (h : Nat) (s : State), Takes s →
    (batchAt s h = none → Refuses (.readBatch (.given h)) 0x22 .notFound s) ∧
    (∀ b, batchAt s h = some b → Replies (.readBatch (.given h)) 0x22 (.batch h b b.phase) s s)) ∧
  (∀ (l : Text) (s : State), Takes s →
      (labelOk l = false → Refuses (.findBatch (.given l)) 0x21 .badValue s) ∧
      (labelOk l = true → (∀ p ∈ s.batches, p.2.label ≠ l) → Refuses (.findBatch (.given l)) 0x21 .notFound s) ∧
      (labelOk l = true → ∀ (h : Nat) (b : Batch), (h, b) ∈ s.batches → b.label = l →
        (∀ p ∈ s.batches, p.2.label = l → p = (h, b)) →
        Replies (.findBatch (.given l)) 0x21 (.found h b.state b.outcome) s s)) ∧
  (∀ (x : Serial) (s : State), Takes s →
      (x.seq = 0 → Refuses (.findSheet (.given x)) 0x30 .badValue s) ∧
      (x.seq ≠ 0 → (48 ≤ x.batch ∨ s.batches.get x.batch = none ∨ ∀ p ∈ s.sheets, p.2.serial ≠ some x) →
        Refuses (.findSheet (.given x)) 0x30 .notFound s) ∧
      (x.seq ≠ 0 → x.batch < 48 → (s.batches.get x.batch).isSome = true → ∀ (n : Nat) (r : Sheet),
        (n, r) ∈ s.sheets → r.serial = some x → (∀ p ∈ s.sheets, p.2.serial = some x → p = (n, r)) →
        Replies (.findSheet (.given x)) 0x30 (.sheetFound n r.state r.station r.tag (inPath s n r)) s s)) ∧
  ∀ s : State, Takes s →
    (∀ x : Serial, x.seq = 0 → Refuses (.readSheet (.given (.serial x))) 0x31 .badValue s) ∧
    (∀ x : Serial, x.seq ≠ 0 → serialAt s x = none → Refuses (.readSheet (.given (.serial x))) 0x31 .notFound s) ∧
    (∀ x n r, x.seq ≠ 0 → serialAt s x = some (n, r) → Replies (.readSheet (.given (.serial x))) 0x31
      (.sheet n r (inPath s n r) (uploadOf s n r)) s s) ∧
    (∀ n, 512 ≤ n → Refuses (.readSheet (.given (.slot n))) 0x31 .badValue s) ∧
    (∀ n, n < 512 → sheetAt s n = none → Refuses (.readSheet (.given (.slot n))) 0x31 .notFound s) ∧
    (∀ n r, n < 512 → sheetAt s n = some r → Replies (.readSheet (.given (.slot n))) 0x31
      (.sheet n r (inPath s n r) (uploadOf s n r)) s s) ∧
    (∀ h, Refuses (.listSuspects (.given ⟨h, 0⟩)) 0x32 .badValue s) ∧
    (∀ h n, n ≠ 0 → batchAt s h = none → Refuses (.listSuspects (.given ⟨h, n⟩)) 0x32 .notFound s) ∧
    (∀ h n, n ≠ 0 → (batchAt s h).isSome = true → Replies (.listSuspects (.given ⟨h, n⟩)) 0x32
      (.suspects (((suspectsFrom s h n).take 64).map (suspectLine s)) (decide (64 < (suspectsFrom s h n).length))) s s) ∧
    ∀ h n, (∀ p, p ∈ suspectsFrom s h n ↔
        p ∈ s.sheets ∧ p.2.batch = h ∧ (p.2.state = .suspect ∨ p.2.state = .fault) ∧ n ≤ p.2.seq.getD 0) ∧
      ((suspectsFrom s h n).map fun p => p.2.seq.getD 0).Pairwise (· ≤ ·) ∧
      (TablesOk s → ((suspectsFrom s h n).map Prod.fst).Nodup)

/-- NAME_STATION replaces the name; FORGET_STATION frees an absent, unbound entry without live records, with its attention pairs
and its place in the waiting set, and re-queries the ports that waited, the lowest FULL one with the entry reserved and every
DUPLICATE one for its ID; other ports and other indices' reservations stay as they were. A name is at most 12 characters of
codes 32–126 (R53, R60, R61). -/
def Obligations.NameAndForgetStation : Prop :=
  (∀ (n : Nat) (l : Text), nameOk n l = true ↔ l.length ≤ n ∧ ∀ c ∈ l, 32 ≤ c.toNat ∧ c.toNat ≤ 126) ∧
  (∀ (e : Nat) (a : Attn), namesStation e a = true ↔
    a.2 = e ∧ (a.1 = .stationNew ∨ a.1 = .stationCall ∨ a.1 = .stationHalted)) ∧
  (∀ (e : Nat) (n : Text) (s : State), Takes s →
    (nameOk 12 n = false → Refuses (.nameStation (.given ⟨e, n⟩)) 0x12 .badValue s) ∧
    (nameOk 12 n = true → entryAt s e = none → Refuses (.nameStation (.given ⟨e, n⟩)) 0x12 .notFound s) ∧
    (nameOk 12 n = true → (entryAt s e).isSome = true → Replies (.nameStation (.given ⟨e, n⟩)) 0x12 .empty s
      { s with entries := s.entries.modify e fun x => { x with name := n } })) ∧
  (∀ (e : Nat) (s : State), Takes s →
    (entryAt s e = none → Refuses (.forgetStation (.given e)) 0x13 .notFound s) ∧
    ∀ x : Entry, entryAt s e = some x →
      (x.port.isSome = true ∨ x.bound.isSome = true ∨ 0 < x.liveCount →
        Refuses (.forgetStation (.given e)) 0x13 .inUse s) ∧
      (x.port = none → x.bound = none → x.liveCount = 0 → ∃ t : State,
        Replies (.forgetStation (.given e)) 0x13 .empty s t ∧
        t = { s with entries := s.entries.del e, reservations := t.reservations, ports := t.ports
                     waiting := s.waiting.filter fun j => decide (j ≠ e)
                     attention := s.attention.filter fun a => !namesStation e a } ∧
        (∀ p : Fin 16, s.ports[p].link ≠ .unlisted → t.ports[p] = s.ports[p]) ∧
        (∀ p : Fin 16, s.ports[p].kept ≠ some (x.id, .duplicate) → lowestPort s Port.waitsFull ≠ some p →
          t.ports[p] = s.ports[p]) ∧
        (∀ j, j ≠ e → t.reservations.get j = s.reservations.get j) ∧
        (∀ p : Fin 16, (s.ports[p].link = .unlisted ∧ s.ports[p].kept = some (x.id, .duplicate)) ∨
            lowestPort s Port.waitsFull = some p →
          t.ports[p] = { s.ports[p] with
            link := .querying, align := 0, queryTimer := none, kept := none, requeriedFor := none
            queues := { s.ports[p].queues with query := true } }) ∧
        (lowestPort s Port.waitsFull = none → t.reservations.get e = none) ∧
        (∀ p : Fin 16, lowestPort s Port.waitsFull = some p → t.reservations.get e = some p.val)))

/-- IDENTIFY, HOLD_STATION and RELEASE_STATION act on every entry an address matches, single, maker-wide or room-wide, present
or absent, and tell how many there are; IDENTIFY queues its word with the setting on the port of each present one and on no
other. RESET_PORT takes a port to DOWN, leaves a DOWN port alone, and detaches the entry of a port in UP with all that a detach
leaves An address of maker code 65535 has a serial of all ones (R54, R55, R62–R64, R89, R142; that a RELEASE cut off on the
line is owed again rests on log 13, the model's reading). -/
def Obligations.AddressAndPortRequests : Prop :=
  (∀ a : StationId, addressOk a = true ↔ a.maker ≠ 65535 ∨ a.serial = 4294967295) ∧
  (∀ (a : StationId) (s : State), Takes s →
    (addressOk a = false → ∀ on : Bool,
      Refuses (.identify (.given ⟨a, on⟩)) 0x14 .badValue s ∧ Refuses (.holdStation (.given a)) 0x15 .badValue s ∧
      Refuses (.releaseStation (.given a)) 0x16 .badValue s) ∧
    (addressOk a = true → ∀ on : Bool,
      Replies (.identify (.given ⟨a, on⟩)) 0x14 (.count (matching s a).length) s
        ((matching s a).foldl (setIdentify on) s) ∧
      Replies (.holdStation (.given a)) 0x15 (.count (matching s a).length) s
        (rejudgeAll (matching s a) s.lastAlloc ((matching s a).foldl (setHold true) s)) ∧
      Replies (.releaseStation (.given a)) 0x16 (.count (matching s a).length) s
        (rejudgeAll (matching s a) s.lastAlloc ((matching s a).foldl (setHold false) s))) ∧
    ∀ (e : Nat) (x : Entry) (on : Bool), s.entries.get e = some x →
      (setIdentify on s e).entries.get e = some { x with identify := on } ∧
      setHold on s e = { s with entries := s.entries.modify e fun x => { x with hostHold := on } }) ∧
  (∀ (a : StationId) (s : State), TablesOk s → addressOk a = true → (matching s a).Nodup ∧
    (∀ e, e ∈ matching s a ↔ ∃ x, s.entries.get e = some x ∧
      ((a.serial ≠ 4294967295 ∧ x.id = a) ∨ (a.serial = 4294967295 ∧ a.maker ≠ 65535 ∧ x.id.maker = a.maker) ∨
        (a.serial = 4294967295 ∧ a.maker = 65535))) ∧
    ∀ (on : Bool) (t : State), t = (matching s a).foldl (setIdentify on) s →
      t = { s with entries := t.entries, ports := t.ports } ∧
      (∀ e x, s.entries.get e = some x → t.entries.get e = some (if e ∈ matching s a then { x with identify := on } else x)) ∧
      ∀ q : Fin 16,
        ((∃ e ∈ matching s a, ∃ x, s.entries.get e = some x ∧ x.port = some q) →
          t.ports[q] = { s.ports[q] with queues := { s.ports[q].queues with identify := some on } }) ∧
        ((∀ e ∈ matching s a, ∀ x, s.entries.get e = some x → x.port ≠ some q) → t.ports[q] = s.ports[q])) ∧
  ∀ s : State, Takes s →
    (∀ n, 16 ≤ n → Refuses (.resetPort (.given n)) 0x1B .notFound s) ∧
    (∀ p : Fin 16, s.ports[p].link = .down → Replies (.resetPort (.given p.val)) 0x1B (.portWas .down) s s) ∧
    (∀ (p : Fin 16) (t : State), t = portDown p s →
      Replies (.resetPort (.given p.val)) 0x1B (.portWas s.ports[p].link) s t ∧ t.ports[p].link = .down ∧
      ∀ (e : Nat) (x : Entry), AttachedTo s p e → s.entries.get e = some x →
        (∃ y : Entry, t.entries.get e = some y ∧ y.port = none ∧ y.path = [] ∧ y.view = none ∧ y.id = x.id ∧
          y.name = x.name) ∧
        (TablesOk s → (∀ n ∈ s.sheets, n.2.batch < 48) → (∀ a ∈ s.attention, a.2 < 256) → (x.path.map (·.slot)).Nodup →
          DetachLeaves p e x s t))

/-! Feeding requests (4.2) -/

/-- START, STANDBY and HALT_STATION by feed state; RESUME is refused unless the station is HALTED, present, has sent a STATUS
since its attach, and shows a clear path where the cause is LINK_LOST or no batch is bound, and its run-out queues a DIVERT for
each suspect in the path that has none ordered, in the order of the path, and sets its flag (R70–R73, R83; the reading of its
second check is log 11, the misfeed count with no batch bound log 30, and the feed state that the OK of START carries in
RUNNING log 29). -/
def Obligations.FeedRequestsFollowTheFeedState : Prop :=
  ((∀ (e : Nat) (x : Entry) (s : State), s.entries.get e = some x → feedOf s e = x.feed ∧
      (x.port = none → ∀ f, onQueues e f s = s) ∧
      ∀ p f, x.port = some p → onQueues e f s = modPort p (fun y => { y with queues := f y.queues }) s) ∧
    (∀ q : Queues, q.addResume = { q with resume := true }) ∧
    ∀ x : Entry, x.pathClear = true ↔ ∃ v, x.view = some v ∧ v.pathClear = true) ∧
  (∀ (e : Nat) (s : State), Takes s →
    (entryAt s e = none → Refuses (.start (.given e)) 0x17 .notFound s ∧ Refuses (.standby (.given e)) 0x18 .notFound s ∧
      Refuses (.haltStation (.given e)) 0x19 .notFound s) ∧
    ∀ x : Entry, entryAt s e = some x →
      (x.feed = .ready →
        Replies (.start (.given e)) 0x17 (.feed .running) s
          (settle x.bound.toList [e] s.lastAlloc (modEntry e (fun x => { x with feed := .running, misfeeds := 0 }) s)) ∧
        Replies (.standby (.given e)) 0x18 .empty s s) ∧
      (x.feed = .running →
        Replies (.start (.given e)) 0x17 (.feed .running) s s ∧
        Replies (.standby (.given e)) 0x18 .empty s
          (settle x.bound.toList [e] s.lastAlloc (modEntry e (fun x => { x with feed := .ready }) s))) ∧
      (x.feed = .idle ∨ x.feed = .halted ∨ x.feed = .clearing →
        Refuses (.start (.given e)) 0x17 .wrongState s ∧ Refuses (.standby (.given e)) 0x18 .wrongState s) ∧
      (x.feed = .running ∨ x.feed = .ready → ∀ t : State, t = settle x.bound.toList [e] s.lastAlloc (halt e .host s) →
        Replies (.haltStation (.given e)) 0x19 (.feed (feedOf t e)) s t) ∧
      (x.feed = .halted ∨ x.feed = .clearing → Replies (.haltStation (.given e)) 0x19 (.feed x.feed) s s) ∧
      (x.feed = .idle → Refuses (.haltStation (.given e)) 0x19 .wrongState s)) ∧
  (∀ (e : Nat) (s : State), Takes s →
    (entryAt s e = none → Refuses (.resume (.given e)) 0x1A .notFound s) ∧
    ∀ x : Entry, entryAt s e = some x →
      (x.feed ≠ .halted ∨ x.port = none ∨ x.view = none ∨ (x.cause = some .linkLost ∧ x.pathClear = false) ∨
        (x.bound = none ∧ x.pathClear = false) → Refuses (.resume (.given e)) 0x1A .wrongState s) ∧
      (x.feed = .halted → x.port.isSome = true → x.view.isSome = true →
        (x.cause = some .linkLost → x.pathClear = true) → (x.bound = none → x.pathClear = true) →
        (∀ h : Nat, x.bound = some h → Replies (.resume (.given e)) 0x1A (.count (runOutSheets s x).length) s
          (settle [h] [e] s.lastAlloc (modEntry e (fun x =>
            { x with feed := .running, cause := none, misfeeds := 0, timer := x.timer.resume })
            (onQueues e Queues.addResume
              ((runOutSheets s x).foldl (fun t p => orderDivert e p.1 p.2 t) s))))) ∧
        (x.bound = none → Replies (.resume (.given e)) 0x1A (.count 0) s
          (settle [] [e] s.lastAlloc
            (modEntry e (fun x => { x with feed := .idle, cause := none, misfeeds := 0 }) (onQueues e Queues.addResume s)))))) ∧
  ∀ (e : Nat) (x : Entry) (s u : State), s.entries.get e = some x →
    (runOutSheets s x).foldl (fun t p => orderDivert e p.1 p.2 t) s = u →
    (∀ n g, (n, g) ∈ runOutSheets s x ↔ ∃ c ∈ x.path, c.slot = n ∧ c.divertOrdered = false ∧
      ∃ r, s.sheets.get n = some r ∧ r.state = .suspect ∧ r.tag = g) ∧
    ((runOutSheets s x).map Prod.fst).Sublist (x.path.map (·.slot)) ∧
    u = { s with entries := u.entries, ports := u.ports } ∧
    u.entries.get e = some { x with path := x.path.map fun c =>
      if c.slot ∈ (runOutSheets s x).map Prod.fst then { c with divertOrdered := true } else c } ∧
    (∀ j, j ≠ e → u.entries.get j = s.entries.get j) ∧
    (∀ p : Fin 16, x.port = some p → u.ports[p] = { s.ports[p] with queues := { s.ports[p].queues with
      divert := s.ports[p].queues.divert ++ (runOutSheets s x).map Prod.snd } }) ∧
    ∀ p : Fin 16, x.port ≠ some p → u.ports[p] = s.ports[p]

/-- Taking a halt, by feed state. In RUNNING or READY: HALTED, or CLEARING with the cover open, with the cause, the pick timer
suspended with its remaining time, HALT queued to a present station with its waiting RESUME withdrawn, and STATION_HALTED
raised. In HALTED: LINK_LOST and ABORT replace the cause and raise again. In CLEARING: LINK_LOST moves to HALTED and raises,
ABORT replaces the cause. Every other halt there, and any in IDLE, changes nothing; no HALT is queued outside RUNNING and READY
(R74, R75, R82). That ABORT in CLEARING does not raise STATION_HALTED is log 25. -/
def Obligations.HaltStopsAMovingStation : Prop :=
  (∀ x : Entry, x.coverOpen = true ↔ ∃ v, x.view = some v ∧ v.coverOpen = true) ∧
  (∀ n, (Timer.running n).suspend = .suspended n ∧ (Timer.suspended n).suspend = .suspended n ∧
    Timer.stopped.suspend = .stopped ∧ (Timer.suspended n).resume = .running n ∧ Timer.stopped.resume = .stopped) ∧
  ∀ (e : Nat) (k : HaltCause) (s u : State) (x : Entry), TablesOk s → s.entries.get e = some x → halt e k s = u →
    u = { s with entries := u.entries, ports := u.ports, attention := u.attention } ∧
    (∀ j, j ≠ e → u.entries.get j = s.entries.get j) ∧
    (∀ p : Fin 16, x.port ≠ some p → u.ports[p] = s.ports[p]) ∧
    (x.feed = .running ∨ x.feed = .ready →
      u.entries.get e = some { x with
        feed := if x.coverOpen then .clearing else .halted, cause := some k, timer := x.timer.suspend } ∧
      (∀ p : Fin 16, x.port = some p →
        u.ports[p] = { s.ports[p] with queues := { s.ports[p].queues with halt := true, resume := false } }) ∧
      u.attention = (raise .stationHalted e s).attention) ∧
    (x.feed = .halted → k = .linkLost ∨ k = .abort → u.entries.get e = some { x with cause := some k } ∧
      u.ports = s.ports ∧ u.attention = (raise .stationHalted e s).attention) ∧
    (x.feed = .clearing →
      (k = .linkLost → u.entries.get e = some { x with feed := .halted, cause := some k } ∧
        u.ports = s.ports ∧ u.attention = (raise .stationHalted e s).attention) ∧
      (k = .abort → u.entries.get e = some { x with cause := some k } ∧ u.ports = s.ports ∧ u.attention = s.attention)) ∧
    (x.feed = .idle ∨ ((x.feed = .halted ∨ x.feed = .clearing) ∧ k ≠ .linkLost ∧ k ≠ .abort) → u = s)

/-! Batches (chapters 1 and 7) -/

/-- OPEN_BATCH makes the lowest FREE record OPEN with the given or default parameters and its periodic target; its refusals come
in their order, the first over the ranges of the parameters (R3, R5, R118). -/
def Obligations.OpenBatchMakesTheRecord : Prop :=
  (∀ a : OpenArgs, openArgsOk a = true ↔ labelOk a.label = true ∧
    ((a.bandMin = none ∧ a.bandMax = none) ∨ ∃ lo hi, a.bandMin = some lo ∧ a.bandMax = some hi ∧
      250 ≤ lo ∧ lo ≤ 4999 ∧ 251 ≤ hi ∧ hi ≤ 5000 ∧ lo < hi) ∧
    (∀ v, a.minGap = some v → v ≤ 2000) ∧ (∀ v, a.interval = some v → v ≤ 4096) ∧
    (∀ v, a.expected = some v → 1 ≤ v ∧ v ≤ 65535) ∧ (∀ v, a.suspectLimit = some v → v ≤ 15) ∧
    ∀ v, a.retries = some v → v ≤ 3) ∧
  (∀ s : State, (∀ h, s.batches.firstFree 48 = some h ↔
      h < 48 ∧ s.batches.get h = none ∧ ∀ j < h, s.batches.get j ≠ none) ∧
    ∀ l, (findLabel s l = none ↔ ∀ p ∈ s.batches, p.2.label ≠ l) ∧
      ∀ p, findLabel s l = some p → p ∈ s.batches ∧ p.2.label = l) ∧
  (∀ (a : OpenArgs) (s : State) (h : Nat), Takes s → openArgsOk a = true → a.plan.getD 0 < 16 →
    findLabel s a.label = none → s.batches.firstFree 48 = some h → ∀ c : Batch,
    c = { label := a.label, state := .open, outcome := none, testFlag := false, bound := none, plan := a.plan.getD 0
          policy :=
            { mask := a.mask.getD { thickness := true, length := true, shortLength := false, shortGap := true }
              agreement := a.agreement.getD .any, action := a.action.getD .stop
              unknownCounts := a.unknownCounts.getD false }
          band := a.bandMin.bind fun lo => a.bandMax.map fun hi => { min := lo, max := hi }
          minGap := a.minGap.getD 40, interval := a.interval.getD 0
          target := if a.interval.getD 0 = 0 then none else some (a.interval.getD 0)
          last := 0, passed := 0, expected := a.expected, suspectLimit := a.suspectLimit.getD 0
          retries := a.retries.getD 2, report := a.report.getD false, nextSeq := 1, fed := 0, completed := 0
          discarded := 0, rescanned := 0, misfeeds := 0, documents := 0, documentOpen := false, picking := 0, live := 0
          openSuspects := 0, pauses := {}, pendingAmend := none } →
    Replies (.openBatch (.given a)) 0x20 (.handle h) s { s with batches := s.batches.put h c }) ∧
  (∀ (a : OpenArgs) (s : State), Takes s →
    (openArgsOk a = false → Refuses (.openBatch (.given a)) 0x20 .badValue s) ∧
    (openArgsOk a = true → 16 ≤ a.plan.getD 0 → Refuses (.openBatch (.given a)) 0x20 .notFound s) ∧
    (openArgsOk a = true → a.plan.getD 0 < 16 → (findLabel s a.label).isSome = true →
      Refuses (.openBatch (.given a)) 0x20 .duplicateLabel s) ∧
    (openArgsOk a = true → a.plan.getD 0 < 16 → findLabel s a.label = none → s.batches.firstFree 48 = none →
      Refuses (.openBatch (.given a)) 0x20 .tableFull s))

/-- The two amendments: at once, with the named fields changed, the periodic target computed where an interval is named and no
target is pending, and the batch's judgments; or merged into the pending amendment; and their refusals in order, the first over
the fields named, their mode and their ranges, and a label refused where another record carries it (R3, R4, R16, R17, R118). -/
def Obligations.AmendBatchNowOrLater : Prop :=
  (∀ a : AmendNowArgs, amendNowOk a = true ↔ a.foreign = false ∧
    (a.label ≠ none ∨ a.expected ≠ none ∨ a.suspectLimit ≠ none ∨ a.interval ≠ none ∨ a.retries ≠ none) ∧
    (∀ l, a.label = some l → labelOk l = true) ∧ (∀ v, a.expected = some (some v) → 1 ≤ v ∧ v ≤ 65535) ∧
    (∀ v, a.suspectLimit = some v → v ≤ 15) ∧ (∀ v, a.interval = some v → v ≤ 4096) ∧
    ∀ v, a.retries = some v → v ≤ 3) ∧
  (∀ a : AmendLaterArgs, amendLaterOk a = true ↔ a.foreign = false ∧
    (a.plan ≠ none ∨ a.policy ≠ none ∨ a.band ≠ none ∨ a.minGap ≠ none) ∧
    (∀ b, a.band = some (some b) → 250 ≤ b.min ∧ b.min ≤ 4999 ∧ 251 ≤ b.max ∧ b.max ≤ 5000 ∧ b.min < b.max) ∧
    ∀ v, a.minGap = some v → v ≤ 2000) ∧
  (∀ (s : State) (h : Nat) (k : Option Text), labelTaken s h k = true ↔
    ∃ l, k = some l ∧ ∃ p ∈ s.batches, p.2.label = l ∧ p.1 ≠ h) ∧
  (∀ (a : AmendNowArgs) (s : State), Takes s →
    (amendNowOk a = false → Refuses (.amendBatchImmediate (.given a)) 0x23 .badValue s) ∧
    (amendNowOk a = true → batchAt s a.handle = none → Refuses (.amendBatchImmediate (.given a)) 0x23 .notFound s) ∧
    ∀ b, amendNowOk a = true → batchAt s a.handle = some b →
      (b.state ≠ .open → Refuses (.amendBatchImmediate (.given a)) 0x23 .wrongState s) ∧
      (b.state = .open → (∃ n, a.expected = some (some n) ∧ n < b.fed + b.picking) →
        Refuses (.amendBatchImmediate (.given a)) 0x23 .badValue s) ∧
      (b.state = .open → (∀ n, a.expected = some (some n) → b.fed + b.picking ≤ n) →
        (labelTaken s a.handle a.label = true → Refuses (.amendBatchImmediate (.given a)) 0x23 .duplicateLabel s) ∧
        (labelTaken s a.handle a.label = false → TablesOk s → ∀ target : Option Nat,
          (a.interval = none ∨ b.target ≠ none → target = b.target) →
          (∀ k, a.interval = some k → b.target = none → ∀ v, target = some v ↔
            k ≠ 0 ∧ v ≤ 65535 ∧ b.last < v ∧ k ∣ v ∧ ∀ u, b.last < u → k ∣ u → v ≤ u) →
          Replies (.amendBatchImmediate (.given a)) 0x23 .empty s
            (settle [a.handle] b.bound.toList s.lastAlloc { s with batches := s.batches.modify a.handle fun b =>
              { b with
                label := a.label.getD b.label, expected := a.expected.getD b.expected
                suspectLimit := a.suspectLimit.getD b.suspectLimit, interval := a.interval.getD b.interval
                retries := a.retries.getD b.retries, target := target } })))) ∧
  (∀ (a : AmendLaterArgs) (s : State), Takes s →
    (amendLaterOk a = false → Refuses (.amendBatchAtCheckpoint (.given a)) 0x23 .badValue s) ∧
    (amendLaterOk a = true → batchAt s a.handle = none → Refuses (.amendBatchAtCheckpoint (.given a)) 0x23 .notFound s) ∧
    ∀ b, amendLaterOk a = true → batchAt s a.handle = some b →
      ((∃ n, a.plan = some n ∧ 16 ≤ n) → Refuses (.amendBatchAtCheckpoint (.given a)) 0x23 .notFound s) ∧
      ((∀ n, a.plan = some n → n < 16) → b.state ≠ .open →
        Refuses (.amendBatchAtCheckpoint (.given a)) 0x23 .wrongState s) ∧
      ((∀ n, a.plan = some n → n < 16) → b.state = .open → ∀ m : Amendment,
        m = { plan := a.plan.or (b.pendingAmend.bind (·.plan)), policy := a.policy.or (b.pendingAmend.bind (·.policy))
              band := a.band.or (b.pendingAmend.bind (·.band)), minGap := a.minGap.or (b.pendingAmend.bind (·.minGap)) } →
        Replies (.amendBatchAtCheckpoint (.given a)) 0x23 (.amendment m) s
          { s with batches := s.batches.modify a.handle fun b => { b with pendingAmend := some m } }))

/-- BIND joins an OPEN unbound batch and an IDLE station, and UNBIND parts them where nothing picks, runs or lies in the
path (R18, R19). -/
def Obligations.BindAndUnbind : Prop :=
  (∀ (h e : Nat) (s : State), Takes s →
    (batchAt s h = none ∨ entryAt s e = none → Refuses (.bindBatch (.given ⟨h, e⟩)) 0x24 .notFound s) ∧
    ∀ b x, batchAt s h = some b → entryAt s e = some x →
      (b.state ≠ .open ∨ b.bound ≠ none ∨ x.feed ≠ .idle → Refuses (.bindBatch (.given ⟨h, e⟩)) 0x24 .wrongState s) ∧
      (b.state = .open → b.bound = none → x.feed = .idle → Replies (.bindBatch (.given ⟨h, e⟩)) 0x24 .empty s
        (settle [h] [e] s.lastAlloc
          (modEntry e (fun x => { x with bound := some h, feed := .ready, misfeeds := 0 })
            (modBatch h (fun b => { b with bound := some e }) s))))) ∧
  (∀ (h : Nat) (s : State), Takes s →
    (batchAt s h = none → Refuses (.unbind (.given h)) 0x25 .notFound s) ∧
    ∀ b, batchAt s h = some b →
      (b.state ≠ .open ∨ b.bound = none → Refuses (.unbind (.given h)) 0x25 .wrongState s) ∧
      ∀ e x, b.state = .open → b.bound = some e → s.entries.get e = some x →
        (x.feed = .running ∨ x.feed = .clearing ∨ x.path ≠ [] ∨ (pickingOf s e).isSome = true →
          Refuses (.unbind (.given h)) 0x25 .wrongState s) ∧
        (x.feed ≠ .running → x.feed ≠ .clearing → x.path = [] → pickingOf s e = none →
          Replies (.unbind (.given h)) 0x25 .empty s
            (settle [h] [e] s.lastAlloc
              (modEntry e (fun x => { x with bound := none, feed := .idle, cause := none })
                (modBatch h (fun b => { b with bound := none }) s)))))

/-- PAUSE and RESUME_BATCH add and remove HOST in an OPEN batch and reply with the set; CHECKPOINT sets the target at the
highest sequence reached; CLOSE moves an OPEN batch to CLOSING without target, CHECKPOINT reason or amendment (R12, R21, R119).
That the set is the one just after HOST changed, and the phase the one after the whole event, is the model's choice (log 8),
and so is the set in RESUME_BATCH's reply where HOST was not in it (log 29). -/
def Obligations.PauseCheckpointAndClose : Prop :=
  (∀ (s : State) (h : Nat) (b : Batch), s.batches.get h = some b → phaseOf s h = b.phase) ∧
  (∀ (h : Nat) (s : State), Takes s →
    (batchAt s h = none → Refuses (.pause (.given h)) 0x26 .notFound s ∧ Refuses (.resumeBatch (.given h)) 0x27 .notFound s) ∧
    ∀ b, batchAt s h = some b →
      (b.state ≠ .open →
        Refuses (.pause (.given h)) 0x26 .wrongState s ∧ Refuses (.resumeBatch (.given h)) 0x27 .wrongState s) ∧
      (b.state = .open →
        Replies (.pause (.given h)) 0x26 (.pauses { b.pauses with host := true }) s
          (settle [h] b.bound.toList s.lastAlloc
            (modBatch h (fun b => { b with pauses := { b.pauses with host := true } }) s)) ∧
        Replies (.resumeBatch (.given h)) 0x27 (.pauses { b.pauses with host := false }) s
          (settle [h] b.bound.toList s.lastAlloc
            (modBatch h (fun b => { b with pauses := { b.pauses with host := false } }) s)))) ∧
  (∀ (h : Nat) (s : State), Takes s →
    (batchAt s h = none → Refuses (.checkpoint (.given h)) 0x28 .notFound s ∧ Refuses (.close (.given h)) 0x29 .notFound s) ∧
    ∀ b, batchAt s h = some b →
      (b.state ≠ .open ∨ b.target ≠ none ∨ b.nextSeq - 1 + b.picking = b.last →
        Refuses (.checkpoint (.given h)) 0x28 .wrongState s) ∧
      (b.state = .open → b.target = none → b.nextSeq - 1 + b.picking ≠ b.last → ∀ t : State,
        t = settle [h] b.bound.toList s.lastAlloc
          (modBatch h (fun b => { b with target := some (b.nextSeq - 1 + b.picking) }) s) →
        Replies (.checkpoint (.given h)) 0x28 (.checkpoint (b.nextSeq - 1 + b.picking) (phaseOf t h)) s t) ∧
      (b.state ≠ .open → Refuses (.close (.given h)) 0x29 .wrongState s) ∧
      (b.state = .open → Replies (.close (.given h)) 0x29 .empty s
        (settle [h] b.bound.toList s.lastAlloc (modBatch h (fun b =>
          { b with state := .closing, target := none, pendingAmend := none
                   pauses := { b.pauses with checkpoint := false } }) s))))

/-- ABORT of an OPEN or CLOSING batch tells how many live records it retired and closes it unbound with outcome ABORTED, those
records counted as discarded, picking, live and open suspects at 0 and BATCH_CLOSED raised; its station is unbound and rid of
its sheets, halted with ABORT where its path held paper and IDLE where not; and each record it retires keeps no upload and no
place on a lane, with its deliveries abandoned and RELEASE DROPPED queued or owed unless its images are lost (R24). -/
def Obligations.AbortRetiresTheBatch : Prop :=
  ∀ (h : Nat) (s : State), Takes s →
    (batchAt s h = none → Refuses (.abort (.given h)) 0x2A .notFound s) ∧
    ∀ b, batchAt s h = some b →
      (b.state = .closed → Refuses (.abort (.given h)) 0x2A .wrongState s) ∧
      (b.state ≠ .closed → TablesOk s → (∀ a ∈ s.attention, a.2 < 256) → ∃ (t : State) (c : Batch),
        Replies (.abort (.given h)) 0x2A (.records (liveCount s h)) s t ∧
        (∀ p ∈ t.sheets, p.2.batch ≠ h) ∧ t.batches.get h = some c ∧
        c = { b with
          state := .closed, outcome := some .aborted, bound := none, pauses := {}, target := none, pendingAmend := none
          discarded := b.discarded + liveCount s h, picking := 0, live := 0, openSuspects := 0 } ∧
        (AttnKind.batchClosed ∉ s.room.mask → (.batchClosed, h) ∈ t.attention) ∧
        (∀ e x, b.bound = some e → s.entries.get e = some x → ∃ y, t.entries.get e = some y ∧ y.bound = none ∧
          (∀ k, k ∈ y.path ↔ k ∈ x.path ∧ ∀ r, s.sheets.get k.slot = some r → r.batch ≠ h) ∧
          (x.path = [] → y.feed = .idle ∧ y.cause = none) ∧
          (x.path ≠ [] → x.feed = .running ∨ x.feed = .ready →
            y.feed = (if x.coverOpen then .clearing else .halted) ∧ y.cause = some .abort ∧
            ∀ p : Fin 16, x.port = some p → t.ports[p].queues.halt = true) ∧
          (x.path ≠ [] → x.feed = .halted ∨ x.feed = .clearing → y.feed = x.feed ∧ y.cause = some .abort)) ∧
        ∀ n r, s.sheets.get n = some r → r.batch = h → r.state ≠ .picking →
          (r.fault ≠ some .imagesLost → ∀ x, s.entries.get r.station = some x →
            (∀ p : Fin 16, x.port = some p → (r.tag, .dropped) ∈ t.ports[p].queues.release) ∧
            (x.port = none → ∃ y, t.entries.get r.station = some y ∧ (r.tag, .dropped) ∈ y.owed)) ∧
          (∀ u, t.uploads.get r.station = some u → u.slot ≠ n) ∧
          ((r.deliveries.getD []).Pairwise (fun a d => a.side ≠ d.side ∨ a.role ≠ d.role) →
            (∀ d ∈ r.deliveries.getD [], ∀ m, d.status = .inFlight ∨ d.status = .sent ∨ d.status = .accepted →
              d.number = some m → s.lanes[d.lane].state ≠ .loopback → .abandon m ∈ t.lanes[d.lane].ctrl) ∧
            ((∀ (l : Fin 4), ∀ w ∈ s.lanes[l].window, w.slot = n → ∃ d ∈ r.deliveries.getD [], d.lane = l ∧
                d.number = some w.number ∧ (d.status = .inFlight ∨ d.status = .sent ∨ d.status = .accepted)) →
              ∀ (l : Fin 4), ∀ w ∈ t.lanes[l].window, w.slot ≠ n)))

/-- RETIRE frees a CLOSED record with the attention pairs of its handle; in OPEN or CLOSING it is refused (R25). -/
def Obligations.RetireFreesAClosedRecord : Prop :=
  ∀ (h : Nat) (s : State), Takes s →
    (batchAt s h = none → Refuses (.retire (.given h)) 0x2B .notFound s) ∧
    ∀ b, batchAt s h = some b →
      (b.state = .open ∨ b.state = .closing → Refuses (.retire (.given h)) 0x2B .wrongState s) ∧
      (b.state = .closed → ∃ t : State, Replies (.retire (.given h)) 0x2B .empty s t ∧
        t = { s with batches := s.batches.del h, attention := t.attention } ∧ t.batches.get h = none ∧
        (∀ x : Attn, x ∈ t.attention ↔ x ∈ s.attention ∧ ¬ (x.2 = h ∧ (x.1 = .suspectOpen ∨ x.1 = .sheetFault ∨
          x.1 = .checkpointPassed ∨ x.1 = .countReached ∨ x.1 = .batchClosed))) ∧
        (t.attention = [] → attnPin t = false) ∧
        (TablesOk s → (∀ p ∈ s.batches, p.2.label = b.label → p.1 = h) → findLabel t b.label = none))

/-- A batch's phase is NONE without a target, PENDING while the target lies above the highest sequence reached, LIMITED while
it is reached and lies above the last sequence assigned, and ARMED from then on. The periodic target is the smallest multiple
of the interval above the last completed sequence, unless that is above 65535. A checkpoint may complete exactly in an OPEN,
ARMED batch with nothing picking and no live record at or below its target; a completion takes the target as the last
checkpoint, counts it, puts the pending amendment into force, sets the next periodic target and, where the batch reports,
raises CHECKPOINT_PASSED; it is repeated until none may complete, and counters and sequence stay (R117, R118, R123, R125). -/
def Obligations.CheckpointsAdvance : Prop :=
  (∀ b : Batch, (b.phase = .none ↔ b.target = none) ∧ ∀ t, b.target = some t →
    (b.phase = .pending ↔ b.nextSeq - 1 + b.picking < t) ∧
    (b.phase = .limited ↔ b.nextSeq - 1 < t ∧ t ≤ b.nextSeq - 1 + b.picking) ∧
    (b.phase = .armed ↔ t ≤ b.nextSeq - 1)) ∧
  (∀ (b : Batch) (t : Nat),
    b.periodicTarget = some t ↔
      b.interval ≠ 0 ∧ t ≤ 65535 ∧ b.last < t ∧ b.interval ∣ t ∧ ∀ u, b.last < u → b.interval ∣ u → t ≤ u) ∧
  (∀ (b : Batch) (t : Nat), b.target = some t → ∃ c : Batch, b.completeCheckpoint = c ∧
    c.last = t ∧ c.passed = b.passed + 1 ∧ c.pendingAmend = none ∧
    c.plan = (b.pendingAmend.bind (·.plan)).getD b.plan ∧ c.policy = (b.pendingAmend.bind (·.policy)).getD b.policy ∧
    c.band = (b.pendingAmend.bind (·.band)).getD b.band ∧ c.minGap = (b.pendingAmend.bind (·.minGap)).getD b.minGap ∧
    c.target = { b with last := t }.periodicTarget ∧
    (b.state ≠ .closed → (c.pauses.checkpoint = true ↔ ∃ u, c.target = some u ∧ u ≤ b.nextSeq - 1 + b.picking)) ∧
    c = { b with
      last := c.last, passed := c.passed, pendingAmend := c.pendingAmend, plan := c.plan, policy := c.policy
      band := c.band, minGap := c.minGap, target := c.target, pauses := c.pauses }) ∧
  (∀ (h : Nat) (s : State), checkpointDone s h = true ↔ ∃ b t, s.batches.get h = some b ∧ b.target = some t ∧
    b.state = .open ∧ t ≤ b.nextSeq - 1 ∧ b.picking = 0 ∧
    ∀ p ∈ s.sheets, p.2.batch = h → ∀ q, p.2.seq = some q → t < q) ∧
  (∀ (h : Nat) (b : Batch) (s : State), s.batches.get h = some b →
    (∃ u, completeOnce h s = (if b.report then raise .checkpointPassed h u else u) ∧ u = { s with batches := u.batches } ∧
      u.batches.get h = some b.completeCheckpoint ∧ ∀ j, j ≠ h → u.batches.get j = s.batches.get j) ∧
    (∀ n, (checkpointDone s h = true → completeCheckpoints (n + 1) h s = completeCheckpoints n h (completeOnce h s)) ∧
      (checkpointDone s h = false → completeCheckpoints n h s = s)) ∧
    (0 < b.nextSeq → checkpointDone (completeCheckpoints b.nextSeq h s) h = false))

/-- A batch's judgments run in turn: its pause reasons, its checkpoints, and in CLOSING the unbind and the close. Outside
CLOSED the judged pause reasons stand exactly while their causes do: CHECKPOINT while the grant limit is hit, SUSPECT_LIMIT
while the open suspects reach a limit that is set, COUNT_REACHED while fed plus picking is at least an expected count, and
SEQUENCE_END from the moment next sequence plus picking exceeds 65535 on; HOST is left; and COUNT_REACHED is raised where it
joins. A bound batch with nothing picking and no sheet in its station's path, the station not in CLEARING, is unbound and the
station goes to IDLE; an unbound batch with nothing picking and nothing live is CLOSED with outcome COMPLETE and BATCH_CLOSED
raised; and nothing else changes (R11–R15, R22, R121). -/
def Obligations.ClosingBatchesUnbindAndClose : Prop :=
  (∀ (h : Nat) (b : Batch) (s : State), s.batches.get h = some b →
    judgeBatch h s = judgeClosing h (completeCheckpoints b.nextSeq h (judgePausesOf h s))) ∧
  (∀ (h : Nat) (b : Batch) (s u : State), s.batches.get h = some b → judgePausesOf h s = u →
    u = { s with batches := u.batches, attention := u.attention } ∧
    (∀ j, j ≠ h → u.batches.get j = s.batches.get j) ∧
    (b.state = .closed → u.batches.get h = some b ∧ u.attention = s.attention) ∧
    (b.state ≠ .closed → ∃ c, u.batches.get h = some c ∧ c = { b with pauses := c.pauses } ∧
      c.pauses.host = b.pauses.host ∧
      (c.pauses.checkpoint = true ↔ ∃ t, b.target = some t ∧ t ≤ b.nextSeq - 1 + b.picking) ∧
      (c.pauses.suspectLimit = true ↔ b.suspectLimit ≠ 0 ∧ b.suspectLimit ≤ b.openSuspects) ∧
      (c.pauses.countReached = true ↔ ∃ n, b.expected = some n ∧ n ≤ b.fed + b.picking) ∧
      (c.pauses.sequenceEnd = true ↔ b.pauses.sequenceEnd = true ∨ 65535 < b.nextSeq + b.picking) ∧
      (c.pauses.countReached = true → b.pauses.countReached = false →
        u.attention = (raise .countReached h s).attention) ∧
      (c.pauses.countReached = false ∨ b.pauses.countReached = true → u.attention = s.attention))) ∧
  (∀ (h : Nat) (x : Entry) (s : State),
    pathHolds s x h = true ↔ ∃ c ∈ x.path, ∃ r, s.sheets.get c.slot = some r ∧ r.batch = h) ∧
  ∀ (h : Nat) (b : Batch) (s u : State), TablesOk s → (∀ a ∈ s.attention, a.2 < 256) → s.batches.get h = some b →
    judgeClosing h s = u →
    u = { s with entries := u.entries, batches := u.batches, attention := u.attention } ∧
    (∀ j, j ≠ h → u.batches.get j = s.batches.get j) ∧
    (∀ e, b.bound ≠ some e → u.entries.get e = s.entries.get e) ∧
    (b.state ≠ .closing → u = s) ∧
    (b.state = .closing →
      (∀ e x, b.bound = some e → s.entries.get e = some x →
        (b.picking ≠ 0 ∨ pathHolds s x h = true ∨ x.feed = .clearing → u = s) ∧
        (b.picking = 0 → pathHolds s x h = false → x.feed ≠ .clearing →
          u.entries.get e = some { x with bound := none, feed := .idle, cause := none } ∧
          (b.live ≠ 0 → u.batches.get h = some { b with bound := none } ∧ u.attention = s.attention))) ∧
      (b.bound = none → b.picking ≠ 0 ∨ b.live ≠ 0 → u = s) ∧
      (b.live = 0 → b.picking = 0 →
        (b.bound = none ∨
          ∃ e x, b.bound = some e ∧ s.entries.get e = some x ∧ pathHolds s x h = false ∧ x.feed ≠ .clearing) →
        u.batches.get h = some
          { b with state := .closed, outcome := some .complete, bound := none, pauses := {}, target := none, pendingAmend := none } ∧
        (AttnKind.batchClosed ∉ s.room.mask → (.batchClosed, h) ∈ u.attention)))

/-! Sheets (chapter 2) -/

/-- The four outcomes of RESOLVE on a record that may take them, and their refusals. ACCEPT and RETRY have the delivery list
built where it is due, completion judged, then the upload arbiter and the judgments of the record's batch and station; and the
OK carries the state of the record the serial names after all that, or none where it has retired (R44–R47, R130, R134). -/
def Obligations.ResolveEndsOrRoutesTheSheet : Prop :=
  (∀ (x : Serial) (t : State), (stateAfter t x = none ↔ ∀ p ∈ t.sheets, p.2.serial ≠ some x) ∧
    ∀ k, stateAfter t x = some k → ∃ p ∈ t.sheets, p.2.serial = some x ∧ p.2.state = k) ∧
  ∀ (x : Serial) (s : State), Takes s →
    (x.seq = 0 → Refuses (.resolveAccept (.given x)) 0x33 .badValue s ∧
      Refuses (.resolveRescan (.given x)) 0x33 .badValue s ∧ Refuses (.resolveDiscard (.given x)) 0x33 .badValue s ∧
      Refuses (.resolveRetry (.given x)) 0x33 .badValue s) ∧
    (x.seq ≠ 0 → serialAt s x = none → Refuses (.resolveAccept (.given x)) 0x33 .notFound s ∧
      Refuses (.resolveRescan (.given x)) 0x33 .notFound s ∧ Refuses (.resolveDiscard (.given x)) 0x33 .notFound s ∧
      Refuses (.resolveRetry (.given x)) 0x33 .notFound s) ∧
    ∀ n r, x.seq ≠ 0 → serialAt s x = some (n, r) →
      (inPath s n r = true → Refuses (.resolveAccept (.given x)) 0x33 .wrongState s ∧
        Refuses (.resolveRescan (.given x)) 0x33 .wrongState s ∧ Refuses (.resolveDiscard (.given x)) 0x33 .wrongState s ∧
        Refuses (.resolveRetry (.given x)) 0x33 .wrongState s) ∧
      (inPath s n r = false → (r.state = .suspect ∨ r.state = .fault) →
        (r.images = none ∨ r.fault = some .imagesLost ∨ r.evidence.cleared = true ∨ r.evidence.linkLost = true ∨
          r.captured = none → Refuses (.resolveAccept (.given x)) 0x33 .wrongState s) ∧
        (r.images.isSome = true → r.fault ≠ some .imagesLost → r.evidence.cleared = false → r.evidence.linkLost = false →
          r.captured.isSome = true → ∀ t : State,
          t = settle [r.batch] [r.station] s.lastAlloc (arbitrate (completeIfDone n (buildEntries n
            (modBatch r.batch (fun b => { b with openSuspects := b.openSuspects - 1 })
              (modSheet n (fun r => if r.fault.isSome then
                { r with state := .routing, resolved := true, failures := 0, fault := none }
                else { r with state := .routing, resolved := true }) s))))) →
          Replies (.resolveAccept (.given x)) 0x33 (.resolved (stateAfter t x)) s t) ∧
        (r.state ≠ .fault ∨ r.fault ≠ some .uploadFailed → Refuses (.resolveRetry (.given x)) 0x33 .wrongState s) ∧
        (r.state = .fault → r.fault = some .uploadFailed → ∀ t : State,
          t = settle [r.batch] [r.station] s.lastAlloc (arbitrate (completeIfDone n (buildEntries n
            (modBatch r.batch (fun b => { b with openSuspects := b.openSuspects - 1 })
              (modSheet n (fun r => { r with state := .routing, failures := 0, fault := none }) s))))) →
          Replies (.resolveRetry (.given x)) 0x33 (.resolved (stateAfter t x)) s t)) ∧
      (inPath s n r = false →
        (r.state = .suspect ∨ r.state = .fault ∨ (r.state = .routing ∧ r.images = none)) → ∀ o : Option ReleaseOutcome,
        o = (if r.fault = some .imagesLost then none else some .dropped) →
        (∀ t : State, t = settle [r.batch] [r.station] s.lastAlloc
            (retireRecord n o (modBatch r.batch (fun b => { b with rescanned := b.rescanned + 1 }) s)) →
          Replies (.resolveRescan (.given x)) 0x33 (.resolved (stateAfter t x)) s t) ∧
        (∀ t : State, t = settle [r.batch] [r.station] s.lastAlloc
            (retireRecord n o (modBatch r.batch (fun b => { b with discarded := b.discarded + 1 }) s)) →
          Replies (.resolveDiscard (.given x)) 0x33 (.resolved (stateAfter t x)) s t)) ∧
      (r.state = .picking ∨ r.state = .inPath ∨ (r.state = .routing ∧ r.images.isSome = true) →
        Refuses (.resolveRescan (.given x)) 0x33 .wrongState s ∧ Refuses (.resolveDiscard (.given x)) 0x33 .wrongState s) ∧
      (r.state = .picking ∨ r.state = .inPath ∨ r.state = .routing →
        Refuses (.resolveAccept (.given x)) 0x33 .wrongState s ∧ Refuses (.resolveRetry (.given x)) 0x33 .wrongState s)

/-- A record completes exactly where it is in ROUTING with a tray, its verdict CLEAR or its resolved flag set, its images ready
and every delivery of its built list DONE: the batch's completed count rises, and the record retires with RELEASE KEPT due. A
retirement frees the slot, takes the record from the batch's live count and open suspects, the station's record count and the
captured plan's captures, queues its RELEASE to a present station or owes it to an absent one, frees its tag where none is
due, and offers the slot (R40–R42, R127). -/
def Obligations.CompletionRetiresTheRecord : Prop :=
  (∀ (n : Nat) (r : Sheet) (s : State), s.sheets.get n = some r → ∀ done : Prop,
    (done ↔ r.state = .routing ∧ r.tray.isSome = true ∧ (r.verdict = .clear ∨ r.resolved = true) ∧ r.images.isSome = true ∧
      ∃ l, r.deliveries = some l ∧ ∀ d ∈ l, d.status = .done) →
    (done → completeIfDone n s =
      retireRecord n (some .kept) (modBatch r.batch (fun b => { b with completed := b.completed + 1 }) s)) ∧
    (¬ done → completeIfDone n s = s)) ∧
  (∀ (n : Nat) (o : Option ReleaseOutcome) (s : State), retireRecord n o s = offerSlot (removeRecord n o s)) ∧
  (∀ (y : Port) (t : Tag), releaseWaiting y t = true ↔
    ∃ o, (t, o) ∈ y.queues.release ∨ y.line = some (.release t o)) ∧
  (∀ (n : Nat) (o : Option ReleaseOutcome) (r : Sheet) (s u : State), TablesOk s → s.sheets.get n = some r →
    removeRecord n o s = u →
    u = { s with sheets := s.sheets.del n, batches := u.batches, entries := u.entries, plans := u.plans, ports := u.ports } ∧
    (∀ b, s.batches.get r.batch = some b → u.batches.get r.batch = some { b with
      live := b.live - 1
      openSuspects := if r.state = .suspect ∨ r.state = .fault then b.openSuspects - 1 else b.openSuspects }) ∧
    (∀ h, h ≠ r.batch → u.batches.get h = s.batches.get h) ∧
    (∀ m : Fin 16, u.plans[m].body = s.plans[m].body ∧
      ((∃ c, r.captured = some c ∧ c.plan = m.val) → u.plans[m].captures = s.plans[m].captures - 1) ∧
      ((∀ c, r.captured = some c → c.plan ≠ m.val) → u.plans[m] = s.plans[m])) ∧
    (∀ e, e ≠ r.station → u.entries.get e = s.entries.get e) ∧
    ∀ x, s.entries.get r.station = some x →
      (o = none → u.ports = s.ports ∧ u.entries.get r.station = some { x with liveCount := x.liveCount - 1 } ∧
        ((∀ p ∈ s.sheets, p.2.station = r.station → p.2.tag = r.tag → p.1 = n) → (∀ q ∈ x.owed, q.1 ≠ r.tag) →
          (∀ p : Fin 16, x.port = some p → releaseWaiting s.ports[p] r.tag = false) →
          tagHeld u r.station { x with liveCount := x.liveCount - 1 } r.tag = false)) ∧
      ∀ k, o = some k →
        (∀ p : Fin 16, x.port = some p → u.entries.get r.station = some { x with liveCount := x.liveCount - 1 } ∧
          u.ports[p] = { s.ports[p] with queues :=
            { s.ports[p].queues with release := s.ports[p].queues.release ++ [(r.tag, k)] } } ∧
          (∀ q : Fin 16, q ≠ p → u.ports[q] = s.ports[q]) ∧
          tagHeld u r.station { x with liveCount := x.liveCount - 1 } r.tag = true) ∧
        (x.port = none → u.ports = s.ports ∧ ∃ y, y = { x with liveCount := x.liveCount - 1, owed := owe (r.tag, k) x.owed } ∧
          u.entries.get r.station = some y ∧ tagHeld u r.station y r.tag = true)) ∧
  ∀ (t : Tag) (k : ReleaseOutcome) (l : List (Tag × ReleaseOutcome)), (l.map Prod.fst).Pairwise (· < ·) →
    ((owe (t, k) l).map Prod.fst).Pairwise (· < ·) ∧ ∀ q, q ∈ owe (t, k) l ↔ q = (t, k) ∨ (q ∈ l ∧ q.1 ≠ t)

/-- The hold-reason set holds each reason exactly while its condition stands, and a station is ready for a grant where it holds
none but possibly NO_RECORD; a tag is held by a live record, an owed release or a RELEASE word that has not left, and the next
grant takes the first tag from the next grant tag on that is not held. A grant decision with a free slot: the lowest free slot
holds a new PICKING record of the bound batch under a free tag, GRANT is queued, the counts rise by one, the next tag follows,
and nothing else changes but the batch's pause reasons, judged on the raised picking, and with a COUNT_REACHED that joins its
condition. With the table full the station joins the waiting set; where some other condition fails nothing happens. A freed
slot goes to the first waiting station of the round after the last-served index that meets every condition, those that fail on
the way leave the set, and with none it stays free (R13, R14, R27, R30–R33, R79, R80, R121). -/
def Obligations.GrantDecisionAllocates : Prop :=
  (∀ (s : State) (n : Nat), (s.sheets.firstFree 384 = some n ↔
      n < 384 ∧ s.sheets.get n = none ∧ ∀ m < n, s.sheets.get m ≠ none) ∧
    (s.sheets.firstFree 384 = none ↔ ∀ m < 384, s.sheets.get m ≠ none)) ∧
  (∀ (e : Nat) (x : Entry) (s : State),
    (.notRunning ∈ holds s e x ↔ x.feed ≠ .running) ∧
    (.noBatch ∈ holds s e x ↔ x.bound = none) ∧
    (.absent ∈ holds s e x ↔ x.port = none) ∧
    (.noStatus ∈ holds s e x ↔ x.port ≠ none ∧ x.view = none) ∧
    (.hostHold ∈ holds s e x ↔ x.hostHold = true) ∧
    (.batch ∈ holds s e x ↔ ∃ h b, x.bound = some h ∧ s.batches.get h = some b ∧ (b.state ≠ .open ∨ b.pauses ≠ {})) ∧
    (.checkpointLimit ∈ holds s e x ↔ ∃ h b t, x.bound = some h ∧ s.batches.get h = some b ∧
      b.target = some t ∧ t ≤ b.nextSeq - 1 + b.picking) ∧
    (.count ∈ holds s e x ↔ ∃ h b n, x.bound = some h ∧ s.batches.get h = some b ∧
      b.expected = some n ∧ n ≤ b.fed + b.picking) ∧
    (.sequence ∈ holds s e x ↔ ∃ h b, x.bound = some h ∧ s.batches.get h = some b ∧ 65535 < b.nextSeq + b.picking) ∧
    (.picking ∈ holds s e x ↔ ∃ p ∈ s.sheets, p.2.station = e ∧ p.2.state = .picking) ∧
    (.pathFull ∈ holds s e x ↔ 4 ≤ x.path.length) ∧
    (.trayEmpty ∈ holds s e x ↔ ∃ v, x.view = some v ∧ v.trayEmpty = true) ∧
    (.coverOpen ∈ holds s e x ↔ ∃ v, x.view = some v ∧ v.coverOpen = true) ∧
    (.storeFull ∈ holds s e x ↔ s.room.share ≤ x.liveCount ∨ (∃ f, x.facts = some f ∧ f.capacity ≤ x.liveCount) ∨
      ∀ t : Tag, tagHeld s e x t = true) ∧
    (.noRecord ∈ holds s e x ↔ (∀ k ∈ holds s e x, k = .noRecord) ∧ ∀ n < 384, s.sheets.get n ≠ none)) ∧
  (∀ (e : Nat) (s : State),
    grantReady s e = true ↔ ∃ x, s.entries.get e = some x ∧ ∀ k ∈ holds s e x, k = .noRecord) ∧
  (∀ (e : Nat) (x : Entry) (s : State),
    (∀ t : Tag, tagHeld s e x t = true ↔ (∃ p ∈ s.sheets, p.2.station = e ∧ p.2.tag = t) ∨ (∃ o, (t, o) ∈ x.owed) ∨
      ∃ p : Fin 16, x.port = some p ∧
        ∃ o, (t, o) ∈ s.ports[p].queues.release ∨ s.ports[p].line = some (.release t o)) ∧
    ∀ t : Tag, freeTag s e x = some t ↔ tagHeld s e x t = false ∧
      ∀ k : Nat, k < (t - x.nextTag).toNat → tagHeld s e x (x.nextTag + BitVec.ofNat 8 k) = true) ∧
  (∀ (e h n : Nat) (x : Entry) (b : Batch) (p : Fin 16) (t : Tag) (s : State), TablesOk s →
    s.entries.get e = some x → x.bound = some h → s.batches.get h = some b → x.port = some p →
    grantReady s e = true → s.sheets.firstFree 384 = some n → freeTag s e x = some t →
    ∃ u : State, rejudge e s = u ∧ tagHeld s e x t = false ∧
      u = { s with
        entries := u.entries, batches := u.batches, sheets := u.sheets, ports := u.ports, attention := u.attention
        lastAlloc := e, waiting := s.waiting.filter fun j => decide (j ≠ e) } ∧
      u.sheets.get n = some { batch := h, station := e, tag := t, state := .picking, seq := none } ∧
      (∀ m, m ≠ n → u.sheets.get m = s.sheets.get m) ∧
      u.entries.get e = some { x with nextTag := t + 1, liveCount := x.liveCount + 1, traySeenEmpty := false } ∧
      (∀ j, j ≠ e → u.entries.get j = s.entries.get j) ∧
      (∃ c, u.batches.get h = some c ∧ c = { b with picking := b.picking + 1, pauses := c.pauses } ∧
        c.pauses.host = b.pauses.host ∧
        (c.pauses.checkpoint = true ↔ ∃ v, b.target = some v ∧ v ≤ b.nextSeq - 1 + (b.picking + 1)) ∧
        (c.pauses.suspectLimit = true ↔ b.suspectLimit ≠ 0 ∧ b.suspectLimit ≤ b.openSuspects) ∧
        (c.pauses.countReached = true ↔ ∃ v, b.expected = some v ∧ v ≤ b.fed + (b.picking + 1)) ∧
        (c.pauses.sequenceEnd = true ↔ b.pauses.sequenceEnd = true ∨ 65535 < b.nextSeq + (b.picking + 1)) ∧
        (c.pauses.countReached = true → u.attention = (raise .countReached h s).attention) ∧
        (c.pauses.countReached = false → u.attention = s.attention)) ∧
      (∀ j, j ≠ h → u.batches.get j = s.batches.get j) ∧
      u.ports[p] = { s.ports[p] with queues := { s.ports[p].queues with grant := some t } } ∧
      ∀ q : Fin 16, q ≠ p → u.ports[q] = s.ports[q]) ∧
  (∀ (e : Nat) (s : State),
    (grantReady s e = false → rejudge e s = s) ∧
    (grantReady s e = true → s.sheets.firstFree 384 = none →
      (e ∈ s.waiting → rejudge e s = s) ∧ (e ∉ s.waiting → rejudge e s = { s with waiting := s.waiting ++ [e] }))) ∧
  (∀ (s : State) (i e n : Nat), i < 24 → e = (s.lastAlloc + 1 + i) % 24 → s.sheets.firstFree 384 = some n →
    e ∈ s.waiting → grantReady s e = true →
    (∀ j < i, (s.lastAlloc + 1 + j) % 24 ∈ s.waiting → grantReady s ((s.lastAlloc + 1 + j) % 24) = false) →
    ∃ u : State, offerSlot s = rejudge e u ∧ grantReady u e = true ∧
      u = { s with waiting := s.waiting.filter fun k => decide (∀ j < i, k ≠ (s.lastAlloc + 1 + j) % 24) }) ∧
  ∀ s : State, (∀ e ∈ s.waiting, e < 24 ∧ grantReady s e = false) → offerSlot s = { s with waiting := [] }

/-! Class and plan tables (chapters 6 and 8) -/

/-- READ_CLASS lists the entries from a start index through 63, and READ_PLAN reports the plan with its three figures of use
(R108, R128). -/
def Obligations.ReadClassAndReadPlan : Prop :=
  (∀ (n : Nat) (s : State), Takes s →
      (64 ≤ n → Refuses (.readClass (.given n)) 0x40 .notFound s) ∧
      (n < 64 → ∃ l : List (Nat × ClassEntry),
        Replies (.readClass (.given n)) 0x40 (.classes l) s s ∧ l.map Prod.fst = (List.range 64).drop n ∧
        ∀ i : Fin 64, n ≤ i.val → (i.val, s.classes[i]) ∈ l)) ∧
  ∀ s : State, Takes s →
    (∀ n, 16 ≤ n → Refuses (.readPlan (.given n)) 0x42 .notFound s) ∧
    ∀ n : Fin 16, Replies (.readPlan (.given n.val)) 0x42
      (.plan s.plans[n].body
        (s.batches.filter fun p => decide (p.2.state = .open ∨ p.2.state = .closing) && decide (p.2.plan = n.val)).length
        (s.batches.filter fun p => decide (p.2.pendingAmend.bind (·.plan) = some n.val)).length
        s.plans[n].captures) s s

/-- SET_CLASS and SET_PLAN replace an entry; a plan in use is not replaced. A class kind is one of four codes; a plan's name is
at most 8 characters of codes 32–126; and its eight rows name lanes 0–3, a copy lane that is not the primary one, a fallback
lane that is neither, and nothing beside a primary lane of NONE (R109, R128, R129, 11.2). That SET_CLASS's reply carries the
entry's index beside it is log 20. -/
def Obligations.SetClassAndSetPlan : Prop :=
  ((∀ n k, kindOfCode n = some k ↔ (n = 1 ∧ k = .document) ∨ (n = 2 ∧ k = .separator) ∨ (n = 3 ∧ k = .batchEnd) ∨
      (n = 4 ∧ k = .checkpointMark)) ∧
    (∀ l : Text, nameOk 8 l = true ↔ l.length ≤ 8 ∧ ∀ c ∈ l, 32 ≤ c.toNat ∧ c.toNat ≤ 126) ∧
    (∀ (l : List RowArgs) (v : Vector Row 8), rowsOf l = some v ↔ l.length = 8 ∧ ∀ i : Fin 8, ∃ a, l[i.val]? = some a ∧
      a.primary = v[i].primary.map (·.val) ∧ a.copy = v[i].copy.map (·.val) ∧ a.fallback = v[i].fallback.map (·.val) ∧
      a.secure = v[i].secure ∧
      (a.primary = none → a.copy = none ∧ a.fallback = none ∧ a.secure = false) ∧
      ∀ m, a.primary = some m → a.copy ≠ some m ∧ a.fallback ≠ some m ∧ (a.fallback = none ∨ a.fallback ≠ a.copy)) ∧
    ∀ (s : State) (n : Nat),
      planUsers s n = (s.batches.filter fun p =>
        decide (p.2.state = .open ∨ p.2.state = .closing) && decide (p.2.plan = n)).length ∧
      planAmenders s n = (s.batches.filter fun p => decide (p.2.pendingAmend.bind (·.plan) = some n)).length) ∧
  (∀ (a : ClassArgs) (s : State), Takes s →
    (kindOfCode a.kind = none ∨ 7 < a.category → Refuses (.setClass (.given a)) 0x41 .badValue s) ∧
    ∀ k, kindOfCode a.kind = some k → a.category ≤ 7 →
      (64 ≤ a.index → Refuses (.setClass (.given a)) 0x41 .notFound s) ∧
      ∀ h : a.index < 64, Replies (.setClass (.given a)) 0x41
        (.classes [(a.index, { kind := k, category := a.category, exempt := a.exempt })]) s
        { s with classes := s.classes.set a.index { kind := k, category := a.category, exempt := a.exempt } }) ∧
  (∀ (a : PlanArgs) (s : State), Takes s →
    (nameOk 8 a.name = false ∨ rowsOf a.rows = none → Refuses (.setPlan (.given a)) 0x43 .badValue s) ∧
    ∀ rows, nameOk 8 a.name = true → rowsOf a.rows = some rows →
      (16 ≤ a.plan → Refuses (.setPlan (.given a)) 0x43 .notFound s) ∧
      ∀ h : a.plan < 16,
        (0 < planUsers s a.plan ∨ 0 < planAmenders s a.plan ∨ 0 < s.plans[a.plan].captures →
          Refuses (.setPlan (.given a)) 0x43 .inUse s) ∧
        (planUsers s a.plan = 0 → planAmenders s a.plan = 0 → s.plans[a.plan].captures = 0 →
          Replies (.setPlan (.given a)) 0x43 .empty s
            { s with plans := s.plans.set a.plan { body := { name := a.name, rows := rows }, captures := 0 } }))

/-! Lanes (chapter 9) -/

/-- READ_LANE, with the gate as it stands and the upload the lane transmits, and SET_LANE, whose values lie in their ranges;
SUSPEND_LANE, RESUME_LANE, LOOPBACK_LANE and RESET_LANE by lane state. A SUSPEND_LANE that finds the window empty suspends the
lane at once and changes nothing else of it, but that from LOOPBACK, where the line was not watched, its silence timer starts
and its malformed count is 0 (R145, R146, R154, R155, R157). That the suspend-pending flag is clear on entry to SUSPENDED is
log 15, that the OK of a SUSPEND_LANE in SUSPENDED carries the state log 29, and that LOOPBACK_LANE leaves the word on the line
and the waiting ABANDON words log 14. -/
def Obligations.LaneRequestsFollowTheLaneState : Prop :=
  ((∀ a : LaneArgs, laneArgsOk a = true ↔
      (a.window ≠ none ∨ a.high ≠ none ∨ a.low ≠ none ∨ a.silence ≠ none ∨ a.ack ≠ none ∨ a.secure ≠ none) ∧
      (∀ v, a.window = some v → 1 ≤ v ∧ v ≤ 32) ∧ (∀ v, a.high = some v → 1 ≤ v ∧ v ≤ 32) ∧
      (∀ v, a.low = some v → v ≤ 32) ∧ (∀ v, a.silence = some v → 5 ≤ v ∧ v ≤ 100) ∧
      (∀ v, a.ack = some v → 100 ≤ v ∧ v ≤ 60000) ∧ ∀ v, a.secure = some v → 1 ≤ v ∧ v ≤ 600) ∧
    (∀ x : Lane, x.gateOpen = true ↔
      ((x.state = .up ∧ x.refusing = false ∧ x.view ≠ some .busy) ∨ x.state = .loopback) ∧ x.suspendPending = false ∧
      x.window.length < x.params.window) ∧
    ∀ (s : State) (l : Fin 4), (laneUpload s l = none ↔ ∀ u ∈ s.uploads, ∀ d ∈ u.2.dests, d.1 ≠ l) ∧
      ∀ q, laneUpload s l = some q → ∃ u ∈ s.uploads, (∃ d ∈ u.2.dests, d.1 = l) ∧ q = (u.2.slot, u.2.side)) ∧
  ((∀ (n : Nat) (s : State), Takes s →
    (4 ≤ n → Refuses (.readLane (.given n)) 0x50 .notFound s) ∧
    ∀ l : Fin 4, Replies (.readLane (.given l.val)) 0x50
      (.lane s.lanes[l] s.lanes[l].gateOpen (laneUpload s l)) s s) ∧
  (∀ (a : LaneArgs) (s : State), Takes s →
    (laneArgsOk a = false → Refuses (.setLane (.given a)) 0x51 .badValue s) ∧
    (laneArgsOk a = true → 4 ≤ a.lane → Refuses (.setLane (.given a)) 0x51 .notFound s) ∧
    ∀ l : Fin 4, laneArgsOk a = true → a.lane = l.val →
      (s.lanes[l].state = .up ∨
        (s.lanes[l].state = .loopback ∧ ∃ w, a.window = some w ∧ w < s.lanes[l].window.length) →
        Refuses (.setLane (.given a)) 0x51 .wrongState s) ∧
      (s.lanes[l].state ≠ .up →
        (s.lanes[l].state = .loopback → ∀ w, a.window = some w → s.lanes[l].window.length ≤ w) → ∀ q : LaneParams,
        q = { window := a.window.getD s.lanes[l].params.window, high := a.high.getD s.lanes[l].params.high
              low := a.low.getD s.lanes[l].params.low, silence := a.silence.getD s.lanes[l].params.silence
              ack := a.ack.getD s.lanes[l].params.ack, secure := a.secure.getD s.lanes[l].params.secure } →
        Replies (.setLane (.given a)) 0x51 (.laneParams q) s (arbitrate (modLane l (fun x => { x with params := q }) s))))) ∧
  ((∀ (n : Nat) (s : State), Takes s → 4 ≤ n →
    Refuses (.suspendLane (.given n)) 0x52 .notFound s ∧ Refuses (.resumeLane (.given n)) 0x53 .notFound s ∧
    Refuses (.loopbackLane (.given n)) 0x54 .notFound s ∧ Refuses (.resetLane (.given n)) 0x55 .notFound s) ∧
  ∀ (l : Fin 4) (s : State), Takes s →
    (s.lanes[l].state = .up ∨ s.lanes[l].state = .loopback →
      (s.lanes[l].window ≠ [] → Replies (.suspendLane (.given l.val)) 0x52 (.laneState s.lanes[l].state) s
        (modLane l (fun x => { x with suspendPending := true }) s)) ∧
      (s.lanes[l].window = [] → ∃ t, Replies (.suspendLane (.given l.val)) 0x52 (.laneState .suspended) s t ∧
        (s.lanes[l].state = .up →
          t.lanes[l] = { s.lanes[l] with state := .suspended, suspendPending := false }) ∧
        (s.lanes[l].state = .loopback → t.lanes[l] = { s.lanes[l] with
          state := .suspended, suspendPending := false, silence := some s.lanes[l].params.silence, malformed := 0 }) ∧
        t = { s with lanes := t.lanes } ∧ ∀ m : Fin 4, m ≠ l → t.lanes[m] = s.lanes[m])) ∧
    (s.lanes[l].state = .suspended →
      Replies (.suspendLane (.given l.val)) 0x52 (.laneState .suspended) s s ∧
      Replies (.resumeLane (.given l.val)) 0x53 (.laneState .up) s
        (arbitrate (modLane l (fun x => { x with state := .up }) s)) ∧
      Replies (.loopbackLane (.given l.val)) 0x54 .empty s
        (arbitrate (modLane l (fun x => { x with state := .loopback, silence := none, malformed := 0 }) s))) ∧
    (s.lanes[l].state = .up ∨ s.lanes[l].state = .loopback → s.lanes[l].suspendPending = true →
      Replies (.resumeLane (.given l.val)) 0x53 (.laneState s.lanes[l].state) s
        (arbitrate (modLane l (fun x => { x with suspendPending := false }) s))) ∧
    (s.lanes[l].state = .up ∨ s.lanes[l].state = .loopback → s.lanes[l].suspendPending = false →
      Refuses (.resumeLane (.given l.val)) 0x53 .wrongState s) ∧
    (s.lanes[l].state ≠ .suspended → Refuses (.loopbackLane (.given l.val)) 0x54 .wrongState s) ∧
    (s.lanes[l].state = .down ∨ s.lanes[l].state = .aligning ∨ s.lanes[l].state = .failed →
      Refuses (.suspendLane (.given l.val)) 0x52 .wrongState s ∧ Refuses (.resumeLane (.given l.val)) 0x53 .wrongState s) ∧
    ∃ t, Replies (.resetLane (.given l.val)) 0x55 (.laneState s.lanes[l].state) s t ∧
      t.lanes[l].state = .down ∧ t.lanes[l].window = [] ∧ t.lanes[l].fifo = [] ∧ t.lanes[l].ctrl = [] ∧
      t.lanes[l].view = none ∧ t.lanes[l].counters = s.lanes[l].counters)

/-! What the shared judgments and the arbiter leave alone -/

/-- The judgments that end an event are those of its batches, then the grant decisions of its stations and of the stations
those batches were bound to, once each in the round of R33 from the index after the start; they change only entries, batches,
sheets, the arbiter's waiting set and last-served index, port queues and the attention set; the upload arbiter changes only
sheets, lanes, uploads, its last-served index and port queues (R33, R80, R133–R135). That the batches come before the stations
is log 8. -/
def Obligations.JudgmentsAndArbiterFrame : Prop :=
  (∀ (es : List Nat) (start : Nat) (s : State), rejudgeAll es start s =
    (((List.range 24).map fun i => (start + 1 + i) % 24).filter fun e => decide (e ∈ es)).foldl (fun t e => rejudge e t) s) ∧
  (∀ (s : State) (e h : Nat),
    (h ∈ stationBatches s e ↔ ∃ x, s.entries.get e = some x ∧
      (x.bound = some h ∨ ∃ c ∈ x.path, ∃ r, s.sheets.get c.slot = some r ∧ r.batch = h)) ∧
    (h ∈ pickingBatches s e ↔ ∃ n r, pickingOf s e = some (n, r) ∧ r.batch = h)) ∧
  (∀ (hs es : List Nat) (start : Nat) (s : State), ∃ l : List Nat,
    (∀ e, e ∈ l ↔ e < 24 ∧ (e ∈ es ∨ ∃ h ∈ hs, ∃ b, s.batches.get h = some b ∧ b.bound = some e)) ∧
    l.Sublist ((List.range 24).map fun i => (start + 1 + i) % 24) ∧
    settle hs es start s = l.foldl (fun t e => rejudge e t) (hs.foldl (fun t h => judgeBatch h t) s)) ∧
  (∀ (hs es : List Nat) (start : Nat) (s t : State), settle hs es start s = t →
    t = { s with
      entries := t.entries, batches := t.batches, sheets := t.sheets, waiting := t.waiting, lastAlloc := t.lastAlloc
      ports := t.ports, attention := t.attention } ∧
    ∀ p : Fin 16, t.ports[p] = { s.ports[p] with queues := t.ports[p].queues }) ∧
  (∀ s t : State, arbitrate s = t →
    t = { s with
      sheets := t.sheets, lanes := t.lanes, uploads := t.uploads, lastUpload := t.lastUpload, ports := t.ports } ∧
    ∀ p : Fin 16, t.ports[p] = { s.ports[p] with queues := t.ports[p].queues })

/-! Feed links (chapters 3 and 11) -/

/-- A well-formed word on a port does nothing in DOWN, restarts the silence timer and clears the malformed count, and as the
eighth in ALIGNING moves the port to QUERYING with QUERY queued; line activity, malformed words, silence and the query timer on
a port. A port that goes to DOWN is left in its reset state: from UP it detaches its entry, with all that a detach leaves, and
from QUERYING it passes on its reservation, or the re-query of an ID whose entry is still absent (R49, R50, R53, R54, R89,
R142). That the silence timer starts at entry to ALIGNING is log 16, that an expiry acts whenever its timer runs log 3, that
the expiry of a stopped timer does nothing log 4, and that the RELEASE word on the line is owed at a detach log 13. -/
def Obligations.PortEventsFollowTheLink : Prop :=
  (∀ s : State, timeWord s = .time (s.clock.setWidth 16)) ∧
  (∀ (p : Fin 16) (s : State), Runs s →
    (s.ports[p].link = .down → Leaves (.fill p) s s) ∧
    (s.ports[p].link = .aligning → s.ports[p].align < 7 → Leaves (.fill p) s
      (modPort p (fun x => { x with align := x.align + 1, silence := some s.room.silence, malformed := 0 }) s)) ∧
    (s.ports[p].link = .aligning → 7 ≤ s.ports[p].align → Leaves (.fill p) s (modPort p (fun x =>
      { x with
        link := .querying, align := 0, silence := some s.room.silence, malformed := 0, queryTimer := none, kept := none
        requeriedFor := none, queues := { x.queues with query := true } }) s)) ∧
    (s.ports[p].link = .querying ∨ s.ports[p].link = .up ∨ s.ports[p].link = .unlisted → Leaves (.fill p) s
      (modPort p (fun x => { x with silence := some s.room.silence, malformed := 0 }) s))) ∧
  (∀ (p : Fin 16) (s : State), Runs s →
    (s.ports[p].link = .down → Leaves (.portLineActivity p) s (modPort p (fun x =>
      { x with link := .aligning, align := 0, silence := some s.room.silence, line := some (timeWord s) }) s)) ∧
    (s.ports[p].link ≠ .down → Leaves (.portLineActivity p) s s) ∧
    (s.ports[p].link = .down → Leaves (.malformedWord p) s s) ∧
    (s.ports[p].link = .aligning → Leaves (.malformedWord p) s
      (modPort p (fun x => { x with align := 0, silence := some s.room.silence }) s)) ∧
    (s.ports[p].link ≠ .down → s.ports[p].link ≠ .aligning →
      (s.ports[p].malformed < 7 → Leaves (.malformedWord p) s
        (modPort p (fun x => { x with malformed := x.malformed + 1, silence := some s.room.silence }) s)) ∧
      (7 ≤ s.ports[p].malformed → Leaves (.malformedWord p) s (portDown p s))) ∧
    (s.ports[p].silence.isSome = true → Leaves (.stationSilenceTimeout p) s (portDown p s)) ∧
    (s.ports[p].silence = none → Leaves (.stationSilenceTimeout p) s s) ∧
    (s.ports[p].link = .querying → s.ports[p].queryTimer.isSome = true → Leaves (.queryTimerExpiry p) s
      (modPort p (fun x => { x with queryTimer := none, queues := { x.queues with query := true } }) s)) ∧
    (s.ports[p].link ≠ .querying ∨ s.ports[p].queryTimer = none → Leaves (.queryTimerExpiry p) s s)) ∧
  (∀ (p : Fin 16) (e : Nat) (x : Entry) (s : State), TablesOk s → (∀ n ∈ s.sheets, n.2.batch < 48) →
    (∀ a ∈ s.attention, a.2 < 256) → AttachedTo s p e → s.entries.get e = some x → (x.path.map (·.slot)).Nodup →
    DetachLeaves p e x s (portDown p s)) ∧
  ∀ (p : Fin 16) (s u : State), u = modPort p (fun _ => {}) s →
    (s.ports[p].link = .down → portDown p s = s) ∧
    (s.ports[p].link = .aligning ∨ s.ports[p].link = .unlisted → portDown p s = u) ∧
    ∀ queried : Option StationId → Port → Port,
      (∀ f y, queried f y = { y with
        link := .querying, align := 0, queryTimer := none, kept := none, requeriedFor := f
        queues := { y.queues with query := true } }) →
      (s.ports[p].link = .querying → s.ports[p].requeriedFor = none →
        ((∀ q ∈ s.reservations, q.2 ≠ p.val) → portDown p s = u) ∧
        ∀ i, reservedFor s p = some i →
          (lowestPort s Port.waitsFull = none → portDown p s = { u with reservations := s.reservations.del i }) ∧
          ∀ q, lowestPort s Port.waitsFull = some q →
            portDown p s = modPort q (queried none) { u with reservations := s.reservations.put i q.val }) ∧
      (s.ports[p].link = .querying → (∀ q ∈ s.reservations, q.2 ≠ p.val) → ∀ i, s.ports[p].requeriedFor = some i →
        ((∀ e x, findId s i = some (e, x) → x.port.isSome = true) → portDown p s = u) ∧
        ∀ e x, findId s i = some (e, x) → x.port = none →
          (lowestPort s (Port.waitsFor i) = none → portDown p s = u) ∧
          ∀ q, lowestPort s (Port.waitsFor i) = some q → portDown p s = modPort q (queried (some i)) u)

/-- A valid IDENT in QUERYING attaches a known absent station, or a new one in the entry reserved for the port or else the
lowest free unreserved one, or leaves the port UNLISTED. A new entry uses its reservation up; an attach to a known entry, or
DUPLICATE, releases it to the lowest FULL port, which is re-queried; and an IDENT with another ID than the one the port was
re-queried for has the lowest DUPLICATE port for that ID queried while its entry is absent. An attach queues HALT to a HALTED
or CLEARING entry and IDENTIFY on to one whose identify is on; under the same store epoch it queues the owed releases and
leaves the records, and under another it drops them and puts every live record in SUSPECT, ROUTING or FAULT in FAULT with
IMAGES_LOST and no images, SHEET_FAULT raised. In UP the same ID and epoch refresh the facts, and another ID or epoch detaches
the entry and is looked up afresh; an IDENT is valid with an ID that is no address of many and a capacity and geometry in
range, and an invalid one is a malformed word (R43, R43a, R51–R54, R58, R75). That the port then has its word cut off and TIME
on its line is log 13, and that the judgments of the detach are made before the look-up, and again at the attach, log 8. -/
def Obligations.IdentIsLookedUp : Prop :=
  (∀ w : Ident, Ident.valid w = true ↔ w.id.maker ≠ 65535 ∧ w.id.serial ≠ 4294967295 ∧
    4 ≤ w.facts.capacity ∧ w.facts.capacity ≤ 255 ∧ 20 ≤ w.facts.pickToGauge ∧ w.facts.pickToGauge ≤ 4000 ∧
    20 ≤ w.facts.gaugeToExit ∧ w.facts.gaugeToExit ≤ 8000 ∧ w.facts.divertLimit ≤ 8000) ∧
  (∀ (i : StationId) (s : State), (findId s i = none ↔ ∀ p ∈ s.entries, p.2.id ≠ i) ∧
    ∀ p, findId s i = some p → p ∈ s.entries ∧ p.2.id = i) ∧
  (∀ (p : Fin 16) (w : Ident) (s : State), Runs s → Ident.valid w = true → s.ports[p].link = .querying →
    Leaves (.ident p w) s (identify p w (counted p s))) ∧
  (∀ (g : Port → Bool) (p : Fin 16) (s : State),
    lowestPort s g = some p ↔ g s.ports[p] = true ∧ ∀ q : Fin 16, q < p → g s.ports[q] = false) ∧
  (∀ y : Port, (y.waitsFull = true ↔ y.link = .unlisted ∧ ∃ j, y.kept = some (j, .full)) ∧
    ∀ i, y.waitsFor i = true ↔ y.link = .unlisted ∧ y.kept = some (i, .duplicate)) ∧
  (∀ (p : Fin 16) (s : State),
    (∀ i, reservedFor s p = some i → (i, p.val) ∈ s.reservations ∧ availableEntry s p = some i) ∧
    (reservedFor s p = none → (∀ r ∈ s.reservations, r.2 ≠ p.val) ∧ ∀ i, availableEntry s p = some i ↔
      i < 24 ∧ s.entries.get i = none ∧ s.reservations.get i = none ∧
      ∀ j < i, s.entries.get j ≠ none ∨ s.reservations.get j ≠ none)) ∧
  (∀ (p : Fin 16) (w : Ident) (s : State), Runs s → TablesOk s → Ident.valid w = true → s.ports[p].link = .querying →
    ∃ t, Leaves (.ident p w) s t ∧
      (findId s w.id = none →
        (∀ i, availableEntry s p = some i → t.reservations = s.reservations.del i) ∧
        (availableEntry s p = none → t.reservations = s.reservations)) ∧
      ((findId s w.id).isSome = true →
        (reservedFor s p = none → t.reservations = s.reservations) ∧
        ∀ i, reservedFor s p = some i →
          (lowestPort s Port.waitsFull = none → t.reservations = s.reservations.del i) ∧
          ∀ q, lowestPort s Port.waitsFull = some q → t.reservations = s.reservations.put i q.val ∧
            t.ports[q].link = .querying ∧ t.ports[q].queues.query = true) ∧
      (ReservedFree s → ∀ j k z q, s.ports[p].requeriedFor = some j → w.id ≠ j → findId s j = some (k, z) → z.port = none →
        lowestPort s (Port.waitsFor j) = some q →
        t.ports[q].link = .querying ∧ t.ports[q].queues.query = true ∧ t.ports[q].requeriedFor = some j)) ∧
  ∀ (p : Fin 16) (w : Ident) (s : State), Runs s → TablesOk s → (∀ a ∈ s.attention, a.2 < 256) →
    (Ident.valid w = false → exec (.ident p w) s = exec (.malformedWord p) s) ∧
    (Ident.valid w = true → s.ports[p].link = .querying → findId s w.id = none →
      (∀ i, availableEntry s p = some i → ∃ t x, Leaves (.ident p w) s t ∧ AttachedTo t p i ∧
        t.entries.get i = some x ∧ x.id = w.id ∧ x.name = [] ∧ x.port = some p ∧ x.facts = some w.facts ∧
        x.epoch = some w.epoch ∧ x.feed = .idle ∧ x.bound = none ∧
        (AttnKind.stationNew ∉ s.room.mask → (.stationNew, i) ∈ t.attention)) ∧
      (availableEntry s p = none → ∃ t, Leaves (.ident p w) s t ∧ t.ports[p].link = .unlisted ∧
        t.ports[p].kept = some (w.id, .full) ∧ t.entries = s.entries ∧
        (AttnKind.directoryFull ∉ s.room.mask → (.directoryFull, p.val) ∈ t.attention))) ∧
    (Ident.valid w = true → s.ports[p].link = .querying → ∀ e x, findId s w.id = some (e, x) →
      (x.port = none → ∃ t y, Leaves (.ident p w) s t ∧ AttachedTo t p e ∧ t.entries.get e = some y ∧ y.id = x.id ∧
        y.name = x.name ∧ y.port = some p ∧ y.facts = some w.facts ∧ y.epoch = some w.epoch ∧ y.owed = [] ∧
        (x.epoch = some w.epoch → t.ports[p].queues.release = x.owed) ∧
        (x.epoch ≠ some w.epoch → t.ports[p].queues.release = []) ∧
        (t.ports[p].queues.halt = true ↔ x.feed = .halted ∨ x.feed = .clearing) ∧
        t.ports[p].queues.identify = (if x.identify then some true else none) ∧ t.ports[p].lastCall = false ∧
        (x.epoch = none ∨ x.epoch = some w.epoch → ∀ n r, s.sheets.get n = some r →
          ∃ q, t.sheets.get n = some q ∧ q = { r with deliveries := q.deliveries }) ∧
        ∀ o, x.epoch = some o → o ≠ w.epoch → ∀ n r, s.sheets.get n = some r → r.station = e →
          r.state = .suspect ∨ r.state = .routing ∨ r.state = .fault →
          (∃ q, t.sheets.get n = some q ∧ q.state = .fault ∧ q.fault = some .imagesLost ∧ q.images = none) ∧
          ((∀ m ∈ s.sheets, m.2.batch < 48) → r.fault ≠ some .imagesLost → AttnKind.sheetFault ∉ s.room.mask →
            (.sheetFault, r.batch) ∈ t.attention)) ∧
      (x.port ≠ none → ∃ t, Leaves (.ident p w) s t ∧ t.ports[p].link = .unlisted ∧
        t.ports[p].kept = some (w.id, .duplicate) ∧ t.entries = s.entries ∧
        (AttnKind.duplicateId ∉ s.room.mask → (.duplicateId, p.val) ∈ t.attention))) ∧
    (Ident.valid w = true → ∀ e x, AttachedTo s p e → s.entries.get e = some x →
      (x.id = w.id → x.epoch = some w.epoch → ∃ t y, Leaves (.ident p w) s t ∧ AttachedTo t p e ∧
        t.entries.get e = some y ∧ y.facts = some w.facts ∧ y.id = x.id ∧ y.epoch = x.epoch ∧ y.feed = x.feed) ∧
      (x.id ≠ w.id ∨ x.epoch ≠ some w.epoch → Leaves (.ident p w) s
        (identify p w (modPort p (fun _ =>
          { link := .querying, silence := some s.room.silence, line := some (timeWord s) })
          (portDown p (counted p s)))))) ∧
    (Ident.valid w = true → s.ports[p].link = .down ∨ s.ports[p].link = .aligning ∨ s.ports[p].link = .unlisted →
      exec (.ident p w) s = exec (.fill p) s)

/-- In UP each word reaches its owner, after it has been counted; in any other state it is counted only (R56). A BLOCK of
another length is a malformed word (R172; as a command, log 19). -/
def Obligations.WordsReachTheirOwnersInUp : Prop :=
  (∀ (p : Fin 16) (s : State), (Runs s → Leaves (.fill p) s (counted p s)) ∧
    (s.ports[p].link = .up →
      counted p s = modPort p (fun x => { x with silence := some s.room.silence, malformed := 0 }) s)) ∧
  ∀ (p : Fin 16) (s : State), Runs s →
    (∀ e, AttachedTo s p e →
      (∀ w, Leaves (.status p w) s (statusTaken p w e (counted p s))) ∧
      (∀ t k q, Leaves (.edge p t k q) s (edgeTaken t k q e (counted p s))) ∧
      (∀ t v n, Leaves (.thick p t v n) s (reportTaken t (fun r => { r with thick := some (v, n) }) e (counted p s))) ∧
      (∀ t n, Leaves (.patch p t n) s (reportTaken t (fun r => { r with pattern := some n }) e (counted p s))) ∧
      (∀ t n, Leaves (.ready p t n) s (readyTaken t n e (counted p s))) ∧
      (∀ t d n, Leaves (.imageStart p t d n) s (imageStartTaken t d n e (counted p s))) ∧
      (∀ d : List Byte, d.length = 1024 → Leaves (.block p d) s (blockTaken d e (counted p s))) ∧
      (∀ k, Leaves (.imageEnd p k) s (imageEndTaken k e (counted p s)))) ∧
    (s.ports[p].link ≠ .up → ∀ t k q v n d,
      (∀ w, Leaves (.status p w) s (counted p s)) ∧ Leaves (.edge p t k q) s (counted p s) ∧
      Leaves (.thick p t v n) s (counted p s) ∧ (∀ n, Leaves (.patch p t n) s (counted p s)) ∧
      (∀ n, Leaves (.ready p t n) s (counted p s)) ∧ (∀ n, Leaves (.imageStart p t d n) s (counted p s)) ∧
      (∀ l : List Byte, l.length = 1024 → Leaves (.block p l) s (counted p s)) ∧
      ∀ c, Leaves (.imageEnd p c) s (counted p s)) ∧
    ∀ l : List Byte, l.length ≠ 1024 → exec (.block p l) s = exec (.malformedWord p) s

/-- A word leaves a port that is not DOWN: the port takes the highest ranked waiting word, or TIME with the low 16 bits of the
clock; a GRANT's leaving starts the pick timer, suspended where the station stands still, an UPLOAD's the stall timer and a
QUERY's the query timer; the word taken leaves its queue, and nothing else of the queues changes but a GRANT that the
re-judgment issues, which runs for the attached station over a state that differs in the port's line, queues and query timer,
the entry's pick timer and the upload's stall timer alone; the ranks are HALT, DIVERT, FLOW, GRANT, RESUME, UPLOAD, RELEASE,
IDENTIFY, QUERY, and within one kind words leave in their order (R30, R49, R67, R80, R82, R139). That the stall timer starts in
either phase, but not in STOP, is log 31, and that a word whose like is queued again starts no timer log 13. -/
def Obligations.DownstreamWordLeavesThePort : Prop :=
  (∀ (p : Fin 16) (s : State), Runs s →
    (s.ports[p].link = .down → Leaves (.downstreamWordLeaves p) s s) ∧
    (s.ports[p].link ≠ .down → ∃ t u : State, Leaves (.downstreamWordLeaves p) s t ∧
      (∀ e, AttachedTo s p e → t = rejudge e u) ∧ ((∀ e, ¬ AttachedTo s p e) → t = u) ∧
      u = { s with ports := u.ports, entries := u.entries, uploads := u.uploads } ∧
      (∀ q : Fin 16, q ≠ p → u.ports[q] = s.ports[q]) ∧
      (∀ w q, s.ports[p].queues.next = some (w, q) → u.ports[p] = { s.ports[p] with
        line := some w, queues := q, queryTimer := u.ports[p].queryTimer }) ∧
      (s.ports[p].queues.next = none → u.ports[p] = { s.ports[p] with
        line := some (.time (s.clock.setWidth 16)), queryTimer := u.ports[p].queryTimer }) ∧
      u.ports[p].queryTimer = (if s.ports[p].link = .querying ∧ s.ports[p].line = some .query then some 50
        else s.ports[p].queryTimer) ∧
      (∀ j, s.ports[p].entry ≠ some j → u.entries.get j = s.entries.get j ∧ u.uploads.get j = s.uploads.get j) ∧
      (∀ e, s.ports[p].entry = some e →
        (∀ g n r x, s.ports[p].line = some (.grant g) → s.ports[p].queues.grant ≠ some g → pickingOf s e = some (n, r) →
          r.tag = g → s.entries.get e = some x → u.entries.get e = some { x with
            timer := if x.feed = .running ∨ x.feed = .ready then .running s.room.pickTimeout
              else .suspended s.room.pickTimeout }) ∧
        ((∀ g n r, s.ports[p].line = some (.grant g) → pickingOf s e = some (n, r) → r.tag = g →
          s.ports[p].queues.grant = some g) → u.entries = s.entries) ∧
        ∀ v, s.uploads.get e = some v → u.uploads.get e = some
          (if s.ports[p].line = some (.upload v.tag v.side) ∧ s.ports[p].queues.upload ≠ some (v.tag, v.side) ∧ v.go = true
            then { v with stall := .running 500 } else v)) ∧
      (∀ w q, s.ports[p].queues.next = some (w, q) → t.ports[p].line = some w ∧
        t.ports[p].queues = { q with grant := t.ports[p].queues.grant } ∧
        (t.ports[p].queues.grant = q.grant ∨ ∃ e, AttachedTo s p e ∧ pickingOf s e = none ∧ (pickingOf t e).isSome = true)) ∧
      (s.ports[p].queues.next = none → t.ports[p].line = some (.time (s.clock.setWidth 16)) ∧
        t.ports[p].queues = { s.ports[p].queues with grant := t.ports[p].queues.grant } ∧
        (t.ports[p].queues.grant = none ∨ ∃ e, AttachedTo s p e ∧ pickingOf s e = none ∧ (pickingOf t e).isSome = true)) ∧
      (s.ports[p].link = .querying → s.ports[p].line = some .query → t.ports[p].queryTimer = some 50) ∧
      ∀ e, AttachedTo s p e →
        (∀ g x n r, s.ports[p].line = some (.grant g) → s.ports[p].queues.grant ≠ some g → s.entries.get e = some x →
          pickingOf s e = some (n, r) → r.tag = g → ∃ y, t.entries.get e = some y ∧
          (x.feed = .running ∨ x.feed = .ready → y.timer = .running s.room.pickTimeout) ∧
          (x.feed ≠ .running → x.feed ≠ .ready → y.timer = .suspended s.room.pickTimeout)) ∧
        (∀ g d u, s.ports[p].line = some (.upload g d) → s.ports[p].queues.upload ≠ some (g, d) →
          s.uploads.get e = some u → u.tag = g → u.side = d → u.go = true →
          t.uploads.get e = some { u with stall := .running 500 }))) ∧
  (∀ q : Queues,
    (q.halt = true → q.next = some (.halt, { q with halt := false })) ∧
    (q.halt = false →
      (∀ t l, q.divert = t :: l → q.next = some (.divert t, { q with divert := l })) ∧
      (q.divert = [] →
        (∀ g, q.flow = some g → q.next = some (.flow g, { q with flow := none })) ∧
        (q.flow = none →
          (∀ t, q.grant = some t → q.next = some (.grant t, { q with grant := none })) ∧
          (q.grant = none →
            (q.resume = true → q.next = some (.resume, { q with resume := false })) ∧
            (q.resume = false →
              (∀ t d, q.upload = some (t, d) → q.next = some (.upload t d, { q with upload := none })) ∧
              (q.upload = none →
                (∀ t o l, q.release = (t, o) :: l → q.next = some (.release t o, { q with release := l })) ∧
                (q.release = [] →
                  (∀ b, q.identify = some b → q.next = some (.identify b, { q with identify := none })) ∧
                  (q.identify = none →
                    (q.query = true → q.next = some (.query, { q with query := false })) ∧
                    (q.query = false → q.next = none))))))))))

/-! The station's reports (chapters 4 to 6) -/

/-- A STATUS fills the view and the last position, keeps the call flag, and answers a new call; which puts the lamp out and
queues IDENTIFY off where identify is on; an empty tray with a grant out sets the tray-empty-seen flag. An open cover with
paper in the path or a grant out sends a moving station to CLEARING, with neither it halts nothing, and it sends a HALTED
station to CLEARING with its cause. A closed cover with a clear path ends clearing: each sheet of the path has CLEARED and is
SUSPECT out of the path, the new suspects are counted in their batches with SUSPECT_OPEN raised, their waiting DIVERT words are
withdrawn, a suspended pick timer runs again, and the station is READY or, unbound, IDLE (R65, R76, R78, R98, R103). -/
def Obligations.StatusFillsTheView : Prop :=
  ∀ (p : Fin 16) (e : Nat) (w : StatusWord) (s : State) (x : Entry), Runs s → AttachedTo s p e →
    s.entries.get e = some x → e < 24 → (∀ a ∈ s.attention, a.2 < 256) →
    ∃ t y, Leaves (.status p w) s t ∧ (∃ u : State, t = settle (stationBatches s e) [e] s.lastAlloc u ∧
        u = { s with
          entries := u.entries, batches := u.batches, sheets := u.sheets, ports := u.ports, attention := u.attention } ∧
        (∀ j, j ≠ e → u.entries.get j = s.entries.get j) ∧
        (x.feed ≠ .clearing ∨ w.view.coverOpen = true ∨ w.view.pathClear = false →
          u.sheets = s.sheets ∧ u.batches = s.batches)) ∧ t.entries.get e = some y ∧ y.view = some w.view ∧ y.lastPos = some w.position ∧
      t.ports[p].lastCall = w.call ∧
      (w.call = true → s.ports[p].lastCall = false → y.identify = false ∧
        (AttnKind.stationCall ∉ s.room.mask → (.stationCall, e) ∈ t.attention)) ∧
      (w.call = false ∨ s.ports[p].lastCall = true → y.identify = x.identify) ∧
      (w.call = true → s.ports[p].lastCall = false → x.identify = true → x.port = some p →
        t.ports[p].queues.identify = some false) ∧
      (w.call = false ∨ s.ports[p].lastCall = true ∨ x.identify = false →
        t.ports[p].queues.identify = s.ports[p].queues.identify) ∧
      ((pickingOf s e).isSome = true → y.traySeenEmpty = (x.traySeenEmpty || w.view.trayEmpty)) ∧
      (pickingOf s e = none → y.traySeenEmpty = true → x.traySeenEmpty = true) ∧
      (w.view.coverOpen = true → x.feed = .halted → y.feed = .clearing ∧ y.cause = x.cause) ∧
      (w.view.coverOpen = true → (x.feed = .running ∨ x.feed = .ready) → x.path = [] → pickingOf s e = none → ∃ u : State,
        t = settle (stationBatches s e) [e] s.lastAlloc u ∧ u.entries.get e = some { x with
          view := some w.view, lastPos := some w.position, identify := y.identify }) ∧
      (w.view.coverOpen = true → (x.feed = .running ∨ x.feed = .ready) →
        (x.path ≠ [] ∨ (pickingOf s e).isSome = true) → y.feed = .clearing ∧ y.cause = some .cover) ∧
      (w.view.coverOpen = false → w.view.pathClear = true → x.feed = .clearing →
        y.path = [] ∧ y.feed ≠ .clearing ∧ y.cause = none ∧
        ((∀ n ∈ s.sheets, n.2.batch < 48) → (x.path.map (·.slot)).Nodup → ∃ u : State,
          t = settle (stationBatches s e) [e] s.lastAlloc u ∧
          u = { s with
            entries := u.entries, batches := u.batches, sheets := u.sheets, ports := u.ports, attention := u.attention } ∧
          PathEmptied (fun v => { v with cleared := true }) x s u ∧
          (∀ h b c, s.batches.get h = some b → u.batches.get h = some c → c.picking = b.picking) ∧
          (∀ n r, s.sheets.get n = some r → ∃ q, u.sheets.get n = some q ∧ q.deliveries = r.deliveries ∧
            ((∀ c ∈ x.path, c.slot ≠ n) → q = r)) ∧
          (∃ z, u.entries.get e = some z ∧ z = { x with
            view := some w.view, lastPos := some w.position, path := [], lastGaugeTrail := none, cause := none
            feed := if x.bound.isSome then .ready else .idle, timer := x.timer.resume
            traySeenEmpty := z.traySeenEmpty, identify := z.identify }) ∧
          ∀ q : Fin 16, x.port = some q → ∀ g, g ∈ u.ports[q].queues.divert ↔
            g ∈ s.ports[q].queues.divert ∧ ∀ c ∈ x.path, ∀ r, s.sheets.get c.slot = some r → r.tag ≠ g))

/-- A PICK LEAD edge of the PICKING record gives it the batch's next sequence and a place at the tail of the path queue; next
sequence, fed and live rise by one, the pick timer stops, and a GRANT of its tag that still waits is withdrawn; behind a sheet
of class kind BATCH_END it is a new suspect with BEYOND_END, and otherwise it is IN_PATH (R10, R34, R66, R82, R84, R114). -/
def Obligations.PickLeadNumbersTheSheet : Prop :=
  ∀ (p : Fin 16) (e n : Nat) (pos : Pos) (s : State) (x : Entry) (r : Sheet) (b : Batch), Runs s → TablesOk s →
    AttachedTo s p e → s.entries.get e = some x → (x.feed = .running ∨ x.feed = .ready ∨ x.feed = .halted) →
    pickingOf s e = some (n, r) → s.batches.get r.batch = some b →
    ∃ t q y c, Leaves (.edge p r.tag .pickLead pos) s t ∧
      t.sheets.get n = some q ∧ q.seq = some b.nextSeq ∧ q.batch = r.batch ∧ q.station = e ∧ q.tag = r.tag ∧
      ((∃ d ∈ x.path, ∃ z a, s.sheets.get d.slot = some z ∧ z.cls = some (.batchEnd, a)) →
        q.state = .suspect ∧ q.evidence = { r.evidence with beyondEnd := true } ∧ c.openSuspects = b.openSuspects + 1) ∧
      ((∀ d ∈ x.path, ∀ z a, s.sheets.get d.slot = some z → z.cls ≠ some (.batchEnd, a)) →
        q.state = .inPath ∧ q.evidence = r.evidence ∧ c.openSuspects = b.openSuspects) ∧
      t.entries.get e = some y ∧ y.path = x.path ++ [{ slot := n, pickLead := pos }] ∧ y.misfeeds = 0 ∧
      y.timer = .stopped ∧ y.lastPos = some pos ∧
      t.batches.get r.batch = some c ∧ c.nextSeq = b.nextSeq + 1 ∧ c.fed = b.fed + 1 ∧ c.live = b.live + 1 ∧
      c.completed = b.completed ∧ c.discarded = b.discarded ∧ c.rescanned = b.rescanned ∧
      ∀ a : Fin 16, x.port = some a → (∀ j y, s.entries.get j = some y → y.port = some a → j = e) →
        t.ports[a].queues.grant ≠ some r.tag

/-- An EDGE is taken at its entry and jams are judged at its position. The travel from one position to another is their
difference modulo 65536, read as 0 from 32768 on. A PICK LEAD of the station's PICKING record withdraws a GRANT of its tag that
still waits, and any other is stray and changes nothing but the last position. An edge other than PICK LEAD finds the sheet
that its tag names in the path queue exactly where the sheet lacks it, the edges it follows have been seen, no sheet ahead
lacks it, and at GAUGE and EXIT LEAD the sheet ahead has cleared that sensor; each then marks its place: the GAUGE edges give
gap, length and the last gauge trail position, GAUGE TRAIL and EXIT LEAD form the verdict that is due, and EXIT TRAIL gives the
tray and takes the sheet out of the path, a CLEAR one to ROUTING and with tray REJECT to a STATION_FAULT halt, a SUSPECT one
with tray OUTPUT to PASSED and a SUSPECT_PASSED halt. An edge that finds none, or a length out of range, halts a moving station
with JAM (3.3 of the scope, R34, R66, R85–R88, R94, R95, R101, R102). That the edge is applied before the jam judgment is log
10, and that the halts come before a freed slot is offered log 8. -/
def Obligations.EdgesMarkTheirPlace : Prop :=
  (∀ (a b : Pos) (d : Nat), d = (b.toNat + 65536 - a.toNat) % 65536 → posDiff a b = if 32768 ≤ d then 0 else d) ∧
  (∀ (p : Fin 16) (e : Nat) (g : Tag) (k : EdgeKind) (pos : Pos) (s u : State) (x y : Entry), Runs s → AttachedTo s p e →
    s.entries.get e = some x → y = { x with lastPos := some pos } →
    u = takeEdge e g k pos y (modEntry e (fun x => { x with lastPos := some pos }) (counted p s)) →
    ∃ z, u.entries.get e = some z ∧ Leaves (.edge p g k pos) s
      (settle (stationBatches s e ++ pickingBatches s e) [e] s.lastAlloc (arbitrate (judgeJam e z u)))) ∧
  (∀ (e : Nat) (g : Tag) (x : Entry) (s : State) (c : Place), (x.path.map (·.slot)).Nodup → ∀ named : List Place → Prop,
    (∀ l, named l ↔ ∃ r m, findTagged s e g = some (c.slot, r) ∧ x.path = l ++ c :: m) →
    (edgeOwner s e x g .pickTrail = some c ↔ ∃ l, named l ∧ c.pickTrail = false ∧ ∀ d ∈ l, d.pickTrail = true) ∧
    (edgeOwner s e x g .gaugeLead = some c ↔ ∃ l, named l ∧ c.gaugeLead = none ∧ (∀ d ∈ l, d.gaugeLead.isSome = true) ∧
      ∀ d, l.getLast? = some d → d.gaugeTrail.isSome = true) ∧
    (edgeOwner s e x g .gaugeTrail = some c ↔ ∃ l, named l ∧ c.gaugeTrail = none ∧ c.gaugeLead.isSome = true ∧
      c.pickTrail = true ∧ ∀ d ∈ l, d.gaugeTrail.isSome = true) ∧
    (edgeOwner s e x g .exitLead = some c ↔ named [] ∧ c.exitLead = false ∧ c.gaugeLead.isSome = true) ∧
    ∀ a, edgeOwner s e x g (.exitTrail a) = some c ↔ named [] ∧ c.exitLead = true ∧ c.gaugeTrail.isSome = true) ∧
  ∀ (e : Nat) (g : Tag) (k : EdgeKind) (pos : Pos) (x : Entry) (s u : State), s.entries.get e = some x →
    takeEdge e g k pos x s = u →
    (x.feed = .idle ∨ x.feed = .clearing → u = s) ∧
    (k = .pickLead → (∀ n r, pickingOf s e = some (n, r) → r.tag ≠ g) → u = s) ∧
    (k = .pickLead → x.feed ≠ .idle → x.feed ≠ .clearing → ∀ n r, pickingOf s e = some (n, r) → r.tag = g →
      u = { s with
        entries := u.entries, batches := u.batches, sheets := u.sheets, ports := u.ports, attention := u.attention } ∧
      ∀ p : Fin 16, s.entries.get e = some x → (x.port = some p → u.ports[p] = { s.ports[p] with queues :=
          { s.ports[p].queues with
            grant := if s.ports[p].queues.grant = some g then none else s.ports[p].queues.grant } }) ∧
        (x.port ≠ some p → u.ports[p] = s.ports[p])) ∧
    (edgeOwner s e x g k = none → k ≠ .pickLead →
      (x.feed = .running ∨ x.feed = .ready → u = halt e .jam s) ∧ (x.feed = .halted → u = s)) ∧
    ∀ (c : Place) (r : Sheet), edgeOwner s e x g k = some c → s.sheets.get c.slot = some r → x.feed ≠ .idle →
      x.feed ≠ .clearing →
      ∀ marked : (Place → Place) → List Place, (∀ f, marked f = x.path.map fun d => if d.slot = c.slot then f d else d) →
      (k = .pickTrail → u = { s with entries := u.entries } ∧
        u.entries.get e = some { x with path := marked fun d => { d with pickTrail := true } }) ∧
      (k = .gaugeLead → u = { s with entries := u.entries, sheets := u.sheets } ∧
        u.entries.get e = some { x with path := marked fun d => { d with gaugeLead := some pos } } ∧
        u.sheets.get c.slot = some { r with gap := (x.lastGaugeTrail.map fun a => posDiff a pos).or r.gap }) ∧
      (∀ a, k = .gaugeTrail → c.gaugeLead = some a → posDiff a pos < 250 ∨ 5000 < posDiff a pos →
        (x.feed = .running ∨ x.feed = .ready → u = halt e .jam s) ∧ (x.feed = .halted → u = s)) ∧
      (∀ a, k = .gaugeTrail → c.gaugeLead = some a → 250 ≤ posDiff a pos → posDiff a pos ≤ 5000 → ∃ v : State,
        v = { s with entries := v.entries, sheets := v.sheets } ∧
        v.entries.get e = some
          { x with path := marked fun d => { d with gaugeTrail := some pos }, lastGaugeTrail := some pos } ∧
        v.sheets.get c.slot = some { r with length := some (posDiff a pos) } ∧
        (r.verdict = .pending → c.exitLead = true ∨ (r.thick.isSome = true ∧ r.pattern.isSome = true) →
          u = formVerdict e c.slot v) ∧
        (r.verdict ≠ .pending ∨ (c.exitLead = false ∧ (r.thick = none ∨ r.pattern = none)) → u = v)) ∧
      (k = .exitLead → ∃ v : State, v = { s with entries := v.entries } ∧
        v.entries.get e = some { x with path := marked fun d => { d with exitLead := true } } ∧
        (r.verdict = .pending → c.gaugeTrail.isSome = true → u = formVerdict e c.slot v) ∧
        (r.verdict ≠ .pending ∨ c.gaugeTrail = none → u = v)) ∧
      ∀ a, k = .exitTrail a → ∃ v : State,
        v = { s with entries := v.entries, sheets := v.sheets, ports := v.ports } ∧
        v.sheets.get c.slot = some { r with tray := some a } ∧
        (∀ l, l = x.path.filter (fun d => decide (d.slot ≠ c.slot)) → v.entries.get e = some
          { x with path := l, lastGaugeTrail := if l = [] then none else x.lastGaugeTrail }) ∧
        (∀ p : Fin 16, x.port = some p → v.ports[p].queues =
          { s.ports[p].queues with divert := s.ports[p].queues.divert.filter fun t => decide (t ≠ r.tag) }) ∧
        (r.state = .inPath → ∀ w, w = modSheet c.slot (fun r => { r with state := .routing }) v →
          (a = .output → u = completeIfDone c.slot (buildEntries c.slot w)) ∧
          (a = .reject → u = completeIfDone c.slot (buildEntries c.slot (halt e .stationFault w)))) ∧
        (r.state = .suspect → (a = .reject → u = v) ∧
          (a = .output → u = halt e .suspectPassed
            (modSheet c.slot (fun r => { r with evidence := { r.evidence with passed := true } }) v)))

/-- A sheet jams beyond pick-to-gauge plus the jam slack without its GAUGE LEAD, beyond 5000 plus the slack without its GAUGE
TRAIL, and beyond gauge-to-exit plus its length and the slack without its EXIT TRAIL; a STATUS that finds a jam, with a
direction other than REVERSE, halts a moving station with JAM, one that reports REVERSE with paper in the path halts it with
REVERSE and leaves the sheets their places, and one that reports neither leaves it as it is (R76, R77, R88). -/
def Obligations.JamsAndReverseMotionHalt : Prop :=
  (∀ (f : StationFacts) (q : Pos) (c : Place) (s : State),
    (c.gaugeLead = none → (placeJammed s f q c = true ↔ f.pickToGauge + s.room.jamSlack < posDiff c.pickLead q)) ∧
    (∀ a, c.gaugeLead = some a → c.gaugeTrail = none →
      (placeJammed s f q c = true ↔ 5000 + s.room.jamSlack < posDiff a q)) ∧
    ∀ a b r n, c.gaugeLead = some a → c.gaugeTrail = some b → s.sheets.get c.slot = some r → r.length = some n →
      (placeJammed s f q c = true ↔ f.gaugeToExit + n + s.room.jamSlack < posDiff b q)) ∧
  (∀ (e : Nat) (x : Entry) (s : State), ∀ jams backs : Prop,
    (jams ↔ (x.feed = .running ∨ x.feed = .ready) ∧ (∀ v, x.view = some v → v.direction ≠ .reverse) ∧
      ∃ f q, x.facts = some f ∧ x.lastPos = some q ∧ ∃ c ∈ x.path, placeJammed s f q c = true) →
    (backs ↔ (x.feed = .running ∨ x.feed = .ready) ∧ x.path ≠ [] ∧ ∃ v, x.view = some v ∧ v.direction = .reverse) →
    (jams → judgeJam e x s = halt e .jam s) ∧ (¬ jams → judgeJam e x s = s) ∧
    (backs → judgeReverse e x s = halt e .reverse s) ∧ (¬ backs → judgeReverse e x s = s)) ∧
  ∀ (p : Fin 16) (e : Nat) (w : StatusWord) (s : State) (x : Entry), Runs s → AttachedTo s p e →
    s.entries.get e = some x → e < 24 → (∀ a ∈ s.attention, a.2 < 256) → (x.feed = .running ∨ x.feed = .ready) →
    w.view.coverOpen = false → ∃ u y, Leaves (.status p w) s (settle (stationBatches s e) [e] s.lastAlloc u) ∧
      u.entries.get e = some y ∧ y.path = x.path ∧
      (w.view.direction = .reverse → x.path ≠ [] → y.feed = .halted ∧ y.cause = some .reverse ∧
        (AttnKind.stationHalted ∉ s.room.mask → (.stationHalted, e) ∈ u.attention)) ∧
      (∀ f, w.view.direction ≠ .reverse → x.facts = some f → (∃ c ∈ x.path, placeJammed s f w.position c = true) →
        y.feed = .halted ∧ y.cause = some .jam ∧
        (AttnKind.stationHalted ∉ s.room.mask → (.stationHalted, e) ∈ u.attention)) ∧
      (∀ f, x.facts = some f → (∀ c ∈ x.path, placeJammed s f w.position c = false) →
        w.view.direction ≠ .reverse ∨ x.path = [] → y.feed = x.feed ∧ y.cause = x.cause)

/-- A THICK or PATCH is written into the pending record in its path, whose verdict is formed in that event where its three
inputs are then present; any other is counted only. It meets the live record of its entry and tag where that record stands in
the entry's path queue with its verdict pending and the entry is not in CLEARING (R36, R93, R94). -/
def Obligations.ReportsReachPendingRecords : Prop :=
  (∀ (e : Nat) (g : Tag) (s : State),
    (∀ n r, findTagged s e g = some (n, r) → (n, r) ∈ s.sheets ∧ r.station = e ∧ r.tag = g) ∧
    (findTagged s e g = none ↔ ∀ q ∈ s.sheets, q.2.station = e → q.2.tag ≠ g) ∧
    ∀ n r, reportTarget s e g = some (n, r) ↔ findTagged s e g = some (n, r) ∧ r.verdict = .pending ∧
      ∃ x, s.entries.get e = some x ∧ x.feed ≠ .clearing ∧ ∃ c ∈ x.path, c.slot = n) ∧
  ∀ (p : Fin 16) (e : Nat) (g : Tag) (s : State), Runs s → TablesOk s → AttachedTo s p e →
    (reportTarget s e g = none → ∀ v n m,
      Leaves (.thick p g v n) s (counted p s) ∧ Leaves (.patch p g m) s (counted p s)) ∧
    ∀ n r b, reportTarget s e g = some (n, r) → s.batches.get r.batch = some b →
      (∀ v lv, ∃ t q, Leaves (.thick p g v lv) s t ∧ t.sheets.get n = some q ∧ q.thick = some (v, lv) ∧
        q.pattern = r.pattern ∧ q.length = r.length ∧
        (q.verdict = .pending ↔ r.length = none ∨ r.pattern = none)) ∧
      (∀ m, ∃ t q, Leaves (.patch p g m) s t ∧ t.sheets.get n = some q ∧ q.pattern = some m ∧ q.thick = r.thick ∧
        q.length = r.length ∧ (q.verdict = .pending ↔ r.length = none ∨ r.thick = none)) ∧
      (r.length.isSome = true → ∀ v lv m,
        (r.pattern.isSome = true → Leaves (.thick p g v lv) s (settle (stationBatches s e) [e] s.lastAlloc
          (formVerdict e n (modSheet n (fun r => { r with thick := some (v, lv) }) (counted p s))))) ∧
        (r.thick.isSome = true → Leaves (.patch p g m) s (settle (stationBatches s e) [e] s.lastAlloc
          (formVerdict e n (modSheet n (fun r => { r with pattern := some m }) (counted p s))))))

/-- A formed verdict captures plan and policy, takes the pattern's class, enters the maskable members the policy admits, and
is SUSPECT exactly where system evidence stands or the members reach the agreement (R92, R96, R97). -/
def Obligations.VerdictFollowsThePolicy : Prop :=
  (∀ v : Evidence, (v.system = true ↔ v.cleared = true ∨ v.linkLost = true ∨ v.beyondEnd = true ∨ v.passed = true) ∧
    v.maskable = ([v.thickness, v.length, v.shortLength, v.shortGap].filter (· = true)).length) ∧
  ∀ (r : Sheet) (k : Captured) (classes : Vector ClassEntry 64), ∃ q : Sheet, r.judged k classes = q ∧
    q.captured = some k ∧ q.pattern = some (r.pattern.getD 0) ∧ q.thick = some (r.thick.getD (.unknown, 0)) ∧
    q.cls = some (classes[r.pattern.getD 0].kind, classes[r.pattern.getD 0].category) ∧
    (q.evidence.thickness = true ↔ k.policy.mask.thickness = true ∧ classes[r.pattern.getD 0].exempt = false ∧
      ((r.thick.getD (.unknown, 0)).1 = .multiple ∨
        ((r.thick.getD (.unknown, 0)).1 = .unknown ∧ k.policy.unknownCounts = true))) ∧
    (q.evidence.length = true ↔ k.policy.mask.length = true ∧
      ∃ n b, r.length = some n ∧ k.band = some b ∧ b.max < n) ∧
    (q.evidence.shortLength = true ↔ k.policy.mask.shortLength = true ∧
      ∃ n b, r.length = some n ∧ k.band = some b ∧ n < b.min) ∧
    (q.evidence.shortGap = true ↔ k.policy.mask.shortGap = true ∧ ∃ g, r.gap = some g ∧ g < k.minGap) ∧
    q.evidence.cleared = r.evidence.cleared ∧ q.evidence.linkLost = r.evidence.linkLost ∧
    q.evidence.beyondEnd = r.evidence.beyondEnd ∧ q.evidence.passed = r.evidence.passed ∧
    (q.verdict = .suspect ↔ r.evidence.system = true ∨
      (k.policy.agreement = .any ∧ 1 ≤ q.evidence.maskable) ∨ (k.policy.agreement = .two ∧ 2 ≤ q.evidence.maskable)) ∧
    (q.verdict = .clear ∨ q.verdict = .suspect) ∧ q.state = r.state ∧ q.length = r.length ∧ q.gap = r.gap

/-- What follows a verdict: the plan's captures rise; a SUSPECT verdict on a record in IN_PATH makes a new suspect, counted in
its batch with SUSPECT_OPEN raised; a suspect with a place in its path and no DIVERT ordered is disposed of by a halt under
STOP, and under DIVERT by the word, with the halt too where it is late; then its class kind acts: DOCUMENT begins or continues a
document, SEPARATOR ends it, BATCH_END closes an OPEN batch and gives BEYOND_END to the sheets behind, and CHECKPOINT_MARK sets
or lowers the target of an OPEN batch (R23, R96, R98–R100, R104, R110–R115, R120). -/
def Obligations.VerdictDisposesAndActs : Prop :=
  (∀ (e n : Nat) (r q : Sheet) (b : Batch) (k : ClassKind) (a : Nat) (s : State), s.sheets.get n = some r →
    s.batches.get r.batch = some b →
    q = r.judged { plan := b.plan, policy := b.policy, band := b.band, minGap := b.minGap } s.classes →
    q.cls = some (k, a) → ∃ u : State, u = { s with sheets := u.sheets, plans := u.plans } ∧ u.sheets.get n = some q ∧
      (∀ m, m ≠ n → u.sheets.get m = s.sheets.get m) ∧
      (∀ m : Fin 16, u.plans[m].body = s.plans[m].body ∧
        u.plans[m].captures = if m.val = b.plan then s.plans[m].captures + 1 else s.plans[m].captures) ∧
      (q.verdict = .suspect → r.state = .inPath → formVerdict e n s = actKind e n q k (dispose e n (newSuspect n u))) ∧
      (r.state = .suspect → formVerdict e n s = actKind e n q k (dispose e n u)) ∧
      (q.verdict = .clear → r.state ≠ .suspect → formVerdict e n s = actKind e n q k u)) ∧
  (∀ (n : Nat) (r : Sheet) (b : Batch) (s u : State), s.sheets.get n = some r → s.batches.get r.batch = some b →
    r.batch < 48 → (∀ a ∈ s.attention, a.2 < 256) → newSuspect n s = u →
    u = { s with sheets := u.sheets, batches := u.batches, attention := u.attention } ∧
    u.sheets.get n = some { r with state := .suspect } ∧ (∀ m, m ≠ n → u.sheets.get m = s.sheets.get m) ∧
    (∃ c, u.batches.get r.batch = some c ∧ c = { b with openSuspects := b.openSuspects + 1, pauses := c.pauses } ∧
      (b.state ≠ .closed → (c.pauses.suspectLimit = true ↔ b.suspectLimit ≠ 0 ∧ b.suspectLimit ≤ b.openSuspects + 1))) ∧
    (∀ h, h ≠ r.batch → u.batches.get h = s.batches.get h) ∧
    (AttnKind.suspectOpen ∉ s.room.mask → (.suspectOpen, r.batch) ∈ u.attention)) ∧
  (∀ (e n : Nat) (x : Entry) (r : Sheet) (s : State), s.entries.get e = some x → s.sheets.get n = some r →
    ((∀ d ∈ x.path, d.slot ≠ n) ∨ r.captured = none → dispose e n s = s) ∧
    ∀ c k, c ∈ x.path → c.slot = n → (∀ d ∈ x.path, d.slot = n → d = c) → r.captured = some k →
      (c.divertOrdered = true → dispose e n s = s) ∧
      (c.divertOrdered = false → k.policy.action = .stop → dispose e n s = halt e .suspect s) ∧
      (c.divertOrdered = false → k.policy.action = .divert → ∃ u : State, u = { s with entries := u.entries, ports := u.ports } ∧
        u.entries.get e = some
          { x with path := x.path.map fun d => if d.slot = n then { d with divertOrdered := true } else d } ∧
        (∀ p : Fin 16, x.port = some p →
          u.ports[p].queues = { s.ports[p].queues with divert := s.ports[p].queues.divert ++ [r.tag] }) ∧
        ∀ f g q, x.facts = some f → c.gaugeLead = some g → x.lastPos = some q →
          (f.gaugeToExit + f.divertLimit < posDiff g q → dispose e n s = halt e .suspect u) ∧
          (posDiff g q ≤ f.gaugeToExit + f.divertLimit → dispose e n s = u))) ∧
  (∀ (e n : Nat) (q : Sheet) (b : Batch) (s : State), s.batches.get q.batch = some b →
    (b.documentOpen = false → actKind e n q .document s = modSheet n (fun r => { r with document := some (b.documents + 1) })
      (modBatch q.batch (fun b => { b with documents := b.documents + 1, documentOpen := true }) s)) ∧
    (b.documentOpen = true → ∃ u, actKind e n q .document s =
      modSheet n (fun r => { r with document := some b.documents }) u ∧ u = { s with batches := u.batches } ∧
      ∀ h, u.batches.get h = s.batches.get h) ∧
    actKind e n q .separator s = modBatch q.batch (fun b => { b with documentOpen := false }) s ∧
    (∀ v, q.seq = some v → ∃ u, actKind e n q .checkpointMark s = u ∧ u = { s with batches := u.batches } ∧
      (∀ h, h ≠ q.batch → u.batches.get h = s.batches.get h) ∧
      (b.state = .open → b.target = none → u.batches.get q.batch = some { b with target := some v }) ∧
      (∀ t, b.state = .open → b.target = some t → u.batches.get q.batch = some { b with target := some (min t v) }) ∧
      (b.state ≠ .open → u.batches.get q.batch = some b)) ∧
    ∀ x l c m, s.entries.get e = some x → x.path = l ++ c :: m → c.slot = n → (∀ d ∈ l, d.slot ≠ n) → ∃ u : State,
      actKind e n q .batchEnd s = (m.map (·.slot)).foldl (gainBeyondEnd e) u ∧ u = { s with batches := u.batches } ∧
      (∀ h, h ≠ q.batch → u.batches.get h = s.batches.get h) ∧
      (b.state = .open → u.batches.get q.batch = some
        { b with state := .closing, target := none, pendingAmend := none, documentOpen := false
                 pauses := { b.pauses with checkpoint := false } }) ∧
      (b.state ≠ .open → u.batches.get q.batch = some { b with documentOpen := false })) ∧
  ∀ (e n : Nat) (r : Sheet) (s u : State), s.sheets.get n = some r →
    u = modSheet n (fun r => { r with evidence := { r.evidence with beyondEnd := true } }) s →
    (r.state = .inPath → r.verdict = .pending → gainBeyondEnd e s n = newSuspect n u) ∧
    (r.state = .inPath → r.verdict = .clear → gainBeyondEnd e s n = dispose e n (newSuspect n u)) ∧
    (r.state ≠ .inPath → gainBeyondEnd e s n = u)

/-- The pick timer's expiry frees the PICKING record with its slot, its tag and its waiting GRANT, clears the tray-empty-seen
flag, and counts a misfeed of station and batch unless the tray was seen empty; above the bound batch's retries it halts a
moving station with MISFEED; the freed slot is offered, and the judgments follow (R35, R83). That an expiry acts whenever its
timer runs is log 3, and that nothing happens with no timer running log 4. -/
def Obligations.PickTimeoutCountsAMisfeed : Prop :=
  (∀ t : Timer, t.isRunning = true ↔ ∃ n, t = .running n) ∧
  ∀ (e : Fin 24) (s : State), Runs s →
    ((∀ x, s.entries.get e = some x → x.timer.isRunning = false) → Leaves (.pickTimerExpiry e) s s) ∧
    ∀ x n r b, TablesOk s → s.entries.get e = some x → x.timer.isRunning = true → pickingOf s e = some (n, r) →
      s.batches.get r.batch = some b →
      (∃ t y c, Leaves (.pickTimerExpiry e) s t ∧ t.entries.get e = some y ∧
        t.batches.get r.batch = some c ∧ y.timer = .stopped ∧ c.fed = b.fed ∧ c.live = b.live ∧ c.nextSeq = b.nextSeq ∧
        (x.traySeenEmpty = true → y.misfeeds = x.misfeeds ∧ c.misfeeds = b.misfeeds) ∧
        (x.traySeenEmpty = false → y.misfeeds = x.misfeeds + 1 ∧
          c.misfeeds = if b.misfeeds < 65535 then b.misfeeds + 1 else 65535)) ∧
      ∃ u y c, Leaves (.pickTimerExpiry e) s (settle [r.batch] [e.val] s.lastAlloc (offerSlot u)) ∧
        u.sheets = s.sheets.del n ∧ u.entries.get e = some y ∧ u.batches.get r.batch = some c ∧
        y.traySeenEmpty = false ∧ y.liveCount = x.liveCount - 1 ∧ y.path = x.path ∧ c.picking = b.picking - 1 ∧
        (∀ p : Fin 16, x.port = some p →
          u.ports[p].queues.grant = if s.ports[p].queues.grant = some r.tag then none else s.ports[p].queues.grant) ∧
        (x.traySeenEmpty = true → y.feed = x.feed ∧ y.cause = x.cause) ∧
        ∀ h d, x.bound = some h → s.batches.get h = some d → x.traySeenEmpty = false →
          (d.retries < x.misfeeds + 1 → x.feed = .running ∨ x.feed = .ready →
            y.feed = (if x.coverOpen then .clearing else .halted) ∧ y.cause = some .misfeed ∧
            (∀ p : Fin 16, x.port = some p → u.ports[p].queues.halt = true) ∧
            ((∀ a ∈ s.attention, a.2 < 256) → AttnKind.stationHalted ∉ s.room.mask →
              (.stationHalted, e.val) ∈ u.attention)) ∧
          (x.misfeeds + 1 ≤ d.retries → y.feed = x.feed ∧ y.cause = x.cause)

/-! Images (chapter 8) -/

/-- READY marks the images of a record that is in the path or suspect, or in ROUTING with what follows; other READY words
are counted only. The side counts are 1 and 2, and 2 is taken only from an entry that is duplex capable (R131). -/
def Obligations.ReadyMarksTheImages : Prop :=
  (∀ k : Nat, (sideCount k = some .one ↔ k = 1) ∧ (sideCount k = some .two ↔ k = 2) ∧
    (sideCount k = none ↔ k ≠ 1 ∧ k ≠ 2)) ∧
  (∀ x : Entry, sidesAllowed x .one = true ∧
    ∀ f, x.facts = some f → (sidesAllowed x .two = true ↔ f.duplex = true)) ∧
  ∀ (p : Fin 16) (e : Nat) (g : Tag) (k : Nat) (s : State), Runs s → AttachedTo s p e →
    (findTagged s e g = none ∨ sideCount k = none → Leaves (.ready p g k) s (counted p s)) ∧
    ∀ n r d x, findTagged s e g = some (n, r) → sideCount k = some d → s.entries.get e = some x →
      (sidesAllowed x d = false ∨ r.images.isSome = true ∨ r.state = .picking ∨ r.state = .fault →
        Leaves (.ready p g k) s (counted p s)) ∧
      (sidesAllowed x d = true → r.images = none → (r.state = .inPath ∨ r.state = .suspect) → Leaves (.ready p g k) s
        { counted p s with sheets := s.sheets.modify n fun r => { r with images := some d } }) ∧
      (sidesAllowed x d = true → r.images = none → r.state = .routing → Leaves (.ready p g k) s
        (settle [r.batch] [r.station] s.lastAlloc (arbitrate (completeIfDone n (buildEntries n
          { counted p s with sheets := s.sheets.modify n fun r => { r with images := some d } })))))

/-- A record's plan row is that of its route category in its captured plan; its entry list is built from that row; a side is
eligible where the record routes with images and list, the station is present without an upload, and every lane of its WAITING
entries has its gate open and its transmitter idle; a station's choice is its eligible side of lowest sequence, batch and side;
the arbiter takes the first station in its round, and leaves no side eligible. The start queues UPLOAD, makes the upload and
one delivery on each lane, and sends OFFER (R130, R133–R135, R146, R147; the order of sides is log 22). -/
def Obligations.ArbiterStartsUploads : Prop :=
  (∀ (s : State) (r : Sheet) (w : Row), planRow s r = some w ↔ ∃ c k a, r.captured = some c ∧ r.cls = some (k, a) ∧
    ∃ (_ : c.plan < 16) (_ : a < 8), w = s.plans[c.plan].body.rows[a]) ∧
  (∀ (s : State) (e : Nat), present s e = true ↔ ∃ x p, s.entries.get e = some x ∧ x.port = some p) ∧
  (∀ (n : Nat) (r : Sheet) (w : Row) (k : Side) (s : State), s.sheets.get n = some r → r.state = .routing →
    r.images = some k → r.deliveries = none → planRow s r = some w → ∀ one : Side → List Delivery,
    (∀ d, one d = (w.primary.map fun l => { side := d, role := .primary, lane := l }).toList ++
      (if w.primary = none then [] else (w.copy.map fun l => { side := d, role := .copy, lane := l }).toList)) →
    buildEntries n s = modSheet n (fun r =>
      { r with deliveries := some (if k = .one then one .one else one .one ++ one .two) }) s) ∧
  (∀ (s : State) (l : Fin 4), laneFree s l = true ↔
    ((s.lanes[l].state = .up ∧ s.lanes[l].refusing = false ∧ s.lanes[l].view ≠ some .busy) ∨ s.lanes[l].state = .loopback) ∧
    s.lanes[l].suspendPending = false ∧ s.lanes[l].window.length < s.lanes[l].params.window ∧ s.lanes[l].fifo = [] ∧
    ∀ u ∈ s.uploads, ∀ d ∈ u.2.dests, d.1 ≠ l) ∧
  (∀ (s : State) (r : Sheet) (d : Side) (t : List Delivery), sideEligible s r d = some t ↔
    r.state = .routing ∧ (∃ k, r.images = some k ∧ (d = .one ∨ k = .two)) ∧ (∀ x ∈ t, laneFree s x.lane = true) ∧
    ∃ l w, r.deliveries = some l ∧ w = l.filter (fun x => decide (x.side = d ∧ x.status = .waiting)) ∧
      ∃ a m, w = a :: m ∧ ((∀ x ∈ m, x.lane = a.lane) → t = [a]) ∧
        ∀ m₁ x m₂, m = m₁ ++ x :: m₂ → (∀ y ∈ m₁, y.lane = a.lane) → x.lane ≠ a.lane → t = [a, x]) ∧
  (∀ (s : State) (e : Nat),
    (∀ c, stationChoice s e = some c → present s e = true ∧ s.uploads.get e = none ∧ (c.slot, c.record) ∈ s.sheets ∧
      c.record.station = e ∧ sideEligible s c.record c.side = some c.takes ∧
      ((∀ p ∈ s.sheets, p.2.batch < 48) → ∀ p ∈ s.sheets, p.2.station = e → ∀ d, (sideEligible s p.2 d).isSome = true →
        c.record.seq.getD 0 < p.2.seq.getD 0 ∨ (c.record.seq.getD 0 = p.2.seq.getD 0 ∧
          (c.record.batch < p.2.batch ∨ (c.record.batch = p.2.batch ∧ (c.side = .one ∨ d = .two)))))) ∧
    (stationChoice s e = none ↔ present s e = false ∨ s.uploads.get e ≠ none ∨
      ∀ p ∈ s.sheets, p.2.station = e → ∀ d, sideEligible s p.2 d = none)) ∧
  (∀ s : State, (∀ i < 24, stationChoice s ((s.lastUpload + 1 + i) % 24) = none) → arbitrate s = s) ∧
  (∀ (s : State) (i : Nat) (c : Eligible), i < 24 → stationChoice s ((s.lastUpload + 1 + i) % 24) = some c →
    (∀ j < i, stationChoice s ((s.lastUpload + 1 + j) % 24) = none) →
    arbitrate s = arbitrateN 3 (startUpload ((s.lastUpload + 1 + i) % 24) c s)) ∧
  (∀ s : State, ∀ e < 24, stationChoice (arbitrate s) e = none) ∧
  (∀ l : Lane, l.window.length ≤ 32 → ∃ k < 4096, l.takeNumber = l.nextNo + BitVec.ofNat 12 k ∧
    (∀ w ∈ l.window, w.number ≠ l.takeNumber) ∧ ∀ j < k, ∃ w ∈ l.window, w.number = l.nextNo + BitVec.ofNat 12 j) ∧
  ∀ (e : Nat) (c : Eligible) (x : Entry) (s u : State), s.entries.get e = some x →
    s.sheets.get c.slot = some c.record → (c.takes.map (·.lane)).Nodup →
    c.takes.Pairwise (fun a d => a.side ≠ d.side ∨ a.role ≠ d.role) → startUpload e c s = u →
    u = { s with sheets := u.sheets, lanes := u.lanes, uploads := u.uploads, lastUpload := e, ports := u.ports } ∧
    (∀ p : Fin 16, x.port = some p →
      u.ports[p].queues = { s.ports[p].queues with upload := some (c.record.tag, c.side) }) ∧
    (∀ f, f ≠ e → u.uploads.get f = s.uploads.get f) ∧
    ∀ g, g = { batch := c.record.batch, seq := c.record.seq.getD 0 } →
      u.uploads.get e = some
        { slot := c.slot, serial := g, tag := c.record.tag, side := c.side, dests := c.takes.map fun d => (d.lane, d.role)
          phase := .asked, blocks := none, taken := 0, check := 0xFFFFFFFF, go := true, stall := .stopped } ∧
      (∀ m, m ≠ c.slot → u.sheets.get m = s.sheets.get m) ∧
      (∀ l : Fin 4, (∀ d ∈ c.takes, d.lane ≠ l) → u.lanes[l] = s.lanes[l]) ∧
      (∃ q, u.sheets.get c.slot = some q ∧ q = { c.record with deliveries := q.deliveries } ∧
        (∀ d ∈ c.takes, ∀ z, deliveryOf c.record d.side d.role = some z → deliveryOf q d.side d.role =
          some { z with status := .inFlight, number := some s.lanes[d.lane].takeNumber }) ∧
        ∀ a o, (∀ d ∈ c.takes, d.side ≠ a ∨ d.role ≠ o) → deliveryOf q a o = deliveryOf c.record a o) ∧
      ∀ d ∈ c.takes, ∀ (n : DelivNo) (b : Bool), n = s.lanes[d.lane].takeNumber →
        b = ((planRow s c.record).map (·.secure)).getD false →
        u.lanes[d.lane] = { s.lanes[d.lane] with
          nextNo := n + 1
          window := s.lanes[d.lane].window ++ [{ number := n, slot := c.slot, serial := g, side := d.side, role := d.role
                                                 secure := b, phase := .transmitting, timer := none, closing := none }]
          ctrl := if s.lanes[d.lane].state = .loopback then s.lanes[d.lane].ctrl
            else s.lanes[d.lane].ctrl ++ [.offer n g d.side d.role b]
          counters := { s.lanes[d.lane].counters with offered := bump s.lanes[d.lane].counters.offered } }

/-- The image words against the station's upload: IMAGE_START begins it, BLOCK is checked, copied to every destination and
counted, IMAGE_END ends it where check and count agree, and the stall timer's expiry or a word out of place fails it. An upload
that ends leaves the router and its waiting UPLOAD and FLOW words are withdrawn; one that fails is counted on its record, with
the upload arbiter and the judgments of the record's batch and station after it. The running check takes the bits of every
byte, most significant first, by the generator 04C11DB7, and its inverse is compared (R132, R134, R136, R138–R140, 11.1). That
an expiry acts whenever its timer runs is log 3, that it does nothing without an upload or with the timer stopped log 4, and
that the arbiter comes before those judgments log 8. -/
def Obligations.ImageWordsAdvanceTheUpload : Prop :=
  (∀ (k : Check) (c : Byte) (l : List Byte), checkValue k = ~~~k ∧ checkBytes k [] = k ∧
    checkBytes k (c :: l) = checkBytes ((List.range 8).foldl (fun q i =>
      if q.msb = c.getMsbD i then q <<< 1 else (q <<< 1) ^^^ 0x04C11DB7#32) k) l) ∧
  (∀ (n : Nat) (s : State), (s.sheets.get n = none → ownersOf s n = ([], [])) ∧
    ∀ r, s.sheets.get n = some r → ownersOf s n = ([r.batch], [r.station])) ∧
  (∀ (e : Nat) (u : Upload) (s : State), ∀ hs es, ownersOf s u.slot = (hs, es) →
    uploadFails e u s = settle hs es s.lastAlloc (arbitrate (failUpload e s))) ∧
  (∀ (e : Nat) (s t : State), endUpload e s = t →
    t = { s with uploads := s.uploads.del e, ports := t.ports } ∧ t.uploads.get e = none ∧
    (∀ f, f ≠ e → t.uploads.get f = s.uploads.get f) ∧
    ∀ p : Fin 16,
      ((∃ x, s.entries.get e = some x ∧ x.port = some p) →
        t.ports[p] = { s.ports[p] with queues := { s.ports[p].queues with upload := none, flow := none } }) ∧
      ((∀ x, s.entries.get e = some x → x.port ≠ some p) → t.ports[p] = s.ports[p])) ∧
  (∀ (p : Fin 16) (e : Nat) (s : State), Runs s → AttachedTo s p e →
    (s.uploads.get e = none → ∀ g d n k (l : List Byte), Leaves (.imageStart p g d n) s (counted p s) ∧
      (l.length = 1024 → Leaves (.block p l) s (counted p s)) ∧ Leaves (.imageEnd p k) s (counted p s)) ∧
    ∀ u, s.uploads.get e = some u →
      (∀ n, u.phase = .asked → 1 ≤ n → n ≤ 16383 → Leaves (.imageStart p u.tag u.side n) s
        (modUpload e (fun u => { u with phase := .receiving, blocks := some n, stall := .running 500 }) (counted p s))) ∧
      (∀ g d n, (u.phase = .receiving ∨ g ≠ u.tag ∨ d ≠ u.side ∨ n = 0 ∨ 16383 < n) →
        Leaves (.imageStart p g d n) s (uploadFails e u (counted p s))) ∧
      (∀ (l : List Byte) k, u.phase = .asked → (l.length = 1024 → Leaves (.block p l) s (counted p s)) ∧
        Leaves (.imageEnd p k) s (counted p s)) ∧
      (∀ l : List Byte, l.length = 1024 → u.phase = .receiving →
        (u.blocks.getD 0 ≤ u.taken ∨ someFifoFull s u = true →
          Leaves (.block p l) s (uploadFails e u (counted p s))) ∧
        (u.taken < u.blocks.getD 0 → someFifoFull s u = false → Leaves (.block p l) s
          (flowAfterBlock e u (u.dests.foldl (copyBlock u l) (modUpload e (fun u =>
            { u with taken := u.taken + 1, check := checkBytes u.check l }) (counted p s)))))) ∧
      (∀ k, u.phase = .receiving →
        (checkValue u.check = k → u.blocks = some u.taken → ∀ hs es, ownersOf s u.slot = (hs, es) →
          Leaves (.imageEnd p k) s (settle hs es s.lastAlloc
            (arbitrate (u.dests.foldl (endDest u k) (endUpload e (counted p s)))))) ∧
        (checkValue u.check ≠ k ∨ u.blocks ≠ some u.taken →
          Leaves (.imageEnd p k) s (uploadFails e u (counted p s))))) ∧
  (∀ (e : Fin 24) (s : State), Runs s →
    (s.uploads.get e = none → Leaves (.stallTimerExpiry e) s s) ∧
    ∀ u, s.uploads.get e = some u →
      (u.stall.isRunning = true → Leaves (.stallTimerExpiry e) s (uploadFails e u s)) ∧
      (u.stall.isRunning = false → Leaves (.stallTimerExpiry e) s s))

/-- The flow of an upload: a block is copied to the tail of every destination's FIFO; one that leaves a FIFO with free space at
or below its high margin stops the station and suspends the stall timer, any other restarts it; a block leaving its FIFO, or
the loss of one destination, lets it go where every remaining FIFO is at or below its low level; and the loss of the last
destination ends the upload (R137, R139, R141, R148). -/
def Obligations.FlowFollowsTheFifos : Prop :=
  (∀ (u : Upload) (d : Fin 4 × Role) (n : DelivNo) (s : State), destNumber s u d = some n ↔
    ∃ r z, s.sheets.get u.slot = some r ∧ deliveryOf r u.side d.2 = some z ∧ z.number = some n) ∧
  (∀ (l : Fin 4) (s : State),
    (∀ e, uploaderOf s l = some e → ∃ u, (e, u) ∈ s.uploads ∧ ∃ d ∈ u.dests, d.1 = l) ∧
    (uploaderOf s l = none ↔ ∀ u ∈ s.uploads, ∀ d ∈ u.2.dests, d.1 ≠ l)) ∧
  (∀ (u : Upload) (d : Fin 4 × Role) (n : DelivNo) (l : List Byte) (s : State), destNumber s u d = some n →
    copyBlock u l s d = modLane d.1 (fun x => { x with fifo := x.fifo ++ [(n, l)] }) s) ∧
  (∀ (u : Upload) (s : State), (someFifoFull s u = true ↔ ∃ d ∈ u.dests, 64 ≤ s.lanes[d.1].fifo.length) ∧
    (someFifoHigh s u = true ↔ ∃ d ∈ u.dests, 64 - s.lanes[d.1].fifo.length ≤ s.lanes[d.1].params.high) ∧
    (destsDrained s u = true ↔ ∀ d ∈ u.dests, s.lanes[d.1].fifo.length ≤ s.lanes[d.1].params.low)) ∧
  (∀ (e : Nat) (x : Entry) (u v : Upload) (s : State), s.entries.get e = some x → s.uploads.get e = some v → ∃ t : State,
    flowAfterBlock e u s = t ∧ t = { s with uploads := t.uploads, ports := t.ports } ∧
    (∀ f, f ≠ e → t.uploads.get f = s.uploads.get f) ∧
    (u.go = false → t = s) ∧
    (u.go = true → someFifoHigh s u = true → t.uploads.get e = some { v with go := false, stall := .suspended 500 } ∧
      ∀ p : Fin 16, x.port = some p → t.ports[p].queues = { s.ports[p].queues with flow := some false }) ∧
    (u.go = true → someFifoHigh s u = false →
      t.uploads.get e = some { v with stall := .running 500 } ∧ t.ports = s.ports)) ∧
  (∀ (e : Nat) (x : Entry) (u : Upload) (s : State), s.entries.get e = some x → s.uploads.get e = some u → ∃ t : State,
    judgeGo e s = t ∧ t = { s with uploads := t.uploads, ports := t.ports } ∧
    (∀ f, f ≠ e → t.uploads.get f = s.uploads.get f) ∧
    (u.go = true ∨ destsDrained s u = false → t = s) ∧
    (u.go = false → destsDrained s u = true → t.uploads.get e = some { u with go := true, stall := .running 500 } ∧
      ∀ p : Fin 16, x.port = some p → t.ports[p].queues = { s.ports[p].queues with flow := some true })) ∧
  (∀ (l : Fin 4) (s : State), ((∀ u ∈ s.uploads, ∀ d ∈ u.2.dests, d.1 ≠ l) → loseDest l s = s) ∧
    ∀ e x u, uploaderOf s l = some e → s.entries.get e = some x → s.uploads.get e = some u → ∀ rest,
      rest = u.dests.filter (fun d => decide (d.1 ≠ l)) →
      (rest ≠ [] → loseDest l s = judgeGo e (modUpload e (fun u => { u with dests := rest }) s)) ∧
      (rest = [] → ∃ t : State, loseDest l s = t ∧ t = { s with uploads := t.uploads, ports := t.ports } ∧
        t.uploads.get e = none ∧ (∀ f, f ≠ e → t.uploads.get f = s.uploads.get f) ∧
        ∀ p : Fin 16, x.port = some p → t.ports[p].queues = { s.ports[p].queues with upload := none, flow := none })) ∧
  ∀ (l : Fin 4) (d : DelivNo) (c : List Byte) (m : List FifoBlock) (s t v : State), s.lanes[l].fifo = (d, c) :: m →
    t = modLane l (fun x => { x with fifo := m }) s →
    (∀ e, uploaderOf s l = some e → v = judgeGo e t) → (uploaderOf s l = none → v = t) →
    (s.lanes[l].entry d = none → laneWordLeft l (.block d) s = arbitrate v ∧ laneWordLeft l (.looped d) s = arbitrate v) ∧
    ∀ w hs es, s.lanes[l].entry d = some w → ownersOf s w.slot = (hs, es) →
      laneWordLeft l (.block d) s = settle hs es s.lastAlloc (arbitrate (closeDelivery l d v)) ∧
      laneWordLeft l (.looped d) s = settle hs es s.lastAlloc (arbitrate (closeDelivery l d v))

/-! Lane links (chapters 9 and 11) -/

/-- Line activity, fill, malformed words and silence on a lane; each is followed by the upload arbiter where a gate may have
changed (R144, R145, R173). That the silence timer starts at entry to ALIGNING is log 16, that the malformed-word count
rises in ALIGNING log 23, that an expiry acts whenever its timer runs log 3, and that the expiry of a stopped timer does nothing
log 4. -/
def Obligations.LaneEventsFollowTheLane : Prop :=
  ∀ (l : Fin 4) (s : State), Runs s →
    (s.lanes[l].state = .down → Leaves (.laneLineActivity l) s (modLane l (fun x =>
      { x with state := .aligning, align := 0, malformed := 0, silence := some x.params.silence, line := .fill }) s)) ∧
    (s.lanes[l].state ≠ .down → Leaves (.laneLineActivity l) s s) ∧
    (s.lanes[l].state = .up ∨ s.lanes[l].state = .suspended → Leaves (.archiveFill l) s
      (modLane l (fun x => { x with silence := some x.params.silence, malformed := 0 }) s)) ∧
    (s.lanes[l].state = .aligning → s.lanes[l].align < 7 → Leaves (.archiveFill l) s (arbitrate
      (modLane l (fun x => { x with align := x.align + 1, silence := some x.params.silence, malformed := 0 }) s))) ∧
    (s.lanes[l].state = .aligning → 7 ≤ s.lanes[l].align → Leaves (.archiveFill l) s (arbitrate
      (modLane l (fun x => { x with state := .up, align := 0, silence := some x.params.silence, malformed := 0 }) s))) ∧
    (s.lanes[l].state = .down ∨ s.lanes[l].state = .loopback ∨ s.lanes[l].state = .failed →
      Leaves (.archiveFill l) s s ∧ Leaves (.laneMalformedWord l) s s) ∧
    (s.lanes[l].state = .aligning → Leaves (.laneMalformedWord l) s (modLane l (fun x =>
      { x with align := 0, malformed := min (x.malformed + 1) 8, silence := some x.params.silence }) s)) ∧
    (s.lanes[l].state = .up ∨ s.lanes[l].state = .suspended →
      (s.lanes[l].malformed < 7 → Leaves (.laneMalformedWord l) s (modLane l (fun x =>
        { x with malformed := x.malformed + 1, silence := some x.params.silence }) s)) ∧
      (7 ≤ s.lanes[l].malformed → Leaves (.laneMalformedWord l) s (arbitrate (loseLine l s)))) ∧
    (s.lanes[l].silence.isSome = true → Leaves (.laneSilenceTimeout l) s (arbitrate (loseLine l s))) ∧
    (s.lanes[l].silence = none → Leaves (.laneSilenceTimeout l) s s)

/-- The archive's answers by window entry: ACCEPT and SECURED end or advance their delivery, REFUSE gives it back, and an
answer without its entry or in the wrong phase is stray, as is any answer in ALIGNING and FAILED; in LOOPBACK it is ignored.
STATUS fills the view and READY clears the refusing flag (R146, R149–R151, R156, R173). That an answer in DOWN is stray is log
32. -/
def Obligations.ArchiveAnswersMoveTheWindow : Prop :=
  (∀ (l : Fin 4) (s : State),
    (s.lanes[l].state = .up ∨ s.lanes[l].state = .suspended → laneCounted l s =
      modLane l (fun x => { x with silence := some x.params.silence, malformed := 0 }) s) ∧
    (s.lanes[l].state = .aligning → laneCounted l s = modLane l (fun x =>
      { x with state := if 7 ≤ x.align then .up else .aligning, align := if 7 ≤ x.align then 0 else x.align + 1
               silence := some x.params.silence, malformed := 0 }) s)) ∧
  (∀ (x : Lane) (d : DelivNo), (x.entry d = none ↔ ∀ w ∈ x.window, w.number ≠ d) ∧
    (∀ w, x.entry d = some w → w ∈ x.window ∧ w.number = d) ∧
    x.strayed = { x with counters := { x.counters with stray := bump x.counters.stray } }) ∧
  ∀ (l : Fin 4) (d : DelivNo) (s u v : State), Runs s → u = laneCounted l s →
    v = modLane l (fun x => { x with counters := { x.counters with
      stray := if x.counters.stray < 65535 then x.counters.stray + 1 else 65535 } }) s →
    (s.lanes[l].state = .failed ∨ s.lanes[l].state = .down → ∀ r a,
      Leaves (.accept l d) s v ∧ Leaves (.secured l d) s v ∧ Leaves (.refuse l d r) s v ∧ Leaves (.archiveStatus l a) s s) ∧
    (s.lanes[l].state = .aligning → ∀ r a,
      Leaves (.accept l d) s (arbitrate (laneCounted l v)) ∧ Leaves (.secured l d) s (arbitrate (laneCounted l v)) ∧
      Leaves (.refuse l d r) s (arbitrate (laneCounted l v)) ∧ Leaves (.archiveStatus l a) s (arbitrate u)) ∧
    (s.lanes[l].state = .loopback → ∀ r a,
      Leaves (.accept l d) s s ∧ Leaves (.secured l d) s s ∧ Leaves (.refuse l d r) s s ∧ Leaves (.archiveStatus l a) s s) ∧
    (s.lanes[l].state = .up ∨ s.lanes[l].state = .suspended →
      (∀ a, Leaves (.archiveStatus l a) s (arbitrate (modLane l (fun x =>
        { x with view := some a, refusing := x.refusing && decide (a = .busy) }) u))) ∧
      (s.lanes[l].entry d = none → ∀ r,
        Leaves (.accept l d) s (modLane l Lane.strayed u) ∧ Leaves (.secured l d) s (modLane l Lane.strayed u) ∧
        Leaves (.refuse l d r) s (modLane l Lane.strayed u)) ∧
      ∀ w hs es, s.lanes[l].entry d = some w → ownersOf s w.slot = (hs, es) →
        (w.phase = .awaitAccept → w.secure = false →
          Leaves (.accept l d) s (settle hs es s.lastAlloc (arbitrate (deliveryDone l w u)))) ∧
        (w.phase = .awaitAccept → w.secure = true → Leaves (.accept l d) s (awaitSecure l w u)) ∧
        (w.phase ≠ .awaitAccept → Leaves (.accept l d) s (modLane l Lane.strayed u)) ∧
        (w.phase = .awaitSecure →
          Leaves (.secured l d) s (settle hs es s.lastAlloc (arbitrate (deliveryDone l w u)))) ∧
        (w.phase ≠ .awaitSecure → Leaves (.secured l d) s (modLane l Lane.strayed u)) ∧
        ∀ r, Leaves (.refuse l d r) s (settle hs es s.lastAlloc (arbitrate (refuseEntry l w r u))))

/-- What an answer, an IMAGE_END or an upload failure leaves in the delivery entry, the window and the counters: a delivery
DONE, ACCEPTED, given back by a REFUSE, SENT at the end of its upload and ended in LOOPBACK, or abandoned with its upload; and
an upload failure counted on the record, the third of which sends a record in ROUTING to FAULT with its deliveries abandoned
(R43a, R138, R140, R148–R150, R155, R156). -/
def Obligations.AnswersAndFailuresMoveTheEntry : Prop :=
  (∀ n : Nat, bump n = if n < 65535 then n + 1 else 65535) ∧
  (∀ (r : Sheet) (a : Side) (o : Role),
    (deliveryOf r a o = none ↔ ∀ d ∈ r.deliveries.getD [], d.side ≠ a ∨ d.role ≠ o) ∧
    ∀ d, deliveryOf r a o = some d → d ∈ r.deliveries.getD [] ∧ d.side = a ∧ d.role = o) ∧
  (∀ (n : Nat) (a : Side) (o : Role) (f : Delivery → Delivery) (s : State), modDelivery n a o f s = modSheet n (fun r =>
    { r with deliveries := r.deliveries.map (List.map fun d => if d.side = a ∧ d.role = o then f d else d) }) s) ∧
  (∀ (l : Fin 4) (w : WindowEntry) (r : Sheet) (s : State), s.sheets.get w.slot = some r →
    ∀ others : State → Prop, (∀ u, others u ↔ (∀ m : Fin 4, m ≠ l → u.lanes[m] = s.lanes[m]) ∧
      (∀ m, m ≠ w.slot → u.sheets.get m = s.sheets.get m) ∧ u = { s with lanes := u.lanes, sheets := u.sheets } ∧
      ∃ q, u.sheets.get w.slot = some q ∧ q = { r with deliveries := q.deliveries } ∧
        ∀ a o, a ≠ w.side ∨ o ≠ w.role → deliveryOf q a o = deliveryOf r a o) →
    ∀ left : List WindowEntry, left = s.lanes[l].window.filter (fun v => decide (v.number ≠ w.number)) →
    (∃ u q, deliveryDone l w s = completeIfDone w.slot u ∧ others u ∧ u.sheets.get w.slot = some q ∧
      (∀ d, deliveryOf r w.side w.role = some d → deliveryOf q w.side w.role = some { d with status := .done, number := none }) ∧
      u.lanes[l].window = left ∧
      u.lanes[l].counters = { s.lanes[l].counters with done := bump s.lanes[l].counters.done } ∧
      u.lanes[l].fifo = s.lanes[l].fifo ∧ u.lanes[l].ctrl = s.lanes[l].ctrl ∧
      (left ≠ [] ∨ s.lanes[l].suspendPending = false → u.lanes[l].state = s.lanes[l].state) ∧
      (left = [] → s.lanes[l].suspendPending = true → s.lanes[l].state = .up ∨ s.lanes[l].state = .loopback →
        u.lanes[l].state = .suspended)) ∧
    (∃ u q, awaitSecure l w s = u ∧ others u ∧ u.sheets.get w.slot = some q ∧
      (∀ d, deliveryOf r w.side w.role = some d → deliveryOf q w.side w.role = some { d with status := .accepted }) ∧
      u.lanes[l] = { s.lanes[l] with window := s.lanes[l].window.map fun v => if v.number = w.number then
        { v with phase := .awaitSecure, timer := some (s.lanes[l].params.secure * 1000) } else v }) ∧
    ∀ k : RefuseReason, ∃ u v q, others u ∧ u.sheets.get w.slot = some q ∧
      (∀ d, deliveryOf r w.side w.role = some d → deliveryOf q w.side w.role = some { d with status := .waiting, number := none }) ∧
      u.lanes[l].window = left ∧
      u.lanes[l].fifo = s.lanes[l].fifo.filter (fun b => decide (b.1 ≠ w.number)) ∧
      (∀ c, c ∈ u.lanes[l].ctrl ↔ c ∈ s.lanes[l].ctrl ∧ ∀ n h, c ≠ .endWord w.number n h) ∧
      (∀ c, c = s.lanes[l].counters → u.lanes[l].counters = match k with
        | .check => { c with refusedCheck := bump c.refusedCheck }
        | .format => { c with refusedFormat := bump c.refusedFormat }
        | .full => { c with refusedFull := bump c.refusedFull }) ∧
      u.lanes[l].refusing = (s.lanes[l].refusing || decide (k = .full)) ∧
      (left = [] → s.lanes[l].suspendPending = true → s.lanes[l].state = .up ∨ s.lanes[l].state = .loopback →
        u.lanes[l].state = .suspended) ∧
      (w.phase = .transmitting → v = loseDest l u) ∧ (w.phase ≠ .transmitting → v = u) ∧
      (k = .full → refuseEntry l w k s = raise .laneRefusing l v) ∧
      (k ≠ .full → refuseEntry l w k s = countFailure w.slot v)) ∧
  (∀ (n : Nat) (r : Sheet) (s : State), s.sheets.get n = some r →
    ∃ u, u = modSheet n (fun r => { r with failures := r.failures + 1 }) s ∧
      (r.failures < 2 → countFailure n s = u) ∧ (2 ≤ r.failures → countFailure n s = enterFault n .uploadFailed u)) ∧
  (∀ (n : Nat) (r : Sheet) (b : Batch) (k : FaultCause) (s u : State), s.sheets.get n = some r → r.state = .routing →
    s.batches.get r.batch = some b → r.batch < 48 → (∀ a ∈ s.attention, a.2 < 256) →
    (r.deliveries.getD []).Pairwise (fun a d => a.side ≠ d.side ∨ a.role ≠ d.role) →
    (∀ v, s.uploads.get r.station = some v → v.slot = n → ∀ d ∈ v.dests, ∀ z, deliveryOf r v.side d.2 = some z →
      z.status = .inFlight) → enterFault n k s = u →
    u.batches.get r.batch = some { b with openSuspects := b.openSuspects + 1 } ∧
    u.sheets.get n = some { r with
      state := .fault, fault := some k, images := if k = .imagesLost then none else r.images
      deliveries := r.deliveries.map (List.map fun d =>
        if d.status = .inFlight ∨ d.status = .sent ∨ d.status = .accepted then
          { d with status := .waiting, number := none } else d) } ∧
    (∀ m, m ≠ n → u.sheets.get m = s.sheets.get m) ∧ (∀ v, u.uploads.get r.station = some v → v.slot ≠ n) ∧
    (AttnKind.sheetFault ∉ s.room.mask → (.sheetFault, r.batch) ∈ u.attention) ∧
    ∀ d ∈ r.deliveries.getD [], ∀ m, d.status = .inFlight ∨ d.status = .sent ∨ d.status = .accepted → d.number = some m →
      (∀ w ∈ u.lanes[d.lane].window, w.number ≠ m) ∧ (∀ c ∈ u.lanes[d.lane].fifo, c.1 ≠ m) ∧
      (s.lanes[d.lane].state ≠ .loopback → .abandon m ∈ u.lanes[d.lane].ctrl)) ∧
  (∀ (e : Nat) (x : Entry) (v : Upload) (r : Sheet) (s u : State), TablesOk s → s.entries.get e = some x →
    s.uploads.get e = some v → s.sheets.get v.slot = some r → (v.dests.map Prod.fst).Nodup → (v.dests.map Prod.snd).Nodup →
    (∀ d ∈ v.dests, ∃ z m, deliveryOf r v.side d.2 = some z ∧ z.lane = d.1 ∧ z.status = .inFlight ∧ z.number = some m) →
    abandonUpload e s = u →
    failUpload e s = countFailure v.slot u ∧
    u = { s with sheets := u.sheets, lanes := u.lanes, uploads := s.uploads.del e, ports := u.ports } ∧
    (∀ p : Fin 16, x.port = some p → u.ports[p].queues = { s.ports[p].queues with upload := none, flow := none }) ∧
    (∀ l : Fin 4, (∀ d ∈ v.dests, d.1 ≠ l) → u.lanes[l] = s.lanes[l]) ∧
    (∃ q, u.sheets.get v.slot = some q ∧ q = { r with deliveries := q.deliveries } ∧
      ∀ a o, ((a ≠ v.side ∨ ∀ d ∈ v.dests, d.2 ≠ o) → deliveryOf q a o = deliveryOf r a o) ∧
        ∀ d ∈ v.dests, ∀ z, d.2 = o → deliveryOf r v.side o = some z →
          deliveryOf q v.side o = some { z with status := .waiting, number := none }) ∧
    ∀ d ∈ v.dests, ∀ z m, deliveryOf r v.side d.2 = some z → z.number = some m →
      u.lanes[d.1].window = s.lanes[d.1].window.filter (fun w => decide (w.number ≠ m)) ∧
      u.lanes[d.1].fifo = s.lanes[d.1].fifo.filter (fun c => decide (c.1 ≠ m)) ∧
      u.lanes[d.1].counters = { s.lanes[d.1].counters with abandoned := bump s.lanes[d.1].counters.abandoned } ∧
      (s.lanes[d.1].state ≠ .loopback → u.lanes[d.1].ctrl = s.lanes[d.1].ctrl.filter (fun c => !c.offersOrEnds m) ++ [.abandon m])) ∧
  (∀ (v : Upload) (k : Check) (d : Fin 4 × Role) (m : DelivNo) (s : State), destNumber s v d = some m → ∃ u : State,
    endDest v k s d = closeDelivery d.1 m u ∧
    u = modLane d.1 (fun x => { x with window := x.window.map fun w => if w.number = m then
        { w with phase := .ending, closing := some (v.taken, k) } else w })
      (modDelivery v.slot v.side d.2 (fun z => { z with status := .sent }) s)) ∧
  ∀ (l : Fin 4) (w : WindowEntry) (m : DelivNo) (n : Nat) (k : Check) (s : State), s.lanes[l].entry m = some w →
    (w.phase ≠ .ending ∨ w.closing = none ∨ (∃ c ∈ s.lanes[l].fifo, c.1 = m) → closeDelivery l m s = s) ∧
    (w.phase = .ending → w.closing = some (n, k) → (∀ c ∈ s.lanes[l].fifo, c.1 ≠ m) →
      (s.lanes[l].state ≠ .loopback →
        closeDelivery l m s = modLane l (fun x => { x with ctrl := x.ctrl ++ [.endWord m n k] }) s) ∧
      (s.lanes[l].state = .loopback →
        closeDelivery l m s = deliveryDone l w (modBatch w.serial.batch (fun b => { b with testFlag := true }) s)))

/-- An expired acknowledgement or secure timer fails its lane, whose deliveries are given back, with the upload arbiter after
it: FAILED, nothing in window, FIFO or control queue, the failure counted and LANE_FAILED raised (R134, R152, R153; what the
failure of a lane leaves is FailedLanesGiveBack). That an expiry acts whenever its timer runs is log 3, that nothing happens
without that entry, phase or timer log 4, and that the arbiter is judged after the whole failure log 8. -/
def Obligations.DeliveryTimeoutFailsTheLane : Prop :=
  ∀ (l : Fin 4) (d : DelivNo) (s : State), Runs s → (∀ a ∈ s.attention, a.2 < 256) →
    (s.lanes[l].entry d = none → Leaves (.ackTimeout l d) s s ∧ Leaves (.secureTimeout l d) s s) ∧
    ∀ w, s.lanes[l].entry d = some w →
      (w.timer = none ∨ w.phase ≠ .awaitAccept → Leaves (.ackTimeout l d) s s) ∧
      (w.timer = none ∨ w.phase ≠ .awaitSecure → Leaves (.secureTimeout l d) s s) ∧
      (w.timer.isSome = true → ∃ t, t = arbitrate (failLane l s) ∧
        (w.phase = .awaitAccept → Leaves (.ackTimeout l d) s t) ∧
        (w.phase = .awaitSecure → Leaves (.secureTimeout l d) s t) ∧
        t.lanes[l].state = .failed ∧ t.lanes[l].window = [] ∧ t.lanes[l].fifo = [] ∧ t.lanes[l].ctrl = [] ∧
        t.lanes[l].counters.failures = bump s.lanes[l].counters.failures ∧
        (AttnKind.laneFailed ∉ s.room.mask → (.laneFailed, l.val) ∈ t.attention))

/-- A lane that fails or is reset gives every delivery of its window back: the entry goes to WAITING and is placed on the row's
fallback lane, or back on its role lane where that carries deliveries, or stays; window, FIFO and control words are emptied and
the refusing flag is cleared. A failure counts and raises LANE_FAILED; a lost line takes ALIGNING, SUSPENDED and an UP lane with
an empty window to DOWN and fails any other UP lane; and a reset places the waiting rerouted entries of its lane again before it
goes to DOWN (R145, R152–R155). -/
def Obligations.FailedLanesGiveBack : Prop :=
  (∀ (s : State) (w : Row) (d : Delivery),
    (∀ f, d.rerouted = false → w.fallback = some f → placeEntry s w d = { d with lane := f, rerouted := true }) ∧
    (d.rerouted = false → w.fallback = none → placeEntry s w d = d) ∧
    ∀ m, m = (if d.role = .primary then w.primary else w.copy) →
      (∀ l : Fin 4, m = some l → s.lanes[l].state = .up ∨ s.lanes[l].state = .loopback →
        (d.rerouted = true → placeEntry s w d = { d with lane := l, rerouted := false }) ∧
        placeBack s w d = { d with lane := l, rerouted := false }) ∧
      ((∀ l : Fin 4, m = some l → s.lanes[l].state ≠ .up ∧ s.lanes[l].state ≠ .loopback) →
        (d.rerouted = true → placeEntry s w d = d) ∧ placeBack s w d = d)) ∧
  (∀ (l : Fin 4) (s u : State), failureEffects l s = u →
    u = { s with sheets := u.sheets, lanes := u.lanes, uploads := u.uploads, ports := u.ports } ∧
    u.lanes[l] = { s.lanes[l] with window := [], fifo := [], ctrl := [], refusing := false } ∧
    (∀ m : Fin 4, m ≠ l → u.lanes[m] = s.lanes[m]) ∧
    ((s.lanes[l].window.map fun w => (w.slot, w.side, w.role)).Nodup → ∀ n r, s.sheets.get n = some r →
      ∃ q, u.sheets.get n = some q ∧ q = { r with deliveries := q.deliveries } ∧
        (∀ w ∈ s.lanes[l].window, w.slot = n → ∀ d row, deliveryOf r w.side w.role = some d → planRow s r = some row →
          deliveryOf q w.side w.role = some (placeEntry s row { d with status := .waiting, number := none })) ∧
        ∀ a o, (∀ w ∈ s.lanes[l].window, w.slot = n → w.side ≠ a ∨ w.role ≠ o) →
          deliveryOf q a o = deliveryOf r a o) ∧
    ((∀ w ∈ s.lanes[l].window, w.phase ≠ .transmitting) → u.uploads = s.uploads ∧ u.ports = s.ports) ∧
    ((∃ w ∈ s.lanes[l].window, w.phase = .transmitting) → TablesOk s →
      (∀ p ∈ s.uploads, ∀ q ∈ s.uploads, (∃ d ∈ p.2.dests, d.1 = l) → (∃ d ∈ q.2.dests, d.1 = l) → p = q) →
      ∀ p ∈ u.uploads, ∀ d ∈ p.2.dests, d.1 ≠ l)) ∧
  (∀ (l : Fin 4) (s : State),
    failLane l s = raise .laneFailed l (modLane l (fun x =>
      { x with
        state := .failed, silence := none, malformed := 0, suspendPending := false
        counters := { x.counters with failures := bump x.counters.failures } }) (failureEffects l s)) ∧
    ∀ down : State → State, (∀ t, down t = modLane l (fun x =>
      { x with
        state := .down, align := 0, malformed := 0, silence := none, window := [], fifo := [], ctrl := [], line := .none
        suspendPending := false, refusing := false, view := none }) t) →
      (s.lanes[l].state = .aligning ∨ s.lanes[l].state = .suspended ∨
        (s.lanes[l].state = .up ∧ s.lanes[l].window = []) → loseLine l s = down s) ∧
      (s.lanes[l].state = .up → s.lanes[l].window ≠ [] → loseLine l s = failLane l s) ∧
      (TablesOk s → ∃ t u : State, t = failureEffects l s ∧ Sys2Proof.Machine.resetLane l s = arbitrate (down u) ∧
        u = { t with sheets := u.sheets } ∧
        ∀ n, (t.sheets.get n = none → u.sheets.get n = none) ∧ ∀ r, t.sheets.get n = some r →
          (planRow t r = none → u.sheets.get n = some r) ∧
          ∀ row, planRow t r = some row → u.sheets.get n = some { r with deliveries := r.deliveries.map (List.map fun d =>
            if d.lane = l ∧ d.status = .waiting ∧ d.rerouted = true then placeBack s row d else d) })) ∧
  ∀ (l : Fin 4) (s : State), Takes s →
    Replies (.resetLane (.given l.val)) 0x55 (.laneState s.lanes[l].state) s (Sys2Proof.Machine.resetLane l s)

/-- A word leaves a lane that is not DOWN: the oldest control word goes next, then the oldest block, then fill, and in LOOPBACK
a block takes its turn with fill on the line; an END's leaving starts the acknowledgement timer of its delivery, a block's has
flow control judged and may close its delivery, and that of an OFFER, an ABANDON or fill leaves everything as it is (R137,
R148, R156). The line in LOOPBACK, and a block on the line that its FIFO no longer holds at the head, are log 14. -/
def Obligations.LaneWordLeavesTheLane : Prop :=
  (∀ (l : Fin 4) (s : State), Runs s →
    (s.lanes[l].state = .down → Leaves (.laneWordLeaves l) s s) ∧
    (s.lanes[l].state ≠ .down → Leaves (.laneWordLeaves l) s
      (modLane l Lane.nextWord (laneWordLeft l s.lanes[l].line s)))) ∧
  (∀ x : Lane, x.state ≠ .down → x.state ≠ .loopback →
    (∀ c t, x.ctrl = c :: t → x.nextWord = { x with line := .ctrl c, ctrl := t }) ∧
    (∀ b t, x.ctrl = [] → x.fifo = b :: t → x.nextWord = { x with line := .block b.1 }) ∧
    (x.ctrl = [] → x.fifo = [] → x.nextWord = { x with line := .fill })) ∧
  (∀ x : Lane, x.state = .loopback →
    (∀ b t, x.fifo = b :: t → x.nextWord = { x with line := .looped b.1 }) ∧
    (x.fifo = [] → x.nextWord = { x with line := .fill })) ∧
  (∀ (l : Fin 4) (d : DelivNo) (n : Nat) (k : Check) (s : State), laneWordLeft l (.ctrl (.endWord d n k)) s =
    modLane l (fun x => { x with window := x.window.map fun w =>
      if w.number = d ∧ w.phase = .ending then { w with phase := .awaitAccept, timer := some x.params.ack } else w }) s) ∧
  (∀ (l : Fin 4) (s : State), laneWordLeft l .none s = s ∧ laneWordLeft l .fill s = s ∧
    (∀ d x a o r, laneWordLeft l (.ctrl (.offer d x a o r)) s = s) ∧ ∀ d, laneWordLeft l (.ctrl (.abandon d)) s = s) ∧
  ∀ (l : Fin 4) (d : DelivNo) (s t v : State),
    (∀ c m, s.lanes[l].fifo = (d, c) :: m → t = modLane l (fun x => { x with fifo := m }) s) →
    ((∀ c m, s.lanes[l].fifo ≠ (d, c) :: m) → t = s) →
    (∀ e, uploaderOf s l = some e → v = judgeGo e t) → (uploaderOf s l = none → v = t) →
    ∀ w, w = .block d ∨ w = .looped d →
      (s.lanes[l].entry d = none → laneWordLeft l w s = arbitrate v) ∧
      ∀ z hs es, s.lanes[l].entry d = some z → ownersOf s z.slot = (hs, es) →
        laneWordLeft l w s = settle hs es s.lastAlloc (arbitrate (closeDelivery l d v))
end

