-- ==== Sys2Proof/Laws/State.lean ====
section
/-! SUPPORT. One lemma for each field after each update of the state, so that no proof unfolds a record update. -/

namespace Sys2Proof.Machine

variable (s : State)

/-! `modEntry` -/

@[simp] theorem modEntry_pending (e : Nat) (f : Entry → Entry) : (modEntry e f s).pending = s.pending := rfl
@[simp] theorem modEntry_resetLow (e : Nat) (f : Entry → Entry) : (modEntry e f s).resetLow = s.resetLow := rfl
@[simp] theorem modEntry_loading (e : Nat) (f : Entry → Entry) : (modEntry e f s).loading = s.loading := rfl
@[simp] theorem modEntry_clock (e : Nat) (f : Entry → Entry) : (modEntry e f s).clock = s.clock := rfl
@[simp] theorem modEntry_cp (e : Nat) (f : Entry → Entry) : (modEntry e f s).cp = s.cp := rfl
@[simp] theorem modEntry_attention (e : Nat) (f : Entry → Entry) : (modEntry e f s).attention = s.attention := rfl
@[simp] theorem modEntry_room (e : Nat) (f : Entry → Entry) : (modEntry e f s).room = s.room := rfl
@[simp] theorem modEntry_store (e : Nat) (f : Entry → Entry) : (modEntry e f s).store = s.store := rfl
@[simp] theorem modEntry_storeState (e : Nat) (f : Entry → Entry) : (modEntry e f s).storeState = s.storeState := rfl
@[simp] theorem modEntry_save (e : Nat) (f : Entry → Entry) : (modEntry e f s).save = s.save := rfl
@[simp] theorem modEntry_ports (e : Nat) (f : Entry → Entry) : (modEntry e f s).ports = s.ports := rfl
@[simp] theorem modEntry_entries (e : Nat) (f : Entry → Entry) : (modEntry e f s).entries
    = s.entries.modify e f := rfl
@[simp] theorem modEntry_reservations (e : Nat) (f : Entry → Entry) : (modEntry e f s).reservations
    = s.reservations := rfl
@[simp] theorem modEntry_sheets (e : Nat) (f : Entry → Entry) : (modEntry e f s).sheets = s.sheets := rfl
@[simp] theorem modEntry_waiting (e : Nat) (f : Entry → Entry) : (modEntry e f s).waiting = s.waiting := rfl
@[simp] theorem modEntry_lastAlloc (e : Nat) (f : Entry → Entry) : (modEntry e f s).lastAlloc = s.lastAlloc := rfl
@[simp] theorem modEntry_batches (e : Nat) (f : Entry → Entry) : (modEntry e f s).batches = s.batches := rfl
@[simp] theorem modEntry_classes (e : Nat) (f : Entry → Entry) : (modEntry e f s).classes = s.classes := rfl
@[simp] theorem modEntry_plans (e : Nat) (f : Entry → Entry) : (modEntry e f s).plans = s.plans := rfl
@[simp] theorem modEntry_uploads (e : Nat) (f : Entry → Entry) : (modEntry e f s).uploads = s.uploads := rfl
@[simp] theorem modEntry_lastUpload (e : Nat) (f : Entry → Entry) : (modEntry e f s).lastUpload = s.lastUpload := rfl
@[simp] theorem modEntry_lanes (e : Nat) (f : Entry → Entry) : (modEntry e f s).lanes = s.lanes := rfl

/-! `modBatch` -/

@[simp] theorem modBatch_pending (h : Nat) (f : Batch → Batch) : (modBatch h f s).pending = s.pending := rfl
@[simp] theorem modBatch_resetLow (h : Nat) (f : Batch → Batch) : (modBatch h f s).resetLow = s.resetLow := rfl
@[simp] theorem modBatch_loading (h : Nat) (f : Batch → Batch) : (modBatch h f s).loading = s.loading := rfl
@[simp] theorem modBatch_clock (h : Nat) (f : Batch → Batch) : (modBatch h f s).clock = s.clock := rfl
@[simp] theorem modBatch_cp (h : Nat) (f : Batch → Batch) : (modBatch h f s).cp = s.cp := rfl
@[simp] theorem modBatch_attention (h : Nat) (f : Batch → Batch) : (modBatch h f s).attention = s.attention := rfl
@[simp] theorem modBatch_room (h : Nat) (f : Batch → Batch) : (modBatch h f s).room = s.room := rfl
@[simp] theorem modBatch_store (h : Nat) (f : Batch → Batch) : (modBatch h f s).store = s.store := rfl
@[simp] theorem modBatch_storeState (h : Nat) (f : Batch → Batch) : (modBatch h f s).storeState = s.storeState := rfl
@[simp] theorem modBatch_save (h : Nat) (f : Batch → Batch) : (modBatch h f s).save = s.save := rfl
@[simp] theorem modBatch_ports (h : Nat) (f : Batch → Batch) : (modBatch h f s).ports = s.ports := rfl
@[simp] theorem modBatch_entries (h : Nat) (f : Batch → Batch) : (modBatch h f s).entries = s.entries := rfl
@[simp] theorem modBatch_reservations (h : Nat) (f : Batch → Batch) : (modBatch h f s).reservations
    = s.reservations := rfl
@[simp] theorem modBatch_sheets (h : Nat) (f : Batch → Batch) : (modBatch h f s).sheets = s.sheets := rfl
@[simp] theorem modBatch_waiting (h : Nat) (f : Batch → Batch) : (modBatch h f s).waiting = s.waiting := rfl
@[simp] theorem modBatch_lastAlloc (h : Nat) (f : Batch → Batch) : (modBatch h f s).lastAlloc = s.lastAlloc := rfl
@[simp] theorem modBatch_batches (h : Nat) (f : Batch → Batch) : (modBatch h f s).batches
    = s.batches.modify h f := rfl
@[simp] theorem modBatch_classes (h : Nat) (f : Batch → Batch) : (modBatch h f s).classes = s.classes := rfl
@[simp] theorem modBatch_plans (h : Nat) (f : Batch → Batch) : (modBatch h f s).plans = s.plans := rfl
@[simp] theorem modBatch_uploads (h : Nat) (f : Batch → Batch) : (modBatch h f s).uploads = s.uploads := rfl
@[simp] theorem modBatch_lastUpload (h : Nat) (f : Batch → Batch) : (modBatch h f s).lastUpload = s.lastUpload := rfl
@[simp] theorem modBatch_lanes (h : Nat) (f : Batch → Batch) : (modBatch h f s).lanes = s.lanes := rfl

/-! `modSheet` -/

@[simp] theorem modSheet_pending (n : Nat) (f : Sheet → Sheet) : (modSheet n f s).pending = s.pending := rfl
@[simp] theorem modSheet_resetLow (n : Nat) (f : Sheet → Sheet) : (modSheet n f s).resetLow = s.resetLow := rfl
@[simp] theorem modSheet_loading (n : Nat) (f : Sheet → Sheet) : (modSheet n f s).loading = s.loading := rfl
@[simp] theorem modSheet_clock (n : Nat) (f : Sheet → Sheet) : (modSheet n f s).clock = s.clock := rfl
@[simp] theorem modSheet_cp (n : Nat) (f : Sheet → Sheet) : (modSheet n f s).cp = s.cp := rfl
@[simp] theorem modSheet_attention (n : Nat) (f : Sheet → Sheet) : (modSheet n f s).attention = s.attention := rfl
@[simp] theorem modSheet_room (n : Nat) (f : Sheet → Sheet) : (modSheet n f s).room = s.room := rfl
@[simp] theorem modSheet_store (n : Nat) (f : Sheet → Sheet) : (modSheet n f s).store = s.store := rfl
@[simp] theorem modSheet_storeState (n : Nat) (f : Sheet → Sheet) : (modSheet n f s).storeState = s.storeState := rfl
@[simp] theorem modSheet_save (n : Nat) (f : Sheet → Sheet) : (modSheet n f s).save = s.save := rfl
@[simp] theorem modSheet_ports (n : Nat) (f : Sheet → Sheet) : (modSheet n f s).ports = s.ports := rfl
@[simp] theorem modSheet_entries (n : Nat) (f : Sheet → Sheet) : (modSheet n f s).entries = s.entries := rfl
@[simp] theorem modSheet_reservations (n : Nat) (f : Sheet → Sheet) : (modSheet n f s).reservations
    = s.reservations := rfl
@[simp] theorem modSheet_sheets (n : Nat) (f : Sheet → Sheet) : (modSheet n f s).sheets = s.sheets.modify n f := rfl
@[simp] theorem modSheet_waiting (n : Nat) (f : Sheet → Sheet) : (modSheet n f s).waiting = s.waiting := rfl
@[simp] theorem modSheet_lastAlloc (n : Nat) (f : Sheet → Sheet) : (modSheet n f s).lastAlloc = s.lastAlloc := rfl
@[simp] theorem modSheet_batches (n : Nat) (f : Sheet → Sheet) : (modSheet n f s).batches = s.batches := rfl
@[simp] theorem modSheet_classes (n : Nat) (f : Sheet → Sheet) : (modSheet n f s).classes = s.classes := rfl
@[simp] theorem modSheet_plans (n : Nat) (f : Sheet → Sheet) : (modSheet n f s).plans = s.plans := rfl
@[simp] theorem modSheet_uploads (n : Nat) (f : Sheet → Sheet) : (modSheet n f s).uploads = s.uploads := rfl
@[simp] theorem modSheet_lastUpload (n : Nat) (f : Sheet → Sheet) : (modSheet n f s).lastUpload = s.lastUpload := rfl
@[simp] theorem modSheet_lanes (n : Nat) (f : Sheet → Sheet) : (modSheet n f s).lanes = s.lanes := rfl

/-! `modUpload` -/

@[simp] theorem modUpload_pending (e : Nat) (f : Upload → Upload) : (modUpload e f s).pending = s.pending := rfl
@[simp] theorem modUpload_resetLow (e : Nat) (f : Upload → Upload) : (modUpload e f s).resetLow = s.resetLow := rfl
@[simp] theorem modUpload_loading (e : Nat) (f : Upload → Upload) : (modUpload e f s).loading = s.loading := rfl
@[simp] theorem modUpload_clock (e : Nat) (f : Upload → Upload) : (modUpload e f s).clock = s.clock := rfl
@[simp] theorem modUpload_cp (e : Nat) (f : Upload → Upload) : (modUpload e f s).cp = s.cp := rfl
@[simp] theorem modUpload_attention (e : Nat) (f : Upload → Upload) : (modUpload e f s).attention = s.attention := rfl
@[simp] theorem modUpload_room (e : Nat) (f : Upload → Upload) : (modUpload e f s).room = s.room := rfl
@[simp] theorem modUpload_store (e : Nat) (f : Upload → Upload) : (modUpload e f s).store = s.store := rfl
@[simp] theorem modUpload_storeState (e : Nat) (f : Upload → Upload) : (modUpload e f s).storeState
    = s.storeState := rfl
@[simp] theorem modUpload_save (e : Nat) (f : Upload → Upload) : (modUpload e f s).save = s.save := rfl
@[simp] theorem modUpload_ports (e : Nat) (f : Upload → Upload) : (modUpload e f s).ports = s.ports := rfl
@[simp] theorem modUpload_entries (e : Nat) (f : Upload → Upload) : (modUpload e f s).entries = s.entries := rfl
@[simp] theorem modUpload_reservations (e : Nat) (f : Upload → Upload) : (modUpload e f s).reservations
    = s.reservations := rfl
@[simp] theorem modUpload_sheets (e : Nat) (f : Upload → Upload) : (modUpload e f s).sheets = s.sheets := rfl
@[simp] theorem modUpload_waiting (e : Nat) (f : Upload → Upload) : (modUpload e f s).waiting = s.waiting := rfl
@[simp] theorem modUpload_lastAlloc (e : Nat) (f : Upload → Upload) : (modUpload e f s).lastAlloc = s.lastAlloc := rfl
@[simp] theorem modUpload_batches (e : Nat) (f : Upload → Upload) : (modUpload e f s).batches = s.batches := rfl
@[simp] theorem modUpload_classes (e : Nat) (f : Upload → Upload) : (modUpload e f s).classes = s.classes := rfl
@[simp] theorem modUpload_plans (e : Nat) (f : Upload → Upload) : (modUpload e f s).plans = s.plans := rfl
@[simp] theorem modUpload_uploads (e : Nat) (f : Upload → Upload) : (modUpload e f s).uploads
    = s.uploads.modify e f := rfl
@[simp] theorem modUpload_lastUpload (e : Nat) (f : Upload → Upload) : (modUpload e f s).lastUpload
    = s.lastUpload := rfl
@[simp] theorem modUpload_lanes (e : Nat) (f : Upload → Upload) : (modUpload e f s).lanes = s.lanes := rfl

/-! `modPort` -/

@[simp] theorem modPort_pending (p : Fin 16) (f : Port → Port) : (modPort p f s).pending = s.pending := rfl
@[simp] theorem modPort_resetLow (p : Fin 16) (f : Port → Port) : (modPort p f s).resetLow = s.resetLow := rfl
@[simp] theorem modPort_loading (p : Fin 16) (f : Port → Port) : (modPort p f s).loading = s.loading := rfl
@[simp] theorem modPort_clock (p : Fin 16) (f : Port → Port) : (modPort p f s).clock = s.clock := rfl
@[simp] theorem modPort_cp (p : Fin 16) (f : Port → Port) : (modPort p f s).cp = s.cp := rfl
@[simp] theorem modPort_attention (p : Fin 16) (f : Port → Port) : (modPort p f s).attention = s.attention := rfl
@[simp] theorem modPort_room (p : Fin 16) (f : Port → Port) : (modPort p f s).room = s.room := rfl
@[simp] theorem modPort_store (p : Fin 16) (f : Port → Port) : (modPort p f s).store = s.store := rfl
@[simp] theorem modPort_storeState (p : Fin 16) (f : Port → Port) : (modPort p f s).storeState = s.storeState := rfl
@[simp] theorem modPort_save (p : Fin 16) (f : Port → Port) : (modPort p f s).save = s.save := rfl
@[simp] theorem modPort_ports (p : Fin 16) (f : Port → Port) : (modPort p f s).ports
    = s.ports.set p (f s.ports[p]) := rfl
@[simp] theorem modPort_entries (p : Fin 16) (f : Port → Port) : (modPort p f s).entries = s.entries := rfl
@[simp] theorem modPort_reservations (p : Fin 16) (f : Port → Port) : (modPort p f s).reservations
    = s.reservations := rfl
@[simp] theorem modPort_sheets (p : Fin 16) (f : Port → Port) : (modPort p f s).sheets = s.sheets := rfl
@[simp] theorem modPort_waiting (p : Fin 16) (f : Port → Port) : (modPort p f s).waiting = s.waiting := rfl
@[simp] theorem modPort_lastAlloc (p : Fin 16) (f : Port → Port) : (modPort p f s).lastAlloc = s.lastAlloc := rfl
@[simp] theorem modPort_batches (p : Fin 16) (f : Port → Port) : (modPort p f s).batches = s.batches := rfl
@[simp] theorem modPort_classes (p : Fin 16) (f : Port → Port) : (modPort p f s).classes = s.classes := rfl
@[simp] theorem modPort_plans (p : Fin 16) (f : Port → Port) : (modPort p f s).plans = s.plans := rfl
@[simp] theorem modPort_uploads (p : Fin 16) (f : Port → Port) : (modPort p f s).uploads = s.uploads := rfl
@[simp] theorem modPort_lastUpload (p : Fin 16) (f : Port → Port) : (modPort p f s).lastUpload = s.lastUpload := rfl
@[simp] theorem modPort_lanes (p : Fin 16) (f : Port → Port) : (modPort p f s).lanes = s.lanes := rfl

/-! `modLane` -/

@[simp] theorem modLane_pending (l : Fin 4) (f : Lane → Lane) : (modLane l f s).pending = s.pending := rfl
@[simp] theorem modLane_resetLow (l : Fin 4) (f : Lane → Lane) : (modLane l f s).resetLow = s.resetLow := rfl
@[simp] theorem modLane_loading (l : Fin 4) (f : Lane → Lane) : (modLane l f s).loading = s.loading := rfl
@[simp] theorem modLane_clock (l : Fin 4) (f : Lane → Lane) : (modLane l f s).clock = s.clock := rfl
@[simp] theorem modLane_cp (l : Fin 4) (f : Lane → Lane) : (modLane l f s).cp = s.cp := rfl
@[simp] theorem modLane_attention (l : Fin 4) (f : Lane → Lane) : (modLane l f s).attention = s.attention := rfl
@[simp] theorem modLane_room (l : Fin 4) (f : Lane → Lane) : (modLane l f s).room = s.room := rfl
@[simp] theorem modLane_store (l : Fin 4) (f : Lane → Lane) : (modLane l f s).store = s.store := rfl
@[simp] theorem modLane_storeState (l : Fin 4) (f : Lane → Lane) : (modLane l f s).storeState = s.storeState := rfl
@[simp] theorem modLane_save (l : Fin 4) (f : Lane → Lane) : (modLane l f s).save = s.save := rfl
@[simp] theorem modLane_ports (l : Fin 4) (f : Lane → Lane) : (modLane l f s).ports = s.ports := rfl
@[simp] theorem modLane_entries (l : Fin 4) (f : Lane → Lane) : (modLane l f s).entries = s.entries := rfl
@[simp] theorem modLane_reservations (l : Fin 4) (f : Lane → Lane) : (modLane l f s).reservations
    = s.reservations := rfl
@[simp] theorem modLane_sheets (l : Fin 4) (f : Lane → Lane) : (modLane l f s).sheets = s.sheets := rfl
@[simp] theorem modLane_waiting (l : Fin 4) (f : Lane → Lane) : (modLane l f s).waiting = s.waiting := rfl
@[simp] theorem modLane_lastAlloc (l : Fin 4) (f : Lane → Lane) : (modLane l f s).lastAlloc = s.lastAlloc := rfl
@[simp] theorem modLane_batches (l : Fin 4) (f : Lane → Lane) : (modLane l f s).batches = s.batches := rfl
@[simp] theorem modLane_classes (l : Fin 4) (f : Lane → Lane) : (modLane l f s).classes = s.classes := rfl
@[simp] theorem modLane_plans (l : Fin 4) (f : Lane → Lane) : (modLane l f s).plans = s.plans := rfl
@[simp] theorem modLane_uploads (l : Fin 4) (f : Lane → Lane) : (modLane l f s).uploads = s.uploads := rfl
@[simp] theorem modLane_lastUpload (l : Fin 4) (f : Lane → Lane) : (modLane l f s).lastUpload = s.lastUpload := rfl
@[simp] theorem modLane_lanes (l : Fin 4) (f : Lane → Lane) : (modLane l f s).lanes
    = s.lanes.set l (f s.lanes[l]) := rfl

/-! `dropAttention` -/

@[simp] theorem dropAttention_pending (q : Attn → Bool) : (dropAttention q s).pending = s.pending := rfl
@[simp] theorem dropAttention_resetLow (q : Attn → Bool) : (dropAttention q s).resetLow = s.resetLow := rfl
@[simp] theorem dropAttention_loading (q : Attn → Bool) : (dropAttention q s).loading = s.loading := rfl
@[simp] theorem dropAttention_clock (q : Attn → Bool) : (dropAttention q s).clock = s.clock := rfl
@[simp] theorem dropAttention_cp (q : Attn → Bool) : (dropAttention q s).cp = s.cp := rfl
@[simp] theorem dropAttention_attention (q : Attn → Bool) : (dropAttention q s).attention
    = s.attention.filter fun a => !q a := rfl
@[simp] theorem dropAttention_room (q : Attn → Bool) : (dropAttention q s).room = s.room := rfl
@[simp] theorem dropAttention_store (q : Attn → Bool) : (dropAttention q s).store = s.store := rfl
@[simp] theorem dropAttention_storeState (q : Attn → Bool) : (dropAttention q s).storeState = s.storeState := rfl
@[simp] theorem dropAttention_save (q : Attn → Bool) : (dropAttention q s).save = s.save := rfl
@[simp] theorem dropAttention_ports (q : Attn → Bool) : (dropAttention q s).ports = s.ports := rfl
@[simp] theorem dropAttention_entries (q : Attn → Bool) : (dropAttention q s).entries = s.entries := rfl
@[simp] theorem dropAttention_reservations (q : Attn → Bool) : (dropAttention q s).reservations
    = s.reservations := rfl
@[simp] theorem dropAttention_sheets (q : Attn → Bool) : (dropAttention q s).sheets = s.sheets := rfl
@[simp] theorem dropAttention_waiting (q : Attn → Bool) : (dropAttention q s).waiting = s.waiting := rfl
@[simp] theorem dropAttention_lastAlloc (q : Attn → Bool) : (dropAttention q s).lastAlloc = s.lastAlloc := rfl
@[simp] theorem dropAttention_batches (q : Attn → Bool) : (dropAttention q s).batches = s.batches := rfl
@[simp] theorem dropAttention_classes (q : Attn → Bool) : (dropAttention q s).classes = s.classes := rfl
@[simp] theorem dropAttention_plans (q : Attn → Bool) : (dropAttention q s).plans = s.plans := rfl
@[simp] theorem dropAttention_uploads (q : Attn → Bool) : (dropAttention q s).uploads = s.uploads := rfl
@[simp] theorem dropAttention_lastUpload (q : Attn → Bool) : (dropAttention q s).lastUpload = s.lastUpload := rfl
@[simp] theorem dropAttention_lanes (q : Attn → Bool) : (dropAttention q s).lanes = s.lanes := rfl

/-! `overrun` -/

@[simp] theorem overrun_pending : (overrun s).pending = s.pending := rfl
@[simp] theorem overrun_resetLow : (overrun s).resetLow = s.resetLow := rfl
@[simp] theorem overrun_loading : (overrun s).loading = s.loading := rfl
@[simp] theorem overrun_clock : (overrun s).clock = s.clock := rfl
@[simp] theorem overrun_cp : (overrun s).cp = { s.cp with overrun := true } := rfl
@[simp] theorem overrun_attention : (overrun s).attention = s.attention := rfl
@[simp] theorem overrun_room : (overrun s).room = s.room := rfl
@[simp] theorem overrun_store : (overrun s).store = s.store := rfl
@[simp] theorem overrun_storeState : (overrun s).storeState = s.storeState := rfl
@[simp] theorem overrun_save : (overrun s).save = s.save := rfl
@[simp] theorem overrun_ports : (overrun s).ports = s.ports := rfl
@[simp] theorem overrun_entries : (overrun s).entries = s.entries := rfl
@[simp] theorem overrun_reservations : (overrun s).reservations = s.reservations := rfl
@[simp] theorem overrun_sheets : (overrun s).sheets = s.sheets := rfl
@[simp] theorem overrun_waiting : (overrun s).waiting = s.waiting := rfl
@[simp] theorem overrun_lastAlloc : (overrun s).lastAlloc = s.lastAlloc := rfl
@[simp] theorem overrun_batches : (overrun s).batches = s.batches := rfl
@[simp] theorem overrun_classes : (overrun s).classes = s.classes := rfl
@[simp] theorem overrun_plans : (overrun s).plans = s.plans := rfl
@[simp] theorem overrun_uploads : (overrun s).uploads = s.uploads := rfl
@[simp] theorem overrun_lastUpload : (overrun s).lastUpload = s.lastUpload := rfl
@[simp] theorem overrun_lanes : (overrun s).lanes = s.lanes := rfl

/-! `assemble` -/

@[simp] theorem assemble_pending (k : Byte) (r : Result) (d : ReplyData) : (assemble k r d s).pending
    = s.pending := rfl
@[simp] theorem assemble_resetLow (k : Byte) (r : Result) (d : ReplyData) : (assemble k r d s).resetLow
    = s.resetLow := rfl
@[simp] theorem assemble_loading (k : Byte) (r : Result) (d : ReplyData) : (assemble k r d s).loading
    = s.loading := rfl
@[simp] theorem assemble_clock (k : Byte) (r : Result) (d : ReplyData) : (assemble k r d s).clock = s.clock := rfl
@[simp] theorem assemble_cp (k : Byte) (r : Result) (d : ReplyData) : (assemble k r d s).cp =
    { s.cp with phase := .replyReady, request := none, reply := some ⟨k, r, s.cp.overrun, d⟩, overrun := false } := rfl
@[simp] theorem assemble_attention (k : Byte) (r : Result) (d : ReplyData) : (assemble k r d s).attention
    = s.attention := rfl
@[simp] theorem assemble_room (k : Byte) (r : Result) (d : ReplyData) : (assemble k r d s).room = s.room := rfl
@[simp] theorem assemble_store (k : Byte) (r : Result) (d : ReplyData) : (assemble k r d s).store = s.store := rfl
@[simp] theorem assemble_storeState (k : Byte) (r : Result) (d : ReplyData) : (assemble k r d s).storeState
    = s.storeState := rfl
@[simp] theorem assemble_save (k : Byte) (r : Result) (d : ReplyData) : (assemble k r d s).save = s.save := rfl
@[simp] theorem assemble_ports (k : Byte) (r : Result) (d : ReplyData) : (assemble k r d s).ports = s.ports := rfl
@[simp] theorem assemble_entries (k : Byte) (r : Result) (d : ReplyData) : (assemble k r d s).entries
    = s.entries := rfl
@[simp] theorem assemble_reservations (k : Byte) (r : Result) (d : ReplyData) : (assemble k r d s).reservations
    = s.reservations := rfl
@[simp] theorem assemble_sheets (k : Byte) (r : Result) (d : ReplyData) : (assemble k r d s).sheets = s.sheets := rfl
@[simp] theorem assemble_waiting (k : Byte) (r : Result) (d : ReplyData) : (assemble k r d s).waiting
    = s.waiting := rfl
@[simp] theorem assemble_lastAlloc (k : Byte) (r : Result) (d : ReplyData) : (assemble k r d s).lastAlloc
    = s.lastAlloc := rfl
@[simp] theorem assemble_batches (k : Byte) (r : Result) (d : ReplyData) : (assemble k r d s).batches
    = s.batches := rfl
@[simp] theorem assemble_classes (k : Byte) (r : Result) (d : ReplyData) : (assemble k r d s).classes
    = s.classes := rfl
@[simp] theorem assemble_plans (k : Byte) (r : Result) (d : ReplyData) : (assemble k r d s).plans = s.plans := rfl
@[simp] theorem assemble_uploads (k : Byte) (r : Result) (d : ReplyData) : (assemble k r d s).uploads
    = s.uploads := rfl
@[simp] theorem assemble_lastUpload (k : Byte) (r : Result) (d : ReplyData) : (assemble k r d s).lastUpload
    = s.lastUpload := rfl
@[simp] theorem assemble_lanes (k : Byte) (r : Result) (d : ReplyData) : (assemble k r d s).lanes = s.lanes := rfl

end Sys2Proof.Machine
end

