-- ==== Sys2Proof/Laws/Fixed.lean ====
section
/-! SUPPORT. What no operation of batches, sheets, stations and lanes touches: the queue, the clock, the Command Port, the room parameters, the Settings Store and the Class Table. One lemma for each operation. -/

namespace Sys2Proof.Machine

/-- The parts of the state that only the Command Port's own requests, the store, the clock and a start change. -/
def fixed (s : State) : List Instr × Bool × Bool × BitVec 32 × CommandPort × RoomParams × Store × StoreState ×
    Option Save × Vector ClassEntry 64 :=
  (s.pending, s.resetLow, s.loading, s.clock, s.cp, s.room, s.store, s.storeState, s.save, s.classes)

/-- A fold of operations that keep them keeps them. -/
theorem fixed_foldl {α : Type} (f : State → α → State) (h : ∀ s a, fixed (f s a) = fixed s) (l : List α) :
    ∀ s, fixed (l.foldl f s) = fixed s := by
  induction l with
  | nil => intro s; rfl
  | cons a l ih => intro s; rw [List.foldl_cons, ih, h]

@[simp] theorem fixed_modEntry (e : Nat) (f : Entry → Entry) (s : State) : fixed (modEntry e f s) = fixed s := rfl
@[simp] theorem fixed_modBatch (h : Nat) (f : Batch → Batch) (s : State) : fixed (modBatch h f s) = fixed s := rfl
@[simp] theorem fixed_modSheet (n : Nat) (f : Sheet → Sheet) (s : State) : fixed (modSheet n f s) = fixed s := rfl
@[simp] theorem fixed_modUpload (e : Nat) (f : Upload → Upload) (s : State) : fixed (modUpload e f s) = fixed s := rfl
@[simp] theorem fixed_modPort (p : Fin 16) (f : Port → Port) (s : State) : fixed (modPort p f s) = fixed s := rfl
@[simp] theorem fixed_modLane (l : Fin 4) (f : Lane → Lane) (s : State) : fixed (modLane l f s) = fixed s := rfl
@[simp] theorem fixed_dropAttention (q : Attn → Bool) (s : State) : fixed (dropAttention q s) = fixed s := rfl

@[simp] theorem fixed_modPlan (n : Nat) (f : Plan → Plan) (s : State) : fixed (modPlan n f s) = fixed s := by
  unfold modPlan; split <;> rfl
@[simp] theorem fixed_raise (k : AttnKind) (i : Nat) (s : State) : fixed (raise k i s) = fixed s := by
  unfold raise; split <;> rfl
@[simp] theorem fixed_onQueues (e : Nat) (f : Queues → Queues) (s : State) : fixed (onQueues e f s) = fixed s := by
  unfold onQueues; (repeat' split) <;> simp
@[simp] theorem fixed_judgePausesOf (h : Nat) (s : State) : fixed (judgePausesOf h s) = fixed s := by
  unfold judgePausesOf; (repeat' split) <;> simp
@[simp] theorem fixed_completeOnce (h : Nat) (s : State) : fixed (completeOnce h s) = fixed s := by
  unfold completeOnce; (repeat' split) <;> simp
@[simp] theorem fixed_completeCheckpoints (n h : Nat) (s : State) : fixed (completeCheckpoints n h s) = fixed s := by
  induction n generalizing s with
  | zero => rfl
  | succ n ih => unfold completeCheckpoints; split <;> simp [ih]
@[simp] theorem fixed_unbindPair (h e : Nat) (s : State) : fixed (unbindPair h e s) = fixed s := by
  unfold unbindPair; simp
@[simp] theorem fixed_enterClosed (h : Nat) (o : BatchOutcome) (s : State) : fixed (enterClosed h o s) = fixed s := by
  unfold enterClosed; simp
@[simp] theorem fixed_judgeUnbind (h : Nat) (b : Batch) (s : State) : fixed (judgeUnbind h b s) = fixed s := by
  unfold judgeUnbind; (repeat' split) <;> simp
@[simp] theorem fixed_judgeClose (h : Nat) (s : State) : fixed (judgeClose h s) = fixed s := by
  unfold judgeClose; (repeat' split) <;> simp
@[simp] theorem fixed_judgeClosing (h : Nat) (s : State) : fixed (judgeClosing h s) = fixed s := by
  unfold judgeClosing; (repeat' split) <;> simp
@[simp] theorem fixed_judgeBatch (h : Nat) (s : State) : fixed (judgeBatch h s) = fixed s := by
  unfold judgeBatch; simp
@[simp] theorem fixed_allocate (e n : Nat) (s : State) : fixed (allocate e n s) = fixed s := by
  unfold allocate; split
  · rfl
  · split
    · simp only [fixed_judgePausesOf, fixed_onQueues, fixed_modEntry, fixed_modBatch]; rfl
    · rfl
@[simp] theorem fixed_joinWaiting (e : Nat) (s : State) : fixed (joinWaiting e s) = fixed s := by
  unfold joinWaiting; split <;> rfl
@[simp] theorem fixed_rejudge (e : Nat) (s : State) : fixed (rejudge e s) = fixed s := by
  unfold rejudge; (repeat' split) <;> simp
@[simp] theorem fixed_serveFirst (l : List Nat) (s : State) : fixed (serveFirst l s) = fixed s := by
  induction l generalizing s with
  | nil => rfl
  | cons e l ih =>
    unfold serveFirst; split
    · split <;> simp
    · rw [ih]; rfl
@[simp] theorem fixed_offerSlot (s : State) : fixed (offerSlot s) = fixed s := by
  unfold offerSlot; simp
@[simp] theorem fixed_offerSlots (n : Nat) (s : State) : fixed (offerSlots n s) = fixed s := by
  induction n generalizing s with
  | zero => rfl
  | succ n ih => unfold offerSlots; simp [ih]
@[simp] theorem fixed_rejudgeAll (es : List Nat) (start : Nat) (s : State) : fixed (rejudgeAll es start s) = fixed s := by
  unfold rejudgeAll; exact fixed_foldl _ (fun s e => fixed_rejudge e s) _ s
@[simp] theorem fixed_settle (hs es : List Nat) (start : Nat) (s : State) : fixed (settle hs es start s) = fixed s := by
  unfold settle; rw [fixed_rejudgeAll]; exact fixed_foldl _ (fun s h => fixed_judgeBatch h s) _ s
@[simp] theorem fixed_releaseDue (e : Nat) (t : Tag) (o : ReleaseOutcome) (s : State) : fixed (releaseDue e t o s) = fixed s := by
  unfold releaseDue; (repeat' split) <;> simp
@[simp] theorem fixed_dropCapture (r : Sheet) (s : State) : fixed (dropCapture r s) = fixed s := by
  unfold dropCapture; (repeat' split) <;> simp
@[simp] theorem fixed_removeRecord (n : Nat) (o : Option ReleaseOutcome) (s : State) : fixed (removeRecord n o s) = fixed s := by
  unfold removeRecord; split
  · rfl
  · split
    · simp only [fixed_releaseDue, fixed_dropCapture, fixed_modEntry, fixed_modBatch]; rfl
    · simp only [fixed_dropCapture, fixed_modEntry, fixed_modBatch]; rfl
@[simp] theorem fixed_retireRecord (n : Nat) (o : Option ReleaseOutcome) (s : State) : fixed (retireRecord n o s) = fixed s := by
  unfold retireRecord; simp
@[simp] theorem fixed_freePicking (n : Nat) (s : State) : fixed (freePicking n s) = fixed s := by
  unfold freePicking; split
  · rfl
  · simp only [fixed_onQueues, fixed_modEntry, fixed_modBatch]; rfl
@[simp] theorem fixed_completeIfDone (n : Nat) (s : State) : fixed (completeIfDone n s) = fixed s := by
  unfold completeIfDone; (repeat' split) <;> simp
@[simp] theorem fixed_newSuspect (n : Nat) (s : State) : fixed (newSuspect n s) = fixed s := by
  unfold newSuspect; (repeat' split) <;> simp
@[simp] theorem fixed_gainEvidence (f : Evidence → Evidence) (n : Nat) (s : State) : fixed (gainEvidence f n s) = fixed s := by
  unfold gainEvidence; (repeat' split) <;> simp
@[simp] theorem fixed_halt (e : Nat) (c : HaltCause) (s : State) : fixed (halt e c s) = fixed s := by
  unfold halt; (repeat' split) <;> simp
@[simp] theorem fixed_leavePath (e n : Nat) (s : State) : fixed (leavePath e n s) = fixed s := by
  unfold leavePath; (repeat' split) <;> simp
@[simp] theorem fixed_emptyPath (f : Evidence → Evidence) (e : Nat) (s : State) : fixed (emptyPath f e s) = fixed s := by
  unfold emptyPath; split
  · rfl
  · exact fixed_foldl _ (fun s c => by simp) _ s

/-! Images and lanes -/

@[simp] theorem fixed_modDelivery (n : Nat) (d : Side) (r : Role) (f : Delivery → Delivery) (s : State) : fixed (modDelivery n d r f s) = fixed s := by
  unfold modDelivery; simp
@[simp] theorem fixed_buildEntries (n : Nat) (s : State) : fixed (buildEntries n s) = fixed s := by
  unfold buildEntries; (repeat' split) <;> simp
@[simp] theorem fixed_abandonOn (d : Delivery) (s : State) : fixed (abandonOn d s) = fixed s := by
  unfold abandonOn; (repeat' split) <;> simp
@[simp] theorem fixed_withdrawDeliveries (n : Nat) (s : State) : fixed (withdrawDeliveries n s) = fixed s := by
  unfold withdrawDeliveries; split
  · rfl
  · rw [fixed_modSheet]; exact fixed_foldl _ (fun s d => fixed_abandonOn d s) _ s
@[simp] theorem fixed_endUpload (e : Nat) (s : State) : fixed (endUpload e s) = fixed s := by
  unfold endUpload; rw [fixed_onQueues]; rfl
@[simp] theorem fixed_abandonDest (n : Nat) (d : Side) (x : Fin 4 × Role) (s : State) : fixed (abandonDest n d s x) = fixed s := by
  unfold abandonDest; (repeat' split) <;> simp
@[simp] theorem fixed_abandonUpload (e : Nat) (s : State) : fixed (abandonUpload e s) = fixed s := by
  unfold abandonUpload; split
  · rfl
  · rw [fixed_endUpload]; exact fixed_foldl _ (fun s x => fixed_abandonDest _ _ x s) _ s
@[simp] theorem fixed_abandonUploadOf (n : Nat) (r : Sheet) (s : State) : fixed (abandonUploadOf n r s) = fixed s := by
  unfold abandonUploadOf; (repeat' split) <;> simp
@[simp] theorem fixed_faultRecord (n : Nat) (r : Sheet) (c : FaultCause) (s : State) : fixed (faultRecord n r c s) = fixed s := by
  unfold faultRecord; (repeat' split) <;> simp
@[simp] theorem fixed_enterFault (n : Nat) (c : FaultCause) (s : State) : fixed (enterFault n c s) = fixed s := by
  unfold enterFault; (repeat' split) <;> simp
@[simp] theorem fixed_countFailure (n : Nat) (s : State) : fixed (countFailure n s) = fixed s := by
  unfold countFailure; (repeat' split) <;> simp
@[simp] theorem fixed_judgeGo (e : Nat) (s : State) : fixed (judgeGo e s) = fixed s := by
  unfold judgeGo; (repeat' split) <;> simp
@[simp] theorem fixed_loseDest (l : Fin 4) (s : State) : fixed (loseDest l s) = fixed s := by
  unfold loseDest; dsimp only; (repeat' split) <;> simp
@[simp] theorem fixed_giveBack (l : Fin 4) (w : WindowEntry) (s : State) : fixed (giveBack l s w) = fixed s := by
  unfold giveBack; (repeat' split) <;> simp
@[simp] theorem fixed_failureEffects (l : Fin 4) (s : State) : fixed (failureEffects l s) = fixed s := by
  unfold failureEffects; rw [fixed_modLane]; exact fixed_foldl _ (fun s w => fixed_giveBack l w s) _ s
@[simp] theorem fixed_failLane (l : Fin 4) (s : State) : fixed (failLane l s) = fixed s := by
  unfold failLane; simp
@[simp] theorem fixed_loseLine (l : Fin 4) (s : State) : fixed (loseLine l s) = fixed s := by
  unfold loseLine; (repeat' split) <;> simp
@[simp] theorem fixed_offerEntry (n : Nat) (x : Serial) (b : Bool) (d : Delivery) (s : State) : fixed (offerEntry n x b s d) = fixed s := by
  unfold offerEntry; simp
@[simp] theorem fixed_startUpload (e : Nat) (c : Eligible) (s : State) : fixed (startUpload e c s) = fixed s := by
  unfold startUpload; rw [fixed_onQueues]; exact fixed_foldl _ (fun s d => fixed_offerEntry _ _ _ d s) _ s
@[simp] theorem fixed_arbitrateN (n : Nat) (s : State) : fixed (arbitrateN n s) = fixed s := by
  induction n generalizing s with
  | zero => rfl
  | succ n ih => unfold arbitrateN; split <;> simp [ih]
@[simp] theorem fixed_arbitrate (s : State) : fixed (arbitrate s) = fixed s := by
  unfold arbitrate; simp
@[simp] theorem fixed_failUpload (e : Nat) (s : State) : fixed (failUpload e s) = fixed s := by
  unfold failUpload; (repeat' split) <;> simp
@[simp] theorem fixed_deliveryDone (l : Fin 4) (w : WindowEntry) (s : State) : fixed (deliveryDone l w s) = fixed s := by
  unfold deliveryDone; simp
@[simp] theorem fixed_loopbackDone (l : Fin 4) (w : WindowEntry) (s : State) : fixed (loopbackDone l w s) = fixed s := by
  unfold loopbackDone; simp
@[simp] theorem fixed_closeDelivery (l : Fin 4) (d : DelivNo) (s : State) : fixed (closeDelivery l d s) = fixed s := by
  unfold closeDelivery; dsimp only; (repeat' split) <;> simp
@[simp] theorem fixed_uploadFails (e : Nat) (u : Upload) (s : State) : fixed (uploadFails e u s) = fixed s := by
  unfold uploadFails; split; simp
@[simp] theorem fixed_copyBlock (u : Upload) (b : List Byte) (d : Fin 4 × Role) (s : State) : fixed (copyBlock u b s d) = fixed s := by
  unfold copyBlock; (repeat' split) <;> simp
@[simp] theorem fixed_flowAfterBlock (e : Nat) (u : Upload) (s : State) : fixed (flowAfterBlock e u s) = fixed s := by
  unfold flowAfterBlock; (repeat' split) <;> simp
@[simp] theorem fixed_blockTaken (b : List Byte) (e : Nat) (s : State) : fixed (blockTaken b e s) = fixed s := by
  unfold blockTaken; split
  · rfl
  · split
    · rfl
    · split
      · simp
      · rw [fixed_flowAfterBlock, fixed_foldl _ (fun s d => fixed_copyBlock _ _ d s), fixed_modUpload]
@[simp] theorem fixed_imageStartTaken (t : Tag) (d : Side) (n e : Nat) (s : State) : fixed (imageStartTaken t d n e s) = fixed s := by
  unfold imageStartTaken; (repeat' split) <;> simp
@[simp] theorem fixed_endDest (u : Upload) (k : Check) (d : Fin 4 × Role) (s : State) : fixed (endDest u k s d) = fixed s := by
  unfold endDest; (repeat' split) <;> simp
@[simp] theorem fixed_imageEndTaken (k : Check) (e : Nat) (s : State) : fixed (imageEndTaken k e s) = fixed s := by
  unfold imageEndTaken; split
  · rfl
  · split
    · rfl
    · split
      · rw [fixed_settle, fixed_arbitrate, fixed_foldl _ (fun s d => fixed_endDest _ _ d s), fixed_endUpload]
      · simp
@[simp] theorem fixed_stallExpiry (e : Nat) (s : State) : fixed (stallExpiry e s) = fixed s := by
  unfold stallExpiry; (repeat' split) <;> simp
@[simp] theorem fixed_readyRecord (n : Nat) (r : Sheet) (d : Side) (s : State) : fixed (readyRecord n r d s) = fixed s := by
  unfold readyRecord markReady; split
  · rfl
  · split <;> simp
@[simp] theorem fixed_readyTaken (t : Tag) (n e : Nat) (s : State) : fixed (readyTaken t n e s) = fixed s := by
  unfold readyTaken; (repeat' split) <;> simp
@[simp] theorem fixed_takeLaneWord (l : Fin 4) (k : State → State) (h : ∀ t, fixed (k t) = fixed t) (s : State) : fixed (takeLaneWord l k s) = fixed s := by
  unfold takeLaneWord; simp only []; split <;> simp [h]
@[simp] theorem fixed_laneMalformed (l : Fin 4) (s : State) : fixed (laneMalformed l s) = fixed s := by
  unfold laneMalformed; dsimp only; (repeat' split) <;> simp
@[simp] theorem fixed_laneSilence (l : Fin 4) (s : State) : fixed (laneSilence l s) = fixed s := by
  unfold laneSilence; (repeat' split) <;> simp
@[simp] theorem fixed_awaitSecure (l : Fin 4) (w : WindowEntry) (s : State) : fixed (awaitSecure l w s) = fixed s := by
  unfold awaitSecure; simp
@[simp] theorem fixed_endDone (l : Fin 4) (w : WindowEntry) (s : State) : fixed (endDone l w s) = fixed s := by
  unfold endDone; split; simp
@[simp] theorem fixed_acceptTaken (l : Fin 4) (d : DelivNo) (s : State) : fixed (acceptTaken l d s) = fixed s := by
  unfold acceptTaken; (repeat' split) <;> simp
@[simp] theorem fixed_securedTaken (l : Fin 4) (d : DelivNo) (s : State) : fixed (securedTaken l d s) = fixed s := by
  unfold securedTaken; (repeat' split) <;> simp
@[simp] theorem fixed_refuseEntry (l : Fin 4) (w : WindowEntry) (r : RefuseReason) (s : State) : fixed (refuseEntry l w r s) = fixed s := by
  unfold refuseEntry; (repeat' split) <;> simp
@[simp] theorem fixed_refuseTaken (l : Fin 4) (d : DelivNo) (r : RefuseReason) (s : State) : fixed (refuseTaken l d r s) = fixed s := by
  unfold refuseTaken; (repeat' split) <;> simp
@[simp] theorem fixed_deliveryExpiry (l : Fin 4) (d : DelivNo) (p : WindowPhase) (s : State) : fixed (deliveryExpiry l d p s) = fixed s := by
  unfold deliveryExpiry; (repeat' split) <;> simp
@[simp] theorem fixed_blockLeft (l : Fin 4) (d : DelivNo) (s : State) : fixed (blockLeft l d s) = fixed s := by
  unfold blockLeft; simp only []; split <;> (try rw [fixed_settle]) <;> simp <;> split <;> simp
@[simp] theorem fixed_laneWordLeft (l : Fin 4) (w : LaneLine) (s : State) : fixed (laneWordLeft l w s) = fixed s := by
  unfold laneWordLeft; (repeat' split) <;> simp
@[simp] theorem fixed_laneLeaves (l : Fin 4) (s : State) : fixed (laneLeaves l s) = fixed s := by
  unfold laneLeaves; (repeat' split) <;> simp
@[simp] theorem fixed_replaceWaiting (l : Fin 4) (n : Nat) (s : State) : fixed (replaceWaiting l s n) = fixed s := by
  unfold replaceWaiting; (repeat' split) <;> simp
@[simp] theorem fixed_resetLane (l : Fin 4) (s : State) : fixed (resetLane l s) = fixed s := by
  unfold resetLane; rw [fixed_arbitrate, fixed_modLane]; exact (fixed_foldl _ (fun s n => fixed_replaceWaiting l n s) _ _).trans (fixed_failureEffects l s)

/-! Ports and stations -/

@[simp] theorem fixed_reserveEntry (i : Nat) (s : State) : fixed (reserveEntry i s) = fixed s := by
  unfold reserveEntry; split <;> rfl
@[simp] theorem fixed_releaseReservation (p : Fin 16) (s : State) : fixed (releaseReservation p s) = fixed s := by
  unfold releaseReservation; (repeat' split) <;> simp
@[simp] theorem fixed_requeryDuplicate (i : StationId) (s : State) : fixed (requeryDuplicate i s) = fixed s := by
  unfold requeryDuplicate; (repeat' split) <;> simp
@[simp] theorem fixed_passRequery (f : Option StationId) (s : State) : fixed (passRequery f s) = fixed s := by
  unfold passRequery; (repeat' split) <;> simp
@[simp] theorem fixed_stopTimer (e : Nat) (s : State) : fixed (stopTimer e s) = fixed s := by
  unfold stopTimer; simp
@[simp] theorem fixed_freePickingOf (e : Nat) (s : State) : fixed (freePickingOf e s).1 = fixed s := by
  unfold freePickingOf; split <;> simp
@[simp] theorem fixed_detach (e : Nat) (p : Fin 16) (s : State) : fixed (detach e p s) = fixed s := by
  unfold detach; split
  · rfl
  · have h := fixed_freePickingOf e
    simp only [fixed_arbitrate, fixed_settle]
    split <;> simp [h]
@[simp] theorem fixed_portDown (p : Fin 16) (s : State) : fixed (portDown p s) = fixed s := by
  unfold portDown; dsimp only; (repeat' split) <;> simp
@[simp] theorem fixed_attach (e : Nat) (p : Fin 16) (w : Ident) (s : State) : fixed (attach e p w s) = fixed s := by
  unfold attach; split
  · rfl
  · simp only [fixed_arbitrate, fixed_settle, fixed_modEntry, fixed_modPort]
    exact fixed_foldl _ (fun s n => fixed_enterFault n _ s) _ s
@[simp] theorem fixed_identify (p : Fin 16) (w : Ident) (s : State) : fixed (identify p w s) = fixed s := by
  unfold identify; simp only []; split
  · split <;> simp
  · split
    · simp only [fixed_passRequery, fixed_raise, fixed_attach]; rfl
    · simp
@[simp] theorem fixed_takeWord (p : Fin 16) (k : Nat → State → State) (h : ∀ e t, fixed (k e t) = fixed t) (s : State) : fixed (takeWord p k s) = fixed s := by
  unfold takeWord; simp only []; split <;> simp [h]
@[simp] theorem fixed_takeMalformed (p : Fin 16) (s : State) : fixed (takeMalformed p s) = fixed s := by
  unfold takeMalformed; (repeat' split) <;> simp
@[simp] theorem fixed_lineActivity (p : Fin 16) (s : State) : fixed (lineActivity p s) = fixed s := by
  unfold lineActivity; (repeat' split) <;> simp
@[simp] theorem fixed_queryExpiry (p : Fin 16) (s : State) : fixed (queryExpiry p s) = fixed s := by
  unfold queryExpiry; (repeat' split) <;> simp
@[simp] theorem fixed_refreshFacts (e : Nat) (w : Ident) (s : State) : fixed (refreshFacts e w s) = fixed s := by
  unfold refreshFacts; simp
@[simp] theorem fixed_identUp (p : Fin 16) (e : Nat) (w : Ident) (s : State) : fixed (identUp p e w s) = fixed s := by
  unfold identUp; (repeat' split) <;> simp
@[simp] theorem fixed_identTaken (p : Fin 16) (w : Ident) (s : State) : fixed (identTaken p w s) = fixed s := by
  unfold identTaken; (repeat' split) <;> simp
@[simp] theorem fixed_takeCall (e : Nat) (p : Fin 16) (c : Bool) (s : State) : fixed (takeCall e p c s) = fixed s := by
  unfold takeCall; (repeat' split) <;> simp
@[simp] theorem fixed_fillView (e : Nat) (w : StatusWord) (s : State) : fixed (fillView e w s) = fixed s := by
  unfold fillView; simp
@[simp] theorem fixed_onEntry (e : Nat) (f : Entry → State → State) (h : ∀ x t, fixed (f x t) = fixed t) (s : State) : fixed (onEntry e f s) = fixed s := by
  unfold onEntry; split <;> simp [h]
@[simp] theorem fixed_judgeCover (e : Nat) (x : Entry) (s : State) : fixed (judgeCover e x s) = fixed s := by
  unfold judgeCover; (repeat' split) <;> simp
@[simp] theorem fixed_judgeReverse (e : Nat) (x : Entry) (s : State) : fixed (judgeReverse e x s) = fixed s := by
  unfold judgeReverse; (repeat' split) <;> simp
@[simp] theorem fixed_judgeJam (e : Nat) (x : Entry) (s : State) : fixed (judgeJam e x s) = fixed s := by
  unfold judgeJam; (repeat' split) <;> simp
@[simp] theorem fixed_endClearing (e : Nat) (s : State) : fixed (endClearing e s) = fixed s := by
  unfold endClearing; simp
@[simp] theorem fixed_judgeClearing (e : Nat) (x : Entry) (s : State) : fixed (judgeClearing e x s) = fixed s := by
  unfold judgeClearing; (repeat' split) <;> simp
@[simp] theorem fixed_statusTaken (p : Fin 16) (w : StatusWord) (e : Nat) (s : State) : fixed (statusTaken p w e s) = fixed s := by
  unfold statusTaken; simp
@[simp] theorem fixed_grantLeft (e : Nat) (t : Tag) (s : State) : fixed (grantLeft e t s) = fixed s := by
  unfold grantLeft; (repeat' split) <;> simp
@[simp] theorem fixed_uploadLeft (e : Nat) (t : Tag) (d : Side) (s : State) : fixed (uploadLeft e t d s) = fixed s := by
  unfold uploadLeft; simp
@[simp] theorem fixed_wordLeft (p : Fin 16) (w : DownWord) (s : State) : fixed (wordLeft p w s) = fixed s := by
  unfold wordLeft; dsimp only; (repeat' split) <;> simp
@[simp] theorem fixed_nextWord (p : Fin 16) (s : State) : fixed (nextWord p s) = fixed s := by
  unfold nextWord; simp
@[simp] theorem fixed_wordLeaves (p : Fin 16) (s : State) : fixed (wordLeaves p s) = fixed s := by
  unfold wordLeaves; dsimp only; (repeat' split) <;> simp

/-! The paper path and verdicts -/

@[simp] theorem fixed_modPlace (e n : Nat) (f : Place → Place) (s : State) : fixed (modPlace e n f s) = fixed s := by
  unfold modPlace; simp
@[simp] theorem fixed_orderDivert (e n : Nat) (t : Tag) (s : State) : fixed (orderDivert e n t s) = fixed s := by
  unfold orderDivert; simp
@[simp] theorem fixed_dispose (e n : Nat) (s : State) : fixed (dispose e n s) = fixed s := by
  unfold dispose; (repeat' split) <;> simp
@[simp] theorem fixed_actDocument (h n : Nat) (s : State) : fixed (actDocument h n s) = fixed s := by
  unfold actDocument; dsimp only; (repeat' split) <;> simp
@[simp] theorem fixed_actSeparator (h : Nat) (s : State) : fixed (actSeparator h s) = fixed s := by
  unfold actSeparator; simp
@[simp] theorem fixed_gainBeyondEnd (e n : Nat) (s : State) : fixed (gainBeyondEnd e s n) = fixed s := by
  unfold gainBeyondEnd; (repeat' split) <;> simp
@[simp] theorem fixed_actBatchEnd (e h n : Nat) (s : State) : fixed (actBatchEnd e h n s) = fixed s := by
  unfold actBatchEnd; simp only []; split
  · exact (fixed_foldl _ (fun s n => fixed_gainBeyondEnd e n s) _ _).trans rfl
  · rfl
@[simp] theorem fixed_actMark (h : Nat) (q : Option Nat) (s : State) : fixed (actMark h q s) = fixed s := by
  unfold actMark; (repeat' split) <;> simp
@[simp] theorem fixed_actKind (e n : Nat) (r : Sheet) (k : ClassKind) (s : State) : fixed (actKind e n r k s) = fixed s := by
  unfold actKind; (repeat' split) <;> simp
@[simp] theorem fixed_formVerdict (e n : Nat) (s : State) : fixed (formVerdict e n s) = fixed s := by
  unfold formVerdict; dsimp only; (repeat' split) <;> simp
@[simp] theorem fixed_judgeInputs (e n : Nat) (s : State) : fixed (judgeInputs e n s) = fixed s := by
  unfold judgeInputs; (repeat' split) <;> simp
@[simp] theorem fixed_captureGap (n : Nat) (q : Option Pos) (p : Pos) (s : State) : fixed (captureGap n q p s) = fixed s := by
  unfold captureGap; (repeat' split) <;> simp
@[simp] theorem fixed_applyGaugeLead (e : Nat) (x : Entry) (n : Nat) (p : Pos) (s : State) : fixed (applyGaugeLead e x n p s) = fixed s := by
  unfold applyGaugeLead; simp
@[simp] theorem fixed_applyGaugeTrail (e : Nat) (c : Place) (n : Nat) (p : Pos) (s : State) : fixed (applyGaugeTrail e c n p s) = fixed s := by
  unfold applyGaugeTrail; dsimp only; (repeat' split) <;> simp
@[simp] theorem fixed_applyExitLead (e : Nat) (c : Place) (s : State) : fixed (applyExitLead e c s) = fixed s := by
  unfold applyExitLead; dsimp only; (repeat' split) <;> simp
@[simp] theorem fixed_checkTray (e : Nat) (t : Tray) (s : State) : fixed (checkTray e t s) = fixed s := by
  unfold checkTray; (repeat' split) <;> simp
@[simp] theorem fixed_exitClear (e n : Nat) (t : Tray) (s : State) : fixed (exitClear e n t s) = fixed s := by
  unfold exitClear; simp
@[simp] theorem fixed_exitSuspect (e n : Nat) (t : Tray) (s : State) : fixed (exitSuspect e n t s) = fixed s := by
  unfold exitSuspect; (repeat' split) <;> simp
@[simp] theorem fixed_applyExitTrail (e n : Nat) (t : Tray) (s : State) : fixed (applyExitTrail e n t s) = fixed s := by
  unfold applyExitTrail; dsimp only; (repeat' split) <;> simp
@[simp] theorem fixed_edgeDropped (e : Nat) (x : Entry) (s : State) : fixed (edgeDropped e x s) = fixed s := by
  unfold edgeDropped; (repeat' split) <;> simp
@[simp] theorem fixed_matchEdge (e : Nat) (t : Tag) (k : EdgeKind) (p : Pos) (x : Entry) (s : State) : fixed (matchEdge e t k p x s) = fixed s := by
  unfold matchEdge; dsimp only; (repeat' split) <;> simp
@[simp] theorem fixed_takePick (e n : Nat) (r : Sheet) (x : Entry) (p : Pos) (s : State) : fixed (takePick e n r x p s) = fixed s := by
  unfold takePick; (repeat' split) <;> simp
@[simp] theorem fixed_pickLeadTaken (e : Nat) (t : Tag) (p : Pos) (x : Entry) (s : State) : fixed (pickLeadTaken e t p x s) = fixed s := by
  unfold pickLeadTaken; (repeat' split) <;> simp
@[simp] theorem fixed_takeEdge (e : Nat) (t : Tag) (k : EdgeKind) (p : Pos) (x : Entry) (s : State) : fixed (takeEdge e t k p x s) = fixed s := by
  unfold takeEdge; (repeat' split) <;> simp
@[simp] theorem fixed_edgeTaken (t : Tag) (k : EdgeKind) (p : Pos) (e : Nat) (s : State) : fixed (edgeTaken t k p e s) = fixed s := by
  unfold edgeTaken; simp
@[simp] theorem fixed_reportTaken (t : Tag) (f : Sheet → Sheet) (e : Nat) (s : State) : fixed (reportTaken t f e s) = fixed s := by
  unfold reportTaken; (repeat' split) <;> simp
@[simp] theorem fixed_countMisfeed (e : Nat) (x : Entry) (h : Nat) (s : State) : fixed (countMisfeed e x h s) = fixed s := by
  unfold countMisfeed; (repeat' split) <;> simp
@[simp] theorem fixed_pickExpiry (e : Nat) (x : Entry) (s : State) : fixed (pickExpiry e x s) = fixed s := by
  unfold pickExpiry; split
  · rw [fixed_settle, fixed_offerSlot]; split <;> simp
  · rfl

/-! Requests -/

@[simp] theorem fixed_setIdentify (b : Bool) (e : Nat) (s : State) : fixed (setIdentify b s e) = fixed s := by
  unfold setIdentify; simp
@[simp] theorem fixed_setHold (b : Bool) (e : Nat) (s : State) : fixed (setHold b s e) = fixed s := by
  unfold setHold; simp
@[simp] theorem fixed_requeryAll (i : StationId) (s : State) : fixed (requeryAll i s) = fixed s := by
  rfl
@[simp] theorem fixed_forgetEntry (e : Nat) (x : Entry) (s : State) : fixed (forgetEntry e x s) = fixed s := by
  unfold forgetEntry; simp only [fixed_requeryAll, fixed_reserveEntry, fixed_dropAttention]; rfl
@[simp] theorem fixed_startEntry (e : Nat) (x : Entry) (s : State) : fixed (startEntry e x s) = fixed s := by
  unfold startEntry; simp
@[simp] theorem fixed_standbyEntry (e : Nat) (x : Entry) (s : State) : fixed (standbyEntry e x s) = fixed s := by
  unfold standbyEntry; simp
@[simp] theorem fixed_runOut (e : Nat) (x : Entry) (s : State) : fixed (runOut e x s) = fixed s := by
  unfold runOut; simp only [fixed_settle, fixed_modEntry, fixed_onQueues]
  exact fixed_foldl _ (fun s q => fixed_orderDivert e _ _ s) _ s
@[simp] theorem fixed_runOutUnbound (e : Nat) (s : State) : fixed (runOutUnbound e s) = fixed s := by
  unfold runOutUnbound; simp
@[simp] theorem fixed_bindPair (h e : Nat) (s : State) : fixed (bindPair h e s) = fixed s := by
  unfold bindPair; simp
@[simp] theorem fixed_abortStation (h e : Nat) (s : State) : fixed (abortStation h e s) = fixed s := by
  unfold abortStation; split
  · rfl
  · simp only []
    refine (fixed_foldl _ (fun s c => fixed_leavePath e _ s) _ _).trans ?_
    split <;> simp
@[simp] theorem fixed_abortPicking (n : Nat) (s : State) : fixed (abortPicking s n) = fixed s := by
  unfold abortPicking; (repeat' split) <;> simp
@[simp] theorem fixed_abortRecord (n : Nat) (s : State) : fixed (abortRecord s n) = fixed s := by
  unfold abortRecord; (repeat' split) <;> simp
@[simp] theorem fixed_abortBatch (h : Nat) (b : Batch) (s : State) : fixed (abortBatch h b s) = fixed s := by
  unfold abortBatch; simp only [fixed_settle, fixed_arbitrate, fixed_offerSlots, fixed_enterClosed, fixed_modBatch]
  rw [fixed_foldl _ (fun s n => fixed_abortRecord n s), fixed_foldl _ (fun s n => fixed_abortPicking n s)]
  split <;> simp
@[simp] theorem fixed_afterResolve (n : Nat) (r : Sheet) (k : Nat) (s : State) : fixed (afterResolve n r k s) = fixed s := by
  unfold afterResolve; simp
@[simp] theorem fixed_acceptSheet (n : Nat) (r : Sheet) (s : State) : fixed (acceptSheet n r s) = fixed s := by
  unfold acceptSheet toRouting; simp
@[simp] theorem fixed_retrySheet (n : Nat) (r : Sheet) (s : State) : fixed (retrySheet n r s) = fixed s := by
  unfold retrySheet toRouting; simp
@[simp] theorem fixed_endSheet (n : Nat) (r : Sheet) (f : Batch → Batch) (s : State) : fixed (endSheet n r f s) = fixed s := by
  unfold endSheet; simp

end Sys2Proof.Machine
end

