-- ==== Sys2Proof/Laws/Exec.lean ====
section
/-! SUPPORT. How a command reaches its meaning: every case of a request and of an event, stated once. -/

namespace Sys2Proof.Machine

variable {α : Type} {code : Byte} {owner : α → State → Answer} {s t : State}

/-- A request its owner refuses. -/
theorem request_refused {v : α} {r : Result} (h : Takes s) (o : owner v s = .refuse r) :
    request code (.given v) owner s = assemble code r .empty s := by
  simp [request, unheld, busy, h.1, h.2, o]

/-- A request its owner takes. -/
theorem request_done {v : α} {d : ReplyData} (h : Takes s) (o : owner v s = .done t d) :
    request code (.given v) owner s = assemble code .ok d t := by
  simp [request, unheld, busy, h.1, h.2, o]

/-- A malformed parameter area. -/
theorem request_malformed (h : Takes s) : request code .malformed owner s = assemble code .badValue .empty s := by
  simp [request, unheld, busy, h.1, h.2]

/-- A request at a busy port. -/
theorem request_busy {a : Params α} (h : s.resetLow = false) (b : s.cp.phase ≠ .idle) :
    request code a owner s = overrun s := by
  simp [request, unheld, busy, h, b]

/-- A request while RESET_N is low. -/
theorem request_held {a : Params α} (h : s.resetLow = true) : request code a owner s = s := by
  simp [request, unheld, h]

/-- Everything a request can do: nothing, the overrun flag, a refusal, or its owner's event with a reply. -/
theorem request_cases (code : Byte) (a : Params α) (owner : α → State → Answer) (s : State) :
    (s.resetLow = true ∧ request code a owner s = s) ∨
    (s.resetLow = false ∧ s.cp.phase ≠ .idle ∧ request code a owner s = overrun s) ∨
    (Takes s ∧ ∃ r, request code a owner s = assemble code r .empty s) ∨
    (Takes s ∧ ∃ v t d, a = .given v ∧ owner v s = .done t d ∧ request code a owner s = assemble code .ok d t) := by
  by_cases hr : s.resetLow = true
  · exact .inl ⟨hr, request_held hr⟩
  · rw [Bool.not_eq_true] at hr
    by_cases hp : s.cp.phase = .idle
    · have h : Takes s := ⟨hr, hp⟩
      cases a with
      | malformed => exact .inr (.inr (.inl ⟨h, _, request_malformed h⟩))
      | given v =>
        cases ho : owner v s with
        | refuse r => exact .inr (.inr (.inl ⟨h, r, request_refused h ho⟩))
        | done t d => exact .inr (.inr (.inr ⟨h, v, t, d, rfl, ho, request_done h ho⟩))
    · exact .inr (.inl ⟨hr, hp, request_busy hr hp⟩)

/-- An event while links, lanes and timers run. -/
theorem event_runs (f : State → State) (h : Runs s) : event f s = .next (f s) := by simp [event, h.1, h.2]

/-- An event before they run. -/
theorem event_quiet (f : State → State) (h : ¬ Runs s) : event f s = .next s := by
  have : s.resetLow = true ∨ s.loading = true := by
    by_contra hc; exact h (by simpa using hc)
  unfold event; simp [this]

/-- Everything an event can do. -/
theorem event_cases (f : State → State) (s : State) :
    (Runs s ∧ event f s = .next (f s)) ∨ (¬ Runs s ∧ event f s = .next s) := by
  by_cases h : Runs s
  · exact .inl ⟨h, event_runs f h⟩
  · exact .inr ⟨h, event_quiet f h⟩

end Sys2Proof.Machine
end

