-- ==== Sys2Proof/Laws/PerInstr.lean ====
section
/-! SUPPORT. Per-command lemmas: a request's code is one of the catalogue, and only a request has a parameter area to be malformed. -/

namespace Sys2Proof.Laws.Catalogue

/-- A request code lies in the catalogue of 11.2, and a command with a malformed area has a request code. -/
def Statement (i : Instr) : Prop :=
  (∀ k, requestCode i = some k → knownCode k.toNat = true) ∧ (badArea i = true → (requestCode i).isSome = true)

/-- A request whose code is in the catalogue. -/
theorem ofCode {i : Instr} {k : Byte} (h : requestCode i = some k) (c : knownCode k.toNat = true) : Statement i :=
  ⟨fun j hj => by rw [h] at hj; cases hj; exact c, fun _ => by rw [h]; rfl⟩

/-- A command that is no request. -/
theorem ofNone {i : Instr} (h : requestCode i = none) (b : badArea i = false) : Statement i :=
  ⟨fun j hj => (by rw [h] at hj; exact nomatch hj), fun hb => (by rw [b] at hb; exact nomatch hb)⟩

theorem powerUp : Statement (.powerUp) :=
  ofNone rfl rfl
theorem resetNAssert : Statement (.resetNAssert) :=
  ofNone rfl rfl
theorem resetNRelease : Statement (.resetNRelease) :=
  ofNone rfl rfl
theorem settingsLoadEnd : Statement (.settingsLoadEnd) :=
  ofNone rfl rfl
theorem frameOverrun : Statement (.frameOverrun) :=
  ofNone rfl rfl
theorem badFrame (a : _) : Statement (.badFrame a) :=
  ofNone rfl rfl
theorem unknownRequest (a : _) : Statement (.unknownRequest a) :=
  ofNone rfl rfl
theorem ignoredTransaction (a : _) : Statement (.ignoredTransaction a) :=
  ofNone rfl rfl
theorem readTransaction (a : _) : Statement (.readTransaction a) :=
  ofNone rfl rfl
theorem readAttention (a : _) : Statement (.readAttention a) :=
  ofCode rfl rfl
theorem clearAttention (a : _) : Statement (.clearAttention a) :=
  ofCode rfl rfl
theorem readRoom (a : _) : Statement (.readRoom a) :=
  ofCode rfl rfl
theorem setRoom (a : _) : Statement (.setRoom a) :=
  ofCode rfl rfl
theorem setAttentionMask (a : _) : Statement (.setAttentionMask a) :=
  ofCode rfl rfl
theorem saveSettings (a : _) : Statement (.saveSettings a) :=
  ofCode rfl rfl
theorem saveSettingsCompletion : Statement (.saveSettingsCompletion) :=
  ofNone rfl rfl
theorem saveSettingsWriteFailure : Statement (.saveSettingsWriteFailure) :=
  ofNone rfl rfl
theorem resetPart (a : _) : Statement (.resetPart a) :=
  ofCode rfl rfl
theorem listStations (a : _) : Statement (.listStations a) :=
  ofCode rfl rfl
theorem readStation (a : _) : Statement (.readStation a) :=
  ofCode rfl rfl
theorem nameStation (a : _) : Statement (.nameStation a) :=
  ofCode rfl rfl
theorem forgetStation (a : _) : Statement (.forgetStation a) :=
  ofCode rfl rfl
theorem identify (a : _) : Statement (.identify a) :=
  ofCode rfl rfl
theorem holdStation (a : _) : Statement (.holdStation a) :=
  ofCode rfl rfl
theorem releaseStation (a : _) : Statement (.releaseStation a) :=
  ofCode rfl rfl
theorem resetPort (a : _) : Statement (.resetPort a) :=
  ofCode rfl rfl
theorem start (a : _) : Statement (.start a) :=
  ofCode rfl rfl
theorem standby (a : _) : Statement (.standby a) :=
  ofCode rfl rfl
theorem haltStation (a : _) : Statement (.haltStation a) :=
  ofCode rfl rfl
theorem resume (a : _) : Statement (.resume a) :=
  ofCode rfl rfl
theorem openBatch (a : _) : Statement (.openBatch a) :=
  ofCode rfl rfl
theorem findBatch (a : _) : Statement (.findBatch a) :=
  ofCode rfl rfl
theorem readBatch (a : _) : Statement (.readBatch a) :=
  ofCode rfl rfl
theorem amendBatchImmediate (a : _) : Statement (.amendBatchImmediate a) :=
  ofCode rfl rfl
theorem amendBatchAtCheckpoint (a : _) : Statement (.amendBatchAtCheckpoint a) :=
  ofCode rfl rfl
theorem bindBatch (a : _) : Statement (.bindBatch a) :=
  ofCode rfl rfl
theorem unbind (a : _) : Statement (.unbind a) :=
  ofCode rfl rfl
theorem pause (a : _) : Statement (.pause a) :=
  ofCode rfl rfl
theorem resumeBatch (a : _) : Statement (.resumeBatch a) :=
  ofCode rfl rfl
theorem checkpoint (a : _) : Statement (.checkpoint a) :=
  ofCode rfl rfl
theorem close (a : _) : Statement (.close a) :=
  ofCode rfl rfl
theorem abort (a : _) : Statement (.abort a) :=
  ofCode rfl rfl
theorem retire (a : _) : Statement (.retire a) :=
  ofCode rfl rfl
theorem findSheet (a : _) : Statement (.findSheet a) :=
  ofCode rfl rfl
theorem readSheet (a : _) : Statement (.readSheet a) :=
  ofCode rfl rfl
theorem listSuspects (a : _) : Statement (.listSuspects a) :=
  ofCode rfl rfl
theorem resolveAccept (a : _) : Statement (.resolveAccept a) :=
  ofCode rfl rfl
theorem resolveRescan (a : _) : Statement (.resolveRescan a) :=
  ofCode rfl rfl
theorem resolveDiscard (a : _) : Statement (.resolveDiscard a) :=
  ofCode rfl rfl
theorem resolveRetry (a : _) : Statement (.resolveRetry a) :=
  ofCode rfl rfl
theorem readClass (a : _) : Statement (.readClass a) :=
  ofCode rfl rfl
theorem setClass (a : _) : Statement (.setClass a) :=
  ofCode rfl rfl
theorem readPlan (a : _) : Statement (.readPlan a) :=
  ofCode rfl rfl
theorem setPlan (a : _) : Statement (.setPlan a) :=
  ofCode rfl rfl
theorem readLane (a : _) : Statement (.readLane a) :=
  ofCode rfl rfl
theorem setLane (a : _) : Statement (.setLane a) :=
  ofCode rfl rfl
theorem suspendLane (a : _) : Statement (.suspendLane a) :=
  ofCode rfl rfl
theorem resumeLane (a : _) : Statement (.resumeLane a) :=
  ofCode rfl rfl
theorem loopbackLane (a : _) : Statement (.loopbackLane a) :=
  ofCode rfl rfl
theorem resetLane (a : _) : Statement (.resetLane a) :=
  ofCode rfl rfl
theorem portLineActivity (a : _) : Statement (.portLineActivity a) :=
  ofNone rfl rfl
theorem fill (a : _) : Statement (.fill a) :=
  ofNone rfl rfl
theorem malformedWord (a : _) : Statement (.malformedWord a) :=
  ofNone rfl rfl
theorem stationSilenceTimeout (a : _) : Statement (.stationSilenceTimeout a) :=
  ofNone rfl rfl
theorem queryTimerExpiry (a : _) : Statement (.queryTimerExpiry a) :=
  ofNone rfl rfl
theorem ident (a : _) (b : _) : Statement (.ident a b) :=
  ofNone rfl rfl
theorem status (a : _) (b : _) : Statement (.status a b) :=
  ofNone rfl rfl
theorem edge (a : _) (b : _) (c : _) (d : _) : Statement (.edge a b c d) :=
  ofNone rfl rfl
theorem thick (a : _) (b : _) (c : _) (d : _) : Statement (.thick a b c d) :=
  ofNone rfl rfl
theorem patch (a : _) (b : _) (c : _) : Statement (.patch a b c) :=
  ofNone rfl rfl
theorem pickTimerExpiry (a : _) : Statement (.pickTimerExpiry a) :=
  ofNone rfl rfl
theorem ready (a : _) (b : _) (c : _) : Statement (.ready a b c) :=
  ofNone rfl rfl
theorem imageStart (a : _) (b : _) (c : _) (d : _) : Statement (.imageStart a b c d) :=
  ofNone rfl rfl
theorem block (a : _) (b : _) : Statement (.block a b) :=
  ofNone rfl rfl
theorem imageEnd (a : _) (b : _) : Statement (.imageEnd a b) :=
  ofNone rfl rfl
theorem stallTimerExpiry (a : _) : Statement (.stallTimerExpiry a) :=
  ofNone rfl rfl
theorem downstreamWordLeaves (a : _) : Statement (.downstreamWordLeaves a) :=
  ofNone rfl rfl
theorem laneLineActivity (a : _) : Statement (.laneLineActivity a) :=
  ofNone rfl rfl
theorem archiveFill (a : _) : Statement (.archiveFill a) :=
  ofNone rfl rfl
theorem laneMalformedWord (a : _) : Statement (.laneMalformedWord a) :=
  ofNone rfl rfl
theorem laneSilenceTimeout (a : _) : Statement (.laneSilenceTimeout a) :=
  ofNone rfl rfl
theorem accept (a : _) (b : _) : Statement (.accept a b) :=
  ofNone rfl rfl
theorem secured (a : _) (b : _) : Statement (.secured a b) :=
  ofNone rfl rfl
theorem refuse (a : _) (b : _) (c : _) : Statement (.refuse a b c) :=
  ofNone rfl rfl
theorem archiveStatus (a : _) (b : _) : Statement (.archiveStatus a b) :=
  ofNone rfl rfl
theorem ackTimeout (a : _) (b : _) : Statement (.ackTimeout a b) :=
  ofNone rfl rfl
theorem secureTimeout (a : _) (b : _) : Statement (.secureTimeout a b) :=
  ofNone rfl rfl
theorem laneWordLeaves (a : _) : Statement (.laneWordLeaves a) :=
  ofNone rfl rfl
theorem settingsEntryWritten : Statement (.settingsEntryWritten) :=
  ofNone rfl rfl

end Sys2Proof.Laws.Catalogue
end

