-- ==== Sys2Proof/Laws/Tab.lean ====
section
/-! SUPPORT. The laws of keyed collections: what a lookup finds after each change, and that every change keeps the canonical form. -/

namespace Sys2Proof

variable {α : Type}

/-! What a lookup finds -/

@[simp] theorem Tab.get_nil (k : Nat) : Tab.get ([] : Tab α) k = none := rfl

theorem Tab.get_cons (j k : Nat) (v : α) (t : Tab α) : Tab.get ((j, v) :: t) k = if j = k then some v else Tab.get t k := rfl

/-- The record just put is found. -/
@[simp] theorem Tab.get_put_self (t : Tab α) (k : Nat) (v : α) : (t.put k v).get k = some v := by
  induction t with
  | nil => simp [Tab.put, Tab.get]
  | cons p t ih =>
    obtain ⟨j, w⟩ := p
    simp only [Tab.put]
    split
    · simp [Tab.get]
    · split
      · simp [Tab.get]
      · rename_i h; simp [Tab.get, h, ih]

/-- Putting a record leaves the other keys. -/
theorem Tab.get_put_other (t : Tab α) {j k : Nat} (v : α) (h : j ≠ k) : (t.put k v).get j = t.get j := by
  induction t with
  | nil => simp [Tab.put, Tab.get, Ne.symm h]
  | cons p t ih =>
    obtain ⟨i, w⟩ := p
    simp only [Tab.put]
    split
    · simp [Tab.get, Ne.symm h]
    · split
      · rename_i h2; subst h2; simp [Tab.get, Ne.symm h]
      · simp [Tab.get, ih]

/-- A changed record is found changed. -/
@[simp] theorem Tab.get_modify_self (t : Tab α) (k : Nat) (f : α → α) : (t.modify k f).get k = (t.get k).map f := by
  induction t with
  | nil => rfl
  | cons p t ih =>
    obtain ⟨j, w⟩ := p
    have e : Tab.modify ((j, w) :: t) k f = (if j = k then (j, f w) else (j, w)) :: Tab.modify t k f := rfl
    rw [e]
    by_cases h : j = k
    · simp [Tab.get, h]
    · simp [Tab.get, h, ih]

/-- Changing a record leaves the other keys. -/
theorem Tab.get_modify_other (t : Tab α) {j k : Nat} (f : α → α) (h : j ≠ k) : (t.modify k f).get j = t.get j := by
  induction t with
  | nil => rfl
  | cons p t ih =>
    obtain ⟨i, w⟩ := p
    have e : Tab.modify ((i, w) :: t) k f = (if i = k then (i, f w) else (i, w)) :: Tab.modify t k f := rfl
    rw [e]
    by_cases hi : i = k
    · subst hi; simp [Tab.get, Ne.symm h, ih]
    · by_cases hj : i = j
      · subst hj; simp [Tab.get, h]
      · simp [Tab.get, hi, hj, ih]

/-- A freed key is not found. -/
@[simp] theorem Tab.get_del_self (t : Tab α) (k : Nat) : (t.del k).get k = none := by
  induction t with
  | nil => rfl
  | cons p t ih =>
    obtain ⟨j, w⟩ := p
    by_cases h : j = k
    · simpa [Tab.del, h] using ih
    · simpa [Tab.del, Tab.get, h] using ih

/-- Freeing a key leaves the others. -/
theorem Tab.get_del_other (t : Tab α) {j k : Nat} (h : j ≠ k) : (t.del k).get j = t.get j := by
  induction t with
  | nil => rfl
  | cons p t ih =>
    obtain ⟨i, w⟩ := p
    by_cases hi : i = k
    · subst hi; simpa [Tab.del, Tab.get, Ne.symm h] using ih
    · by_cases hj : i = j
      · simp [Tab.del, Tab.get, hj, h]
      · simpa [Tab.del, Tab.get, hi, hj] using ih

/-- What a lookup finds is listed. -/
theorem Tab.mem_of_get {t : Tab α} {k : Nat} {v : α} (h : t.get k = some v) : (k, v) ∈ t := by
  induction t with
  | nil => simp at h
  | cons p t ih =>
    obtain ⟨j, w⟩ := p
    by_cases hj : j = k
    · simp [Tab.get, hj] at h; simp [hj, h]
    · simp [Tab.get, hj] at h; exact List.mem_cons_of_mem _ (ih h)

/-- In canonical form, what is listed is what a lookup finds. -/
theorem Tab.get_of_mem {n : Nat} {t : Tab α} (w : Tab.wf n t) {k : Nat} {v : α} (h : (k, v) ∈ t) : t.get k = some v := by
  obtain ⟨w, -⟩ := w
  induction t with
  | nil => simp at h
  | cons p t ih =>
    obtain ⟨j, u⟩ := p
    rw [List.map_cons, List.pairwise_cons] at w
    rcases List.mem_cons.1 h with h | h
    · simp only [Prod.mk.injEq] at h; simp [Tab.get, h.1, h.2]
    · have : j < k := w.1 k (List.mem_map_of_mem (f := Prod.fst) h)
      simp [Tab.get, Nat.ne_of_lt this, ih h w.2]

/-- A free key is listed nowhere. -/
theorem Tab.get_eq_none {t : Tab α} {k : Nat} : t.get k = none ↔ k ∉ t.map Prod.fst := by
  induction t with
  | nil => simp
  | cons p t ih =>
    obtain ⟨j, w⟩ := p
    by_cases hj : j = k
    · simp [Tab.get, hj]
    · simp only [Tab.get, hj, if_false, ih, List.map_cons, List.mem_cons]
      exact ⟨fun h => by rintro (h1 | h1); exacts [hj h1.symm, h h1], fun h h1 => h (Or.inr h1)⟩

/-- What a search finds is listed and meets the test. -/
theorem Tab.find_spec {t : Tab α} {q : Nat → α → Bool} {k : Nat} {v : α} (h : t.find q = some (k, v)) :
    (k, v) ∈ t ∧ q k v = true := ⟨List.mem_of_find?_eq_some h, by simpa using List.find?_some h⟩

/-- The lowest free key is free and below the bound. -/
theorem Tab.firstFree_spec {n k : Nat} {t : Tab α} (h : t.firstFree n = some k) : k < n ∧ t.get k = none := by
  have h1 := List.mem_of_find?_eq_some h
  have h2 := List.find?_some h
  exact ⟨List.mem_range.1 h1, by simpa using h2⟩

/-- No key is free where every key below the bound is listed. -/
theorem Tab.firstFree_none {n : Nat} {t : Tab α} : t.firstFree n = none ↔ ∀ k < n, k ∈ t.map Prod.fst := by
  simp only [Tab.firstFree, List.find?_eq_none, List.mem_range, Option.isNone_iff_eq_none, Tab.get_eq_none, not_not]

/-! The keys, and the canonical form -/

/-- A change keeps the keys. -/
@[simp] theorem Tab.keys_modify (t : Tab α) (k : Nat) (f : α → α) : (t.modify k f).map Prod.fst = t.map Prod.fst := by
  induction t with
  | nil => rfl
  | cons p t ih =>
    simp only [Tab.modify, List.map_cons, List.map_map] at ih ⊢
    rw [ih]; split <;> rfl

/-- The keys after a put are the old ones and the new one. -/
theorem Tab.mem_keys_put (t : Tab α) (k : Nat) (v : α) (j : Nat) :
    j ∈ (t.put k v).map Prod.fst ↔ j = k ∨ j ∈ t.map Prod.fst := by
  induction t with
  | nil => simp [Tab.put]
  | cons p t ih =>
    obtain ⟨i, w⟩ := p
    simp only [Tab.put]
    split
    · simp
    · split
      · rename_i h; simp [h]
      · simp only [List.map_cons, List.mem_cons, ih]; tauto

/-- A change keeps the canonical form. -/
theorem Tab.wf_modify {n : Nat} {t : Tab α} (w : Tab.wf n t) (k : Nat) (f : α → α) : Tab.wf n (t.modify k f) := by
  simpa [Tab.wf] using w

/-- Freeing a key keeps the canonical form. -/
theorem Tab.wf_del {n : Nat} {t : Tab α} (w : Tab.wf n t) (k : Nat) : Tab.wf n (t.del k) := by
  have s : ((t.del k).map Prod.fst).Sublist (t.map Prod.fst) := List.Sublist.map _ List.filter_sublist
  exact ⟨w.1.sublist s, fun j h => w.2 j (s.subset h)⟩

/-- Putting a record at a key below the bound keeps the canonical form. -/
theorem Tab.wf_put {n : Nat} {t : Tab α} (w : Tab.wf n t) {k : Nat} (hk : k < n) (v : α) : Tab.wf n (t.put k v) := by
  refine ⟨?_, fun j h => ?_⟩
  · obtain ⟨w, -⟩ := w
    induction t with
    | nil => simp [Tab.put]
    | cons p t ih =>
      obtain ⟨i, u⟩ := p
      rw [List.map_cons, List.pairwise_cons] at w
      simp only [Tab.put]
      split
      · rename_i h
        simp only [List.map_cons, List.pairwise_cons]
        refine ⟨fun j hj => ?_, w⟩
        rcases List.mem_cons.1 hj with hj | hj
        · omega
        · exact Nat.lt_trans h (w.1 j hj)
      · split
        · rename_i h; subst h; simpa using w
        · rename_i h1 h2
          simp only [List.map_cons, List.pairwise_cons]
          refine ⟨fun j hj => ?_, ih w.2⟩
          rcases (Tab.mem_keys_put t k v j).1 hj with hj | hj
          · omega
          · exact w.1 j hj
  · rcases (Tab.mem_keys_put t k v j).1 h with h | h
    · omega
    · exact w.2 j h

/-- A mapped collection keeps the canonical form. -/
theorem Tab.wf_map {n : Nat} {t : Tab α} (w : Tab.wf n t) (f : α → α) : Tab.wf n (t.map fun p => (p.1, f p.2)) := by
  have e : ((t.map fun p => (p.1, f p.2)).map Prod.fst) = t.map Prod.fst := by simp [List.map_map, Function.comp_def]
  simpa [Tab.wf, e] using w

end Sys2Proof
end

