-- ==== Sys2Proof/Tests/Slice0.lean ====
section
/-! SUPPORT. Tests on small states: ill-formed commands refused, checks and words by value, and states that meet the hypotheses of every statement. -/

namespace Sys2Proof.Tests

open Sys2Proof Sys2Proof.Machine

/-! One declaration at a time: many that wait on one kernel check hold a stack each. -/

set_option Elab.async false

/-! Small states -/

/-- The port is IDLE and everything is at rest. -/
def idle : State := { State.reset with loading := false, cp := { phase := .idle } }

/-- A station's facts. -/
def facts : StationFacts :=
  { model := 1, duplex := true, capacity := 100, pickToGauge := 200, gaugeToExit := 300, divertLimit := 100 }

/-- A station's ID. -/
def idA : StationId := { maker := 210, serial := 1 }

/-- A closed cover, a loaded tray and a clear path. -/
def still : StatusView := { coverOpen := false, trayEmpty := false, pathClear := true, direction := .stopped }

/-- An IDENT of that station. -/
def identA : Ident := { id := idA, facts := facts, epoch := 1 }

/-- An entry attached to port 0 and bound to batch 0. -/
def entryA : Entry :=
  { id := idA, port := some 0, facts := some facts, epoch := some 1, bound := some 0, feed := .running, view := some still }

/-- A port in UP with entry 0. -/
def portUp : Port := { link := .up, silence := some 20, entry := some 0, line := some (.time 0) }

/-- An open batch bound to entry 0. -/
def batchA : Batch := { label := [0x41], bound := some 0 }

/-- One station, one batch and the given sheets. -/
def room (x : Entry) (b : Batch) (l : Tab Sheet) : State :=
  { idle with ports := idle.ports.set 0 portUp, entries := [(0, x)], batches := [(0, b)], sheets := l }

/-- A record in PICKING. -/
def picking : Sheet := { batch := 0, station := 0, tag := 0 }

/-- A record in the path. -/
def passing : Sheet := { batch := 0, station := 0, tag := 0, seq := some 1, state := .inPath }

/-- What a verdict captures. -/
def capA : Captured := { plan := 0, policy := Policy.default, band := none, minGap := 40 }

/-- A suspect that has left the path, with images. -/
def suspect : Sheet :=
  { batch := 0, station := 0, tag := 0, seq := some 1, state := .suspect, verdict := .suspect, images := some .one
    length := some 1000, thick := some (.multiple, 9), pattern := some 0, cls := some (.document, 0)
    captured := some capA, tray := some .reject }

/-- A clear sheet routing to lane 0. -/
def routed : Sheet :=
  { batch := 0, station := 0, tag := 0, seq := some 1, state := .routing, verdict := .clear, images := some .one
    length := some 1000, thick := some (.single, 9), pattern := some 0, cls := some (.document, 0)
    captured := some capA, tray := some .output, deliveries := some [{ side := .one, role := .primary, lane := 0 }] }

/-- The delivery entry of an upload to lane 0. -/
def flying : Delivery := { side := .one, role := .primary, lane := 0, status := .inFlight, number := some 0 }

/-- The room with one PICKING record. -/
def sPick : State := room { entryA with liveCount := 1, nextTag := 1 } { batchA with picking := 1 } [(0, picking)]

/-- The room with one sheet past PICKING. -/
def sLive (r : Sheet) (path : List Place) : State :=
  room { entryA with liveCount := 1, nextTag := 1, path := path }
    { batchA with nextSeq := 2, fed := 1, live := 1, openSuspects := if r.isOpenSuspect then 1 else 0 } [(0, r)]

/-- A place whose sheet has its PICK lead edge. -/
def placeA : Place := { slot := 0, pickLead := 7 }

/-- An upload of the routed sheet. -/
def uploadA (ph : UploadPhase) (n : Option Nat) (k : Nat) : Upload :=
  { slot := 0, serial := { batch := 0, seq := 1 }, tag := 0, side := .one, dests := [(0, .primary)], phase := ph
    blocks := n, taken := k, stall := .running 500 }

/-- A window entry of the routed sheet. -/
def windowA (ph : WindowPhase) (sec : Bool) (t : Option Nat) : WindowEntry :=
  { number := 0, slot := 0, serial := { batch := 0, seq := 1 }, side := .one, role := .primary, secure := sec
    phase := ph, timer := t }

/-- Lane 0 in a state with a window. -/
def laneA (st : LaneState) (w : List WindowEntry) : Lane :=
  { state := st, silence := some 20, window := w, nextNo := 1, line := .fill }

/-- A state with a lane 0. -/
def withLane0 (x : Lane) (s : State) : State := { s with lanes := s.lanes.set 0 x }

/-- A state with a port 0. -/
def withPort0 (x : Port) (s : State) : State := { s with ports := s.ports.set 0 x }

/-- A state with an upload of entry 0. -/
def withUpload (u : Upload) (s : State) : State := { s with uploads := [(0, u)] }

/-- The state a command leaves. -/
def after (c : Instr) (s : State) : State :=
  match exec c s with
  | .next t => t
  | _ => s

/-- The result of the reply that waits. -/
def answered (s : State) : Option Result := s.cp.reply.map (·.result)

/-! Ill-formed commands are refused -/

/-- A known code is not an unknown request. -/
theorem test_wf_unknown_request :
    Instr.wf (.unknownRequest 0x2B) = false := by decide

/-- A write is not an ignored transaction. -/
theorem test_wf_ignored :
    Instr.wf (.ignoredTransaction 0xA5) = false := by decide

/-- A read is not an ignored transaction. -/
theorem test_wf_ignored_read :
    Instr.wf (.ignoredTransaction 0x5A) = false := by decide

/-- A key byte above 255. -/
theorem test_wf_read_attention :
    Instr.wf (.readAttention (.given ⟨256, 0⟩)) = false := by decide

/-- An index above 255. -/
theorem test_wf_clear_attention :
    Instr.wf (.clearAttention (.given ⟨1, 256⟩)) = false := by decide

/-- A timeout above two bytes. -/
theorem test_wf_set_room :
    Instr.wf (.setRoom (.given { pickTimeout := some 65536 })) = false := by decide

/-- A mask above two bytes. -/
theorem test_wf_set_attention_mask :
    Instr.wf (.setAttentionMask (.given 65536)) = false := by decide

/-- An index above one byte. -/
theorem test_wf_read_station :
    Instr.wf (.readStation (.given 256)) = false := by decide

/-- A name longer than an item. -/
theorem test_wf_name_station :
    Instr.wf (.nameStation (.given ⟨0, List.replicate 256 65⟩)) = false := by decide +kernel

/-- A maker code above two bytes. -/
theorem test_wf_identify :
    Instr.wf (.identify (.given ⟨⟨65536, 0⟩, true⟩)) = false := by decide

/-- A serial above four bytes. -/
theorem test_wf_hold :
    Instr.wf (.holdStation (.given ⟨0, 4294967296⟩)) = false := by decide

/-- A plan above one byte. -/
theorem test_wf_open_batch :
    Instr.wf (.openBatch (.given { label := [65], plan := some 256 })) = false := by decide

/-- A label longer than an item. -/
theorem test_wf_find_batch :
    Instr.wf (.findBatch (.given (List.replicate 256 65))) = false := by decide +kernel

/-- A count above two bytes. -/
theorem test_wf_amend_now :
    Instr.wf (.amendBatchImmediate (.given { handle := 0, expected := some (some 65536) })) = false := by decide

/-- A band above two bytes. -/
theorem test_wf_amend_later :
    Instr.wf (.amendBatchAtCheckpoint (.given { handle := 0, band := some (some ⟨0, 65536⟩) })) = false := by decide

/-- An index above one byte. -/
theorem test_wf_bind :
    Instr.wf (.bindBatch (.given ⟨0, 256⟩)) = false := by decide

/-- A sequence above two bytes. -/
theorem test_wf_find_sheet :
    Instr.wf (.findSheet (.given ⟨0, 65536⟩)) = false := by decide

/-- A handle above one byte. -/
theorem test_wf_read_sheet_serial :
    Instr.wf (.readSheet (.given (.serial ⟨256, 1⟩))) = false := by decide

/-- A slot number that no item of R38 carries. -/
theorem test_wf_read_sheet_slot :
    Instr.wf (.readSheet (.given (.slot 512))) = false := by decide

/-- A start sequence above two bytes. -/
theorem test_wf_list_suspects :
    Instr.wf (.listSuspects (.given ⟨0, 65536⟩)) = false := by decide

/-- A category above one byte. -/
theorem test_wf_set_class :
    Instr.wf (.setClass (.given ⟨0, 1, 256, false⟩)) = false := by decide

/-- A plan without its eight rows. -/
theorem test_wf_set_plan :
    Instr.wf (.setPlan (.given { plan := 0, name := [], rows := [] })) = false := by decide

/-- A lane coded 255 is NONE or absent. -/
theorem test_wf_set_plan_row :
    Instr.wf (.setPlan (.given { plan := 0, name := [], rows := List.replicate 8 ⟨some 255, none, none, false⟩ })) = false := by decide

/-- A lane above one byte. -/
theorem test_wf_read_lane :
    Instr.wf (.readLane (.given 256)) = false := by decide

/-- A timeout above two bytes. -/
theorem test_wf_set_lane :
    Instr.wf (.setLane (.given { lane := 0, ack := some 65536 })) = false := by decide

/-- An epoch above two bytes. -/
theorem test_wf_ident :
    Instr.wf (.ident 0 { identA with epoch := 65536 }) = false := by decide

/-- A side count above one byte. -/
theorem test_wf_ready :
    Instr.wf (.ready 0 0 256) = false := by decide

/-- A block count above two bytes. -/
theorem test_wf_image_start :
    Instr.wf (.imageStart 0 0 .one 65536) = false := by decide

/-- A block without its 1024 bytes. -/
theorem test_wf_block :
    Instr.wf (.block 0 []) = false := by decide

/-! Checks, frames and words by value (chapter 11) -/

/-- The CRC-16 of the digits 1 to 9. -/
theorem test_crc16 :
    crc16 [0x31, 0x32, 0x33, 0x34, 0x35, 0x36, 0x37, 0x38, 0x39] = 0x29B1 := by decide +kernel

/-- The image check of the digits 1 to 9. -/
theorem test_image_check :
    checkValue (checkBytes 0xFFFFFFFF [0x31, 0x32, 0x33, 0x34, 0x35, 0x36, 0x37, 0x38, 0x39]) = 0xFC891918 := by decide +kernel

/-- A START frame. -/
theorem test_frame_start :
    frameCommand [0x00, 0x06, 0x17, 0x01, 0x01, 0x05, 0xDD, 0xBB] = .start (.given 5) := by decide +kernel

/-- A SET_ROOM frame with two of its rows. -/
theorem test_frame_set_room :
    frameCommand [0x00, 0x0A, 0x04, 0x01, 0x01, 0x1E, 0x03, 0x02, 0x01, 0x2C, 0x14, 0x9C] = .setRoom (.given { share := some 30, pickTimeout := some 300 }) := by decide +kernel

/-- An OPEN_BATCH frame; its label stands after the table's thirteen rows. -/
theorem test_frame_open :
    frameCommand [0x00, 0x0C, 0x20, 0x0E, 0x01, 0x41, 0x04, 0x01, 0x02, 0x02, 0x01, 0x0B, 0xB2, 0xB6] = .openBatch (.given { label := [0x41], mask := some ⟨true, true, false, true⟩, action := some .divert }) := by decide +kernel

/-- An AMEND_BATCH frame that removes the band. -/
theorem test_frame_amend :
    frameCommand [0x00, 0x0F, 0x23, 0x01, 0x01, 0x02, 0x02, 0x01, 0x02, 0x0A, 0x00, 0x0B, 0x02, 0x00, 0x32, 0x33, 0xEE] = .amendBatchAtCheckpoint (.given { handle := 2, band := some none, minGap := some 50 }) := by decide +kernel

/-- A RESOLVE frame with outcome RETRY. -/
theorem test_frame_resolve :
    frameCommand [0x00, 0x0B, 0x33, 0x01, 0x03, 0x01, 0x00, 0x09, 0x02, 0x01, 0x04, 0xC2, 0x9E] = .resolveRetry (.given ⟨1, 9⟩) := by decide +kernel

/-- An identifier twice in one area. -/
theorem test_frame_twice :
    frameCommand [0x00, 0x09, 0x17, 0x01, 0x01, 0x05, 0x01, 0x01, 0x05, 0x68, 0x54] = .start .malformed := by decide +kernel

/-- A frame with a code of no request. -/
theorem test_frame_unknown :
    frameCommand [0x00, 0x03, 0x77, 0x97, 0xBF] = .unknownRequest 0x77 := by decide +kernel

/-- A frame whose check disagrees. -/
theorem test_frame_bad :
    frameCommand [0x00, 0x06, 0x17, 0x01, 0x01, 0x05, 0xDD, 0xBC] = .badFrame (some 0x17) := by decide +kernel

/-- A WRONG_STATE reply with the overrun flag. -/
theorem test_reply_frame :
    ({ code := 0x17, result := .wrongState, overrun := true, data := .empty } : Reply).frame = [0x00, 0x05, 0x17, 0x05, 0x01, 0x84, 0x6E] := by decide +kernel

/-- An IDENT word. -/
theorem test_word_ident :
    feedWord 0 [0x41, 0x00, 0x12, 0x00, 0xD2, 0x00, 0x00, 0x00, 0x01, 0x00, 0x01, 0x01, 0x64, 0x00, 0x01, 0x00, 0xC8, 0x01, 0x2C, 0x00, 0x64, 0x64, 0xB2] = .ident 0 identA := by decide +kernel

/-- A STATUS word. -/
theorem test_word_status :
    feedWord 0 [0x42, 0x00, 0x07, 0x01, 0x00, 0x01, 0x02, 0x00, 0x09, 0x01, 0xDF, 0x50] = .status 0 { view := { coverOpen := true, trayEmpty := false, pathClear := true, direction := .reverse }, position := 9, call := true } := by decide +kernel

/-- An EXIT TRAIL edge with its tray. -/
theorem test_word_edge :
    feedWord 0 [0x43, 0x00, 0x06, 0x05, 0x03, 0x02, 0x12, 0x34, 0x02, 0x4F, 0x61] = .edge 0 5 (.exitTrail .reject) 0x1234 := by decide +kernel

/-- An EXIT TRAIL edge without a tray. -/
theorem test_word_edge_no_tray :
    feedWord 0 [0x43, 0x00, 0x06, 0x05, 0x03, 0x02, 0x12, 0x34, 0x00, 0x6F, 0x23] = .malformedWord 0 := by decide +kernel

/-- A THICK word. -/
theorem test_word_thick :
    feedWord 0 [0x44, 0x00, 0x03, 0x05, 0x03, 0xC8, 0x1F, 0x9A] = .thick 0 5 .unknown 200 := by decide +kernel

/-- The last pattern. -/
theorem test_word_patch :
    feedWord 0 [0x45, 0x00, 0x02, 0x05, 0x3F, 0x75, 0x1A] = .patch 0 5 63 := by decide +kernel

/-- A pattern above 63. -/
theorem test_word_patch_above :
    feedWord 0 [0x45, 0x00, 0x02, 0x05, 0x40, 0xFA, 0x62] = .malformedWord 0 := by decide +kernel

/-- A side count of 0 is well formed. -/
theorem test_word_ready :
    feedWord 0 [0x46, 0x00, 0x02, 0x05, 0x00, 0x5C, 0x74] = .ready 0 5 0 := by decide +kernel

/-- An IMAGE_START word. -/
theorem test_word_image_start :
    feedWord 0 [0x47, 0x00, 0x04, 0x05, 0x02, 0x3F, 0xFF, 0x65, 0x1E] = .imageStart 0 5 .two 16383 := by decide +kernel

/-- An IMAGE_END word. -/
theorem test_word_image_end :
    feedWord 0 [0x49, 0x00, 0x04, 0x01, 0x02, 0x03, 0x04, 0x83, 0xEB] = .imageEnd 0 0x01020304 := by decide +kernel

/-- A downstream code is unknown when received. -/
theorem test_word_grant :
    feedWord 0 [0x01, 0x00, 0x01, 0x05, 0x91, 0xE0] = .malformedWord 0 := by decide +kernel

/-- A FILL word. -/
theorem test_word_fill :
    feedWord 0 [0x4F, 0x00, 0x00, 0xFD, 0x00] = .fill 0 := by decide +kernel

/-- The last delivery number. -/
theorem test_word_accept :
    laneWord 1 [0xC1, 0x00, 0x02, 0x0F, 0xFF, 0xE8, 0x4B] = .accept 1 4095 := by decide +kernel

/-- A delivery number above 4095. -/
theorem test_word_accept_above :
    laneWord 1 [0xC1, 0x00, 0x02, 0x10, 0x00, 0xE5, 0xF6] = .laneMalformedWord 1 := by decide +kernel

/-- A REFUSE word. -/
theorem test_word_refuse :
    laneWord 1 [0xC2, 0x00, 0x03, 0x00, 0x07, 0x03, 0x09, 0x48] = .refuse 1 7 .full := by decide +kernel

/-- An archive's STATUS word. -/
theorem test_word_lane_status :
    laneWord 1 [0xC4, 0x00, 0x01, 0x02, 0xEE, 0xE6] = .archiveStatus 1 .busy := by decide +kernel

/-- A RELEASE word as it is sent. -/
theorem test_word_release_out :
    (DownWord.release 9 .dropped).bytes = [0x07, 0x00, 0x02, 0x09, 0x02, 0x82, 0x62] := by decide +kernel

/-- An OFFER word as it is sent. -/
theorem test_word_offer_out :
    (CtrlWord.offer 3 ⟨2, 7⟩ .two .primary true).bytes = [0x81, 0x00, 0x08, 0x00, 0x03, 0x02, 0x00, 0x07, 0x02, 0x01, 0x01, 0xE3, 0x8C] := by decide +kernel

/-! One step of each kind of command -/

/-- The command at the front runs and leaves the rest. -/
theorem test_step_order :
    step { idle with pending := [.readRoom .malformed, .fill 0] } =
      exec (.readRoom .malformed) { idle with pending := [.fill 0] } := rfl

/-- The end of the load raises SETTINGS_DEFAULTED and opens the port. -/
theorem test_load_end :
    (after .settingsLoadEnd State.reset).cp.phase = .idle ∧ attnPin (after .settingsLoadEnd State.reset) = true := by decide

/-- The table gives no bits, so no word spells a command. -/
theorem test_no_code :
    decodeTableWord 8 0x17 = none ∧ State.reset.withFetchWord 8 0x17 = State.reset := by decide

/-- OPEN_BATCH takes the lowest free handle. -/
theorem test_open :
    (after (.openBatch (.given { label := [65], interval := some 4 })) idle).batches.get 0 =
      some { label := [65], interval := 4, target := some 4 } := by decide

/-- A label in use is refused. -/
theorem test_label_twice :
    answered (after (.openBatch (.given { label := [65] })) sPick) = some .duplicateLabel := by decide

/-- A batch bound already is not bound again. -/
theorem test_bind_busy :
    answered (after (.bindBatch (.given ⟨0, 0⟩)) sPick) = some .wrongState := by decide

/-- A PICK lead edge numbers the sheet. -/
theorem test_pick :
    ((after (.edge 0 0 .pickLead 7) sPick).sheets.get 0).map (·.seq) = some (some 1) := by decide

/-- A bound running station with nothing against it is granted a sheet. -/
theorem test_grant :
    ((after (.status 0 ⟨still, 0, false⟩) (room entryA batchA [])).sheets.get 0).map (·.state) = some .picking := by decide

/-- An edge that finds no sheet halts the station. -/
theorem test_jam :
    ((after (.edge 0 9 .exitLead 7) sPick).entries.get 0).map (fun x => (x.feed, x.cause)) = some (.halted, some .jam) := by decide

/-- The pick timer's expiry counts a misfeed. -/
theorem test_misfeed :
    ((after (.pickTimerExpiry 0) (room { entryA with liveCount := 1, timer := .running 1, nextTag := 1 }
      { batchA with picking := 1, retries := 0 } [(0, picking)])).entries.get 0).map (fun x => (x.cause, x.misfeeds)) =
      some (some .misfeed, 1) := by decide

/-- ACCEPT of a sheet's last delivery completes the sheet. -/
theorem test_accept :
    ((after (.accept 0 0) (withLane0 (laneA .up [windowA .awaitAccept false (some 5)]) (sLive
      { routed with deliveries := some [{ flying with status := .sent }] } []))).batches.get 0).map (fun b => (b.completed, b.live)) = some (1, 0) := by decide

/-- An acknowledgement that does not come fails the lane. -/
theorem test_ack_timeout :
    (after (.ackTimeout 0 0) (withLane0 (laneA .up [windowA .awaitAccept false (some 5)]) (sLive routed []))).lanes[(0 : Fin 4)].state = .failed := by decide

/-- RESOLVE DISCARD retires the record. -/
theorem test_discard :
    ((after (.resolveDiscard (.given ⟨0, 1⟩)) (sLive suspect [])).batches.get 0).map (fun b => (b.discarded, b.live)) = some (1, 0) := by decide

/-- ABORT closes the batch. -/
theorem test_abort :
    ((after (.abort (.given 0)) sPick).batches.get 0).map (fun b => (b.state, b.outcome)) = some (.closed, some .aborted) := by decide

/-- An eligible side is uploaded where a lane's gate is open. -/
theorem test_arbiter :
    ((after (.archiveStatus 0 .ready) (withLane0 (laneA .up []) (sLive routed []))).uploads.get 0).map (·.side) = some .one := by decide

/-- An answer in ALIGNING is stray and counts toward alignment. -/
theorem test_answer_aligning :
    ((after (.accept 0 7) (withLane0 { state := .aligning, align := 3 } idle)).lanes[(0 : Fin 4)].counters.stray,
      (after (.accept 0 7) (withLane0 { state := .aligning, align := 3 } idle)).lanes[(0 : Fin 4)].align) = (1, 4) := by decide

/-- A save with nothing to write cannot fail. -/
theorem test_save_failure :
    after .saveSettingsWriteFailure { idle with store := { settings := idle.store.settings, checkOk := true }
                                                cp := { phase := .executing, request := some 0x06 }
                                                save := some { copy := idle.store.settings, written := 0 } } =
      { idle with store := { settings := idle.store.settings, checkOk := true }
                  cp := { phase := .executing, request := some 0x06 }
                  save := some { copy := idle.store.settings, written := 0 } } := by decide +kernel

/-- A line of LIST_STATIONS in the order of R59. -/
theorem test_station_line :
    entryLineBytes (.used 3 idA [0x42] true .running (some 5)) =
      [3, 0, 210, 0, 0, 0, 1, 0x42, 1, 3, 5] := by decide +kernel

/-- A RESCAN of lost images owes no release. -/
theorem test_lost_images :
    ((after (.resolveDiscard (.given ⟨0, 1⟩)) (sLive { suspect with state := .fault, fault := some .imagesLost } [])).ports[(0 : Fin 16)].queues.release,
      (after (.resolveDiscard (.given ⟨0, 1⟩)) (sLive suspect [])).ports[(0 : Fin 16)].queues.release) = ([], [(0, .dropped)]) := by decide

/-! States that meet the hypotheses of the statements, in their order -/

/-- An empty queue, with the part running and not. -/
theorem witness_empty_queue :
    idle.pending = [] ∧ Runs idle ∧
    State.reset.pending = [] ∧ ¬ Runs State.reset ∧
    (withUpload (uploadA .receiving (some 4) 1) (sLive routed [])).pending = [] := by decide

/-- A state at work: a sheet picking, one suspect in the path, one routed and uploading, a lane with a delivery, and a
command waiting. -/
def sWork : State :=
  { withLane0 (laneA .up [windowA .transmitting false none])
      (withUpload (uploadA .receiving (some 4) 1)
        (room { entryA with liveCount := 3, nextTag := 3, path := [{ slot := 1, pickLead := 7 }] }
          { batchA with nextSeq := 3, fed := 2, live := 2, picking := 1, openSuspects := 1 }
          [(0, { routed with deliveries := some [flying] }),
           (1, { suspect with tag := 1, seq := some 2, tray := none, images := none }),
           (2, { picking with tag := 2 })])) with
    attention := [(.stationHalted, 0), (.suspectOpen, 0)]
    pending := [.edge 0 2 .pickLead 300] }

/-- That state meets every invariant. -/
theorem witness_invariants :
    TablesOk sWork ∧
    ReservedFree sWork ∧
    AttentionOk sWork ∧
    PortOk sWork ∧
    RangesOk sWork ∧
    LanesOk sWork ∧
    GrantsOk sWork ∧
    BindingsOk sWork ∧
    AccountsOk sWork := by
  refine ⟨?_, ?_, ?_, ?_, ?_, ?_, ?_, ?_, ?_⟩ <;> decide

/-- A step from it answers a next state, with the picking sheet numbered. -/
theorem witness_invariants_step :
    ∃ s, step sWork = .next s ∧ (s.sheets.get 2).map (·.seq) = some (some 3) ∧ s.pending = [] := ⟨_, rfl, by decide, by decide⟩

/-- And the state after it meets every invariant. -/
theorem witness_invariants_after :
    TablesOk (after (.edge 0 2 .pickLead 300) { sWork with pending := [] }) ∧
    ReservedFree (after (.edge 0 2 .pickLead 300) { sWork with pending := [] }) ∧
    AttentionOk (after (.edge 0 2 .pickLead 300) { sWork with pending := [] }) ∧
    PortOk (after (.edge 0 2 .pickLead 300) { sWork with pending := [] }) ∧
    RangesOk (after (.edge 0 2 .pickLead 300) { sWork with pending := [] }) ∧
    LanesOk (after (.edge 0 2 .pickLead 300) { sWork with pending := [] }) ∧
    GrantsOk (after (.edge 0 2 .pickLead 300) { sWork with pending := [] }) ∧
    BindingsOk (after (.edge 0 2 .pickLead 300) { sWork with pending := [] }) ∧
    AccountsOk (after (.edge 0 2 .pickLead 300) { sWork with pending := [] }) := by
  refine ⟨?_, ?_, ?_, ?_, ?_, ?_, ?_, ?_, ?_⟩ <;> decide

/-- A free reserved entry, and the port that takes it. -/
theorem witness_reservations :
    ReservedFree { idle with reservations := [(3, 1)] } ∧ availableEntry { idle with reservations := [(3, 1)] } 1 = some 3 ∧
    ¬ ReservedFree (withUpload (uploadA .asked none 0) { sPick with reservations := [(0, 1)] }) := by decide

/-- RESET_N low and released, a command that is not one of the three, the load with a sound store, with another, and without one. -/
theorem witness_start_and_load :
    ({ idle with resetLow := true } : State).resetLow = true ∧
    (.fill 0 : Instr) ≠ .powerUp ∧ (.fill 0 : Instr) ≠ .resetNRelease ∧ (.fill 0 : Instr) ≠ .resetNAssert ∧
    State.reset.resetLow = false ∧ State.reset.loading = true ∧ State.reset.store.checkOk = false ∧
    ({ State.reset with store := { settings := defaultSettings, checkOk := true } } : State).store.checkOk = true ∧
    idle.resetLow = false ∧ idle.loading = false := by decide

/-- A frame at a busy port, and a malformed area at an idle one. -/
theorem witness_port_judges :
    sendsFrame .frameOverrun = true ∧ sendsFrame (.readRoom (.given ())) = true ∧
    State.reset.resetLow = false ∧ State.reset.cp.phase ≠ .idle ∧
    Takes idle ∧
    requestCode (.start .malformed) = some 0x17 ∧ badArea (.start .malformed) = true := by decide

/-- A state whose reply waits. -/
def sReply (due : Bool) : State :=
  { idle with cp :=
    { phase := .replyReady, reply := some { code := 0x17, result := .ok, overrun := false, data := .empty }, resetDue := due } }

/-- No reply ready, and a reply of seven bytes, read short by one and whole, with and without a reset due. -/
theorem witness_read_transaction :
    idle.cp.phase ≠ .replyReady ∧ idle.resetLow = false ∧
    ((sReply true).cp.phase = .replyReady ∧ (sReply true).cp.resetDue = true) ∧
    ((sReply false).cp.phase = .replyReady ∧ (sReply false).cp.resetDue = false) ∧
    (sReply false).cp.reply.map (·.frame.length) = some 7 ∧
    6 < 7 ∧ 7 ≤ 7 := by decide

/-- A raise that is not masked, and a set all of whose pairs meet a test. -/
theorem witness_attention :
    sWork.resetLow = false ∧ .stationNew ∉ sWork.room.mask ∧
    ∀ a ∈ sWork.attention, (fun x : Attn => decide (x.2 = 0)) a = true ∧
    ∀ a ∈ sWork.attention, a.2 < 256 := by decide

/-- Kinds 0 and 14 name none; 1 and 13 do. -/
theorem witness_attention_keys :
    Takes sWork ∧
    attnOfCode 0 = none ∧ attnOfCode 14 = none ∧
    attnOfCode 1 = some .stationNew ∧ attnOfCode 13 = some .settingsDefaulted ∧
    sWork.attention.filter (fun x => decide (attnKey (.stationHalted, 1) ≤ attnKey x)) = [(.suspectOpen, 0)] := by decide

/-- A test that is the pair or, with index 255, the kind. -/
theorem witness_clear_attention :
    ∀ x : Attn, (fun x : Attn => decide (x.1 = .suspectOpen)) x = true ↔ x.1 = .suspectOpen ∧ ((255 : Nat) = 255 ∨ x.2 = 255) := by simp

/-- Shares 3 and 65 are out of range, 4 and 64 in it; masks 8192 and 8191 meet. -/
theorem witness_room_requests :
    roomArgsOk { share := some 3 } = false ∧ roomArgsOk { share := some 65 } = false ∧
    roomArgsOk { share := some 4 } = true ∧ roomArgsOk { share := some 64 } = true ∧ roomArgsOk {} = false ∧
    8192 ≤ 8192 ∧ 8191 < 8192 ∧
    Takes idle := by decide

/-- A save in progress with one entry that differs. -/
def sSave (c : Settings) : State :=
  { idle with cp := { phase := .executing, request := some 0x06 }, save := some { copy := c, written := 0 } }

/-- A save with an entry left to write, and one with none. -/
theorem witness_save :
    Runs (sSave { defaultSettings with room := { share := 25 } }) ∧
    differing { defaultSettings with room := { share := 25 } } idle.store.settings = [0] ∧
    differing defaultSettings idle.store.settings = [] ∧
    (0 < 109 ∧ 108 < 109) ∧
    ({ defaultSettings with room := { share := 25 } } : Settings).room.share = 25 ∧ (sSave defaultSettings).store.checkOk = false := by decide

/-- Indices and handles at the ends of their tables: listed, free, and past the end. -/
theorem witness_lookups :
    Takes sWork ∧
    entryAt sWork 0 = some { entryA with liveCount := 3, nextTag := 3, path := [{ slot := 1, pickLead := 7 }] } ∧
    entryAt sWork 1 = none ∧ entryAt sWork 23 = none ∧ entryAt sWork 24 = none ∧
    (batchAt sWork 0).isSome = true ∧ batchAt sWork 1 = none ∧ batchAt sWork 47 = none ∧ batchAt sWork 48 = none := by decide

/-- An absent, unbound entry, a port waiting for its ID, and a port waiting for any entry. -/
def sAbsent : State :=
  { idle with
    entries := [(0, { id := idA, name := [0x42] })]
    ports := (idle.ports.set 1 { link := .unlisted, kept := some (idA, .duplicate) }).set 2
      { link := .unlisted, kept := some ({ maker := 1, serial := 2 }, .full) } }

/-- Names of 12 and 13 characters; an entry in use and one that can be forgotten, with the ports that wait for it. -/
theorem witness_name_and_forget :
    nameOk 12 (List.replicate 12 65) = true ∧ nameOk 12 (List.replicate 13 65) = false ∧
    (entryAt sAbsent 0).map (fun x => (x.port, x.bound, x.liveCount)) = some (none, none, 0) ∧
    (entryAt sWork 0).map (fun x => x.port.isSome) = some true ∧
    (sAbsent.ports[(1 : Fin 16)].link = .unlisted ∧ sAbsent.ports[(1 : Fin 16)].kept = some (idA, .duplicate)) ∧
    lowestPort sAbsent Port.waitsFull = some 2 ∧ lowestPort idle Port.waitsFull = none ∧
    sAbsent.ports[(0 : Fin 16)].link ≠ .unlisted ∧ Takes sAbsent := by
  refine ⟨?_, ?_, ?_, ?_, ?_, ?_⟩ <;> decide

/-- A refused address, the room, a maker and one station. -/
theorem witness_addresses :
    addressOk ⟨65535, 0⟩ = false ∧
    addressOk ⟨65535, 4294967295⟩ = true ∧ addressOk ⟨210, 4294967295⟩ = true ∧ addressOk idA = true ∧
    matching sWork ⟨65535, 4294967295⟩ = [0] ∧ matching sWork idA = [0] ∧ matching sWork ⟨211, 4294967295⟩ = [] ∧
    (sWork.entries.get 0).isSome = true := by decide

/-- Port 16 does not exist; port 1 is DOWN; port 0 has entry 0. -/
theorem witness_reset_port :
    Takes sWork ∧ 16 ≤ 16 ∧
    sWork.ports[(1 : Fin 16)].link = .down ∧
    AttachedTo sWork 0 0 ∧ (sWork.entries.get 0).isSome = true := by decide

/-- One bound station in a feed state. -/
def sFeed (f : FeedState) (k : Option HaltCause) : State := room { entryA with feed := f, cause := k } batchA []

/-- Every feed state, a RESUME that may not be taken, one for a bound and one for an unbound station. -/
theorem witness_feed :
    (∀ f ∈ [FeedState.idle, .ready, .running, .halted, .clearing], Takes (sFeed f none) ∧ (entryAt (sFeed f none) 0).map (·.feed) = some f) ∧
    entryAt (sFeed .idle none) 1 = none ∧
    (entryAt (sFeed .halted (some .linkLost)) 0).map (fun x => (x.pathClear, x.bound, x.port.isSome, x.view.isSome)) = some (true, some 0, true, true) ∧
    ({ entryA with feed := .halted, cause := some .linkLost, view := some { still with pathClear := false } } : Entry).pathClear = false ∧
    (entryAt (room { entryA with feed := .halted, cause := some .host, bound := none } batchA []) 0).map (fun x => (x.bound, x.pathClear)) = some (none, true) ∧
    (entryAt (room { entryA with feed := .halted, view := none } batchA []) 0).map (·.view) = some none := by
  refine ⟨?_, ?_, ?_, ?_, ?_, ?_⟩ <;> decide

/-- A moving station on a port, with its tables in order. -/
theorem witness_halt :
    TablesOk sWork ∧
    (sWork.entries.get 0).map (fun x => (x.feed, x.port)) = some (.running, some 0) ∧
    .stationHalted ∉ sWork.room.mask := by decide

/-- Every refusal of OPEN_BATCH and its success: a label of 16 and of 17 characters, plans 15 and 16, a label in use, a full table. -/
theorem witness_open_batch :
    openArgsOk { label := List.replicate 16 65, plan := some 15 } = true ∧ openArgsOk { label := List.replicate 17 65 } = false ∧
    (findLabel sWork [0x41]).isSome = true ∧ findLabel sWork [0x42] = none ∧ sWork.batches.firstFree 48 = some 1 ∧
    findLabel { idle with batches := (List.range 48).map fun n => (n, { label := [0x43] }) } [0x42] = none ∧
    Tab.firstFree 48 ((List.range 48).map fun n => (n, batchA)) = none ∧
    openArgsOk { label := [65], plan := some 16 } = true := by decide

/-- An ill label, a label no record carries, and a label one record carries. -/
theorem witness_find_batch :
    labelOk [] = false ∧ labelOk [0x42] = true ∧ labelOk [0x41] = true ∧
    (∀ p ∈ sWork.batches, p.2.label ≠ [0x42]) ∧
    (∀ p ∈ sPick.batches, p.2.label = [0x41] → p = (0, { batchA with picking := 1 })) ∧ (0, { batchA with picking := 1 }) ∈ sPick.batches := by decide

/-- The batch alone, in a state. -/
def sBatch (b : Batch) : State := { idle with batches := [(0, b)] }

/-- Requests the owner refuses, counts below and at fed plus picking, labels free and taken, plans 15 and 16, batches OPEN and CLOSING. -/
theorem witness_amend :
    amendNowOk { handle := 0 } = false ∧ amendNowOk { handle := 0, label := some [0x41] } = true ∧ amendNowOk { handle := 0, expected := some (some 2) } = true ∧
    (batchAt sWork 0).map (fun b => (b.state, b.fed + b.picking)) = some (.open, 3) ∧
    labelTaken sWork 0 (some [0x41]) = false ∧ labelTaken { sWork with batches := sWork.batches.put 1 { label := [0x42] } } 0 (some [0x42]) = true ∧
    amendLaterOk { handle := 0 } = false ∧ amendLaterOk { handle := 0, plan := some 16 } = true ∧ amendLaterOk { handle := 0, plan := some 15 } = true ∧
    ((batchAt (sBatch { label := [0x41], state := .closing }) 0).map (·.state) = some .closing ∧ batchAt sWork 48 = none) := by decide

/-- A free pair, a bound batch, an unbound one, a station that runs and one at rest. -/
theorem witness_bind :
    (batchAt (sBatch { label := [0x41] }) 0).map (fun b => (b.state, b.bound)) = some (.open, none) ∧
    (entryAt sAbsent 0).map (·.feed) = some .idle ∧
    (batchAt (sFeed .ready none) 0).map (·.bound) = some (some 0) ∧ pickingOf (sFeed .ready none) 0 = none ∧
    ((sFeed .ready none).entries.get 0).map (fun x => (x.feed, x.path)) = some (.ready, []) ∧
    (pickingOf sWork 0).isSome = true := by decide

/-- Batches that a CHECKPOINT finds with a target, without sheets, and with one; and a CLOSED one. -/
theorem witness_pause_checkpoint_close :
    Takes sWork ∧ (batchAt sWork 0).map (fun b => (b.state, b.target, b.nextSeq - 1 + b.picking, b.last)) = some (.open, none, 3, 0) ∧
    (batchAt (sBatch { label := [65], target := some 4 }) 0).map (·.target) = some (some 4) ∧
    (batchAt (sBatch { label := [65] }) 0).map (fun b => (b.nextSeq - 1 + b.picking, b.last)) = some (0, 0) ∧
    (batchAt (sBatch { label := [65], state := .closed }) 0).map (·.state) = some .closed := by decide

/-- An OPEN batch with records, and CLOSED and CLOSING ones. -/
theorem witness_abort_retire :
    Takes sWork ∧ TablesOk sWork ∧ (batchAt sWork 0).map (·.state) = some .open ∧ liveCount sWork 0 = 2 ∧
    Takes (sBatch { label := [65], state := .closed }) ∧
    (batchAt (sBatch { label := [65], state := .closed }) 0).map (·.label) = some [65] ∧
    (∀ p ∈ (sBatch { label := [65], state := .closed }).batches, p.2.label = [65] → p.1 = 0) ∧
    TablesOk (sBatch { label := [65], state := .closed }) := by decide

/-- A bound station that runs with paper and one at rest, live records with a delivery on a lane, with images lost, of a present and of an absent station. -/
theorem witness_abort :
    (batchAt sWork 0).map (·.bound) = some (some 0) ∧ (sWork.entries.get 0).map (fun x => (x.feed, x.port, x.path.length)) = some (.running, some 0, 1) ∧
    (sWork.sheets.get 0).map (fun r => (r.batch, r.state, r.fault, r.deliveries)) = some (0, .routing, none, some [flying]) ∧
    sWork.lanes[(0 : Fin 4)].state ≠ .loopback ∧ (∀ a ∈ sWork.attention, a.2 < 256) ∧
    [flying].Pairwise (fun a d => a.side ≠ d.side ∨ a.role ≠ d.role) ∧ (∀ w ∈ sWork.lanes[(0 : Fin 4)].window, some w.number = flying.number) ∧
    (∀ f ∈ [FeedState.halted, .clearing], ((room { entryA with feed := f, path := [placeA] } batchA []).entries.get 0).map (fun x => (x.feed, x.path)) = some (f, [placeA])) ∧
    ((room { entryA with port := none } batchA [(0, suspect)]).entries.get 0).map (·.port) = some none := by
  refine ⟨?_, ?_, ?_, ?_, ?_, ?_⟩ <;> decide

/-- Targets at and above the highest sequence, and a completion with an amendment. -/
theorem witness_checkpoints :
    ({ label := [65], interval := 5, last := 65530 } : Batch).periodicTarget = some 65535 ∧
    ({ label := [65], interval := 10, last := 65530 } : Batch).periodicTarget = none ∧
    ({ label := [65], target := some 4, pendingAmend := some { plan := some 3 } } : Batch).target = some 4 ∧
    checkpointDone (sBatch { label := [65], target := some 4, nextSeq := 5, interval := 4 }) 0 = true ∧
    checkpointDone (sBatch { label := [65], target := some 5, nextSeq := 5 }) 0 = false := by decide

/-- A CLOSING batch bound to a station at rest, to one in CLEARING and to one with a sheet of it, and an unbound one with and without live records. -/
theorem witness_closing :
    ((room entryA { batchA with state := .closing } []).batches.get 0).map (fun b => (b.state, b.bound, b.picking, b.live)) = some (.closing, some 0, 0, 0) ∧
    pathHolds (room entryA { batchA with state := .closing } []) entryA 0 = false ∧ entryA.feed ≠ .clearing ∧
    pathHolds (sLive passing [placeA]) { entryA with path := [placeA] } 0 = true ∧
    TablesOk (room entryA { batchA with state := .closing } []) ∧ (∀ a ∈ (room entryA { batchA with state := .closing } []).attention, a.2 < 256) ∧
    ((sBatch { label := [65], state := .closing, live := 1 }).batches.get 0).map (fun b => (b.bound, b.live)) = some (none, 1) := by decide

/-- Sequence 0, a serial of no record, of a batch past the table, and of one record. -/
theorem witness_find_sheet :
    Takes sWork ∧ (⟨0, 0⟩ : Serial).seq = 0 ∧
    (∀ p ∈ sWork.sheets, p.2.serial ≠ some ⟨0, 9⟩) ∧
    (sLive suspect []).sheets = [(0, suspect)] ∧ suspect.serial = some ⟨0, 1⟩ ∧
    (∀ p ∈ (sLive suspect []).sheets, p.2.serial = some ⟨0, 1⟩ → p = (0, suspect)) ∧
    sWork.batches.get 47 = none ∧ 48 ≤ 48 := by decide

/-- Slots 511 and 512, a live slot, a serial found and one not, and a list start. -/
theorem witness_sheet_reads :
    512 ≤ 512 ∧ 511 < 512 ∧ sheetAt sWork 511 = none ∧ sheetAt sWork 384 = none ∧
    sheetAt (sLive suspect []) 0 = some suspect ∧
    serialAt (sLive suspect []) ⟨0, 1⟩ = some (0, suspect) ∧ serialAt (sLive suspect []) ⟨0, 2⟩ = none ∧
    (batchAt sWork 0).isSome = true ∧ batchAt sWork 48 = none ∧
    suspectsFrom (sLive suspect []) 0 1 = [(0, suspect)] ∧ suspectsFrom (sLive suspect []) 0 2 = [] := by decide

/-- A suspect that may be accepted, one without images, one whose upload failed, one whose images are lost, one in the path, one that routes without images, and one that routes with them. -/
theorem witness_resolve :
    Takes (sLive suspect []) ∧ inPath (sLive suspect []) 0 suspect = false ∧
    suspect.images.isSome = true ∧ suspect.fault ≠ some .imagesLost ∧ suspect.evidence.cleared = false ∧ suspect.evidence.linkLost = false ∧ suspect.captured.isSome = true ∧
    serialAt (sLive { suspect with images := none } []) ⟨0, 1⟩ = some (0, { suspect with images := none }) ∧
    serialAt (sLive { suspect with state := .fault, fault := some .uploadFailed } []) ⟨0, 1⟩ =
      some (0, { suspect with state := .fault, fault := some .uploadFailed }) ∧
    serialAt (sLive { suspect with state := .fault, fault := some .imagesLost } []) ⟨0, 1⟩ =
      some (0, { suspect with state := .fault, fault := some .imagesLost }) ∧
    inPath (sLive suspect [placeA]) 0 suspect = true ∧
    serialAt (sLive { routed with images := none } []) ⟨0, 1⟩ = some (0, { routed with images := none }) ∧
    serialAt (sLive routed []) ⟨0, 1⟩ = some (0, routed) ∧
    serialAt (sLive passing []) ⟨0, 1⟩ = some (0, passing) := by
  refine ⟨?_, ?_, ?_, ?_, ?_, ?_, ?_, ?_, ?_⟩ <;> decide

/-- A routed sheet whose one delivery is DONE. -/
def delivered : Sheet := { routed with deliveries := some [{ side := .one, role := .primary, lane := 0, status := .done }] }

/-- A record that completes and one that does not, a present station and an absent one, a tag held nowhere else, and owed lists. -/
theorem witness_completion :
    ((sLive delivered []).sheets.get 0 = some delivered ∧ delivered.state = .routing ∧ delivered.tray.isSome = true ∧ delivered.verdict = .clear) ∧
    (∀ d ∈ delivered.deliveries.getD [], d.status = .done) ∧ ¬ (∀ d ∈ routed.deliveries.getD [], d.status = .done) ∧
    TablesOk (sLive delivered []) ∧ (∀ p ∈ (sLive delivered []).sheets, p.2.station = 0 → p.2.tag = 0 → p.1 = 0) ∧
    releaseWaiting (sLive delivered []).ports[(0 : Fin 16)] 0 = false ∧ ((sLive delivered []).batches.get 0).isSome = true ∧
    delivered.captured = some capA ∧ capA.plan = (0 : Fin 16).val ∧
    ([((3 : Tag), ReleaseOutcome.kept), (5, .dropped)].map Prod.fst).Pairwise (· < ·) := by
  refine ⟨?_, ?_, ?_, ?_, ?_, ?_⟩ <;> decide

/-- A station ready for a grant with a free slot and a free tag. -/
theorem witness_grant :
    TablesOk (room entryA batchA []) ∧ (room entryA batchA []).entries.get 0 = some entryA ∧ entryA.bound = some 0 ∧
    (room entryA batchA []).batches.get 0 = some batchA ∧ entryA.port = some 0 ∧
    grantReady (room entryA batchA []) 0 = true ∧
    (room entryA batchA []).sheets.firstFree 384 = some 0 ∧ freeTag (room entryA batchA []) 0 entryA = some 0 := by decide

/-- Eight rows of a plan, the last without a primary lane. -/
def rowsA : List RowArgs := List.replicate 7 ⟨some 0, some 1, some 2, true⟩ ++ [⟨none, none, none, false⟩]

/-- Class kinds 0, 4 and 5, categories 7 and 8, entries 63 and 64, plans 15 and 16, names of 8 and 9 characters, a plan in use and one that is not. -/
theorem witness_tables :
    kindOfCode 0 = none ∧ kindOfCode 5 = none ∧ (kindOfCode 4).isSome = true ∧ 7 < 8 ∧ 7 ≤ 7 ∧
    64 ≤ 64 ∧ 63 < 64 ∧ 16 ≤ 16 ∧ 15 < 16 ∧
    nameOk 8 (List.replicate 8 65) = true ∧ nameOk 8 (List.replicate 9 65) = false ∧
    (rowsOf rowsA).isSome = true ∧ rowsOf [] = none ∧
    0 < planUsers sWork 0 ∧ planUsers sWork 1 = 0 ∧ planAmenders sWork 1 = 0 ∧ sWork.plans[(1 : Fin 16)].captures = 0 ∧
    0 < planAmenders (sBatch { label := [65], pendingAmend := some { plan := some 1 } }) 1 := by
  refine ⟨?_, ?_, ?_, ?_, ?_, ?_⟩ <;> decide

/-- Every state of a lane, a window in LOOPBACK below and at the window asked, a pending suspension, and parameters out of range. -/
theorem witness_lane_requests :
    Takes (withLane0 (laneA .up []) idle) ∧ 4 ≤ 4 ∧
    (∀ st ∈ [LaneState.down, .aligning, .up, .suspended, .loopback, .failed], (withLane0 (laneA st []) idle).lanes[(0 : Fin 4)].state = st) ∧
    laneArgsOk { lane := 0, window := some 33 } = false ∧ laneArgsOk { lane := 0, window := some 32 } = true ∧
    (laneA .loopback [windowA .awaitAccept false none, windowA .awaitSecure true none]).window.length = 2 ∧
    (laneA .up [windowA .awaitAccept false none]).window ≠ [] ∧ (laneA .up []).window = [] ∧
    ({ laneA .up [] with suspendPending := true } : Lane).suspendPending = true := by
  refine ⟨?_, ?_, ?_, ?_, ?_, ?_⟩ <;> decide

/-- Alignment counts 6 and 7, malformed counts 6 and 7, timers running and stopped, and every link state. -/
theorem witness_port_events :
    Runs (withPort0 { link := .aligning, align := 6, silence := some 5 } idle) ∧
    (withPort0 { link := .aligning, align := 7 } idle).ports[(0 : Fin 16)].align = 7 ∧
    (withPort0 { link := .up, malformed := 6 } idle).ports[(0 : Fin 16)].malformed < 7 ∧ 7 ≤ (withPort0 { link := .up, malformed := 7 } idle).ports[(0 : Fin 16)].malformed ∧
    (∀ k ∈ [Link.down, .aligning, .querying, .up, .unlisted], (withPort0 { link := k } idle).ports[(0 : Fin 16)].link = k) ∧
    (withPort0 { link := .querying, queryTimer := some 50 } idle).ports[(0 : Fin 16)].queryTimer.isSome = true := by decide

/-- IDENTs valid and not, an ID unknown with an entry free, the directory full, an ID known absent and present, and a second IDENT of an attached station. -/
theorem witness_ident :
    Ident.valid identA = true ∧ Ident.valid { identA with facts := { facts with capacity := 3 } } = false ∧ Ident.valid { identA with facts := { facts with capacity := 4 } } = true ∧
    Runs (withPort0 { link := .querying } idle) ∧ TablesOk (withPort0 { link := .querying } idle) ∧ availableEntry (withPort0 { link := .querying } idle) 0 = some 0 ∧ findId (withPort0 { link := .querying } idle) idA = none ∧
    availableEntry { idle with entries := (List.range 24).map fun n => (n, entryA) } 0 = none ∧
    findId (withPort0 { link := .querying } sAbsent) idA = some (0, { id := idA, name := [0x42] }) ∧
    (findId sPick idA).map (fun p => p.2.port) = some (some 0) ∧
    ({ id := idA, epoch := some 1, owed := [(2, .kept)] } : Entry).epoch = some identA.epoch ∧ ({ id := idA } : Entry).epoch ≠ some identA.epoch ∧
    AttachedTo sPick 0 0 ∧ (sPick.entries.get 0).map (fun x => (x.id, x.epoch)) = some (identA.id, some identA.epoch) := by
  refine ⟨?_, ?_, ?_, ?_, ?_, ?_, ?_⟩ <;> decide

/-- `sWork` with its suspect not yet found out, and a RELEASE and a DIVERT waiting on its port. -/
def sLoss : State :=
  { withPort0 { portUp with queues := { release := [(5, .kept)], divert := [1] } } sWork with
    sheets := sWork.sheets.modify 1 fun r => { r with state := .inPath, verdict := .pending } }

/-- The same with its station in CLEARING and its pick timer suspended. -/
def sClearing : State :=
  modEntry 0 (fun x => { x with feed := .clearing, cause := some .cover, timer := .suspended 9 }) sLoss

/-- A STATUS that ends clearing. -/
def clearStatus : StatusWord := { view := still, position := 9, call := false }

/-- An absent station with a record routing under store epoch `o`, and its port queried again. -/
def sReturn (o : Option Nat) : State :=
  withPort0 { link := .querying }
    (room { entryA with port := none, epoch := o, feed := .halted, cause := some .linkLost, identify := true, liveCount := 1 }
      { batchA with nextSeq := 2, fed := 1, live := 1 } [(0, routed)])

/-- A table with no slot FREE. -/
def sFull : State := room entryA batchA ((List.range 384).map fun n => (n, { picking with station := 1, state := .inPath }))

/-- A detach: the upload back to WAITING, LINK_LOST on the sheet in the path, the PICKING record freed, the RELEASE owed. -/
theorem test_detach :
    (((portDown 0 sLoss).sheets.get 0).bind fun r => (deliveryOf r .one .primary).map (·.status)) = some .waiting ∧
      (((portDown 0 sLoss).sheets.get 1).map fun r => (r.state, r.evidence.linkLost)) = some (.suspect, true) ∧
      (portDown 0 sLoss).sheets.get 2 = none ∧ ((portDown 0 sLoss).batches.get 0).map (·.openSuspects) = some 2 ∧
      ((portDown 0 sLoss).entries.get 0).map (fun x => (x.feed, x.cause, x.owed)) = some (.halted, some .linkLost, [(5, .kept)]) := by decide +kernel

/-- Clearing ends: CLEARED, the DIVERT withdrawn, the pick timer running again. -/
theorem test_clearing :
    (fun s : State =>
     ((s.sheets.get 1).map fun r => (r.state, r.evidence.cleared), s.ports[(0 : Fin 16)].queues.divert,
       (s.entries.get 0).map fun x => (x.feed, x.path, x.timer)))
      (after (.status 0 clearStatus) sClearing) = (some (.suspect, true), [], some (.ready, [], .running 9)) := by decide +kernel

/-- A return under another epoch loses the images; HALT and IDENTIFY wait. -/
theorem test_return :
    (fun s : State =>
     ((s.sheets.get 0).map fun r => (r.state, r.fault, r.images), s.ports[(0 : Fin 16)].queues.halt, s.ports[(0 : Fin 16)].queues.identify,
       s.attention))
      (after (.ident 0 identA) (sReturn (some 2))) =
      (some (.fault, some .imagesLost, none), true, some true, [(.sheetFault, 0)]) := by decide +kernel

/-- A station in UP with a sheet in its path, a record in PICKING, an upload and a waiting RELEASE; another port waiting for its ID. -/
theorem witness_detach :
    TablesOk sLoss ∧ AttachedTo sLoss 0 0 ∧ (sLoss.entries.get 0).isSome = true ∧
    (∀ n ∈ sLoss.sheets, n.2.batch < 48) ∧ (∀ a ∈ sLoss.attention, a.2 < 256) ∧
    ((sLoss.entries.get 0).map fun x => (x.path.map (·.slot), x.owed)) = some ([1], []) ∧ (pickingOf sLoss 0).isSome = true ∧ pickingOf sPick 1 = none ∧
    waitingReleases sLoss.ports[(0 : Fin 16)] = [(5, .kept)] ∧ (sLoss.uploads.get 0).isSome = true ∧
    lowestPort { sLoss with ports := sLoss.ports.set 1 { link := .unlisted, kept := some (idA, .duplicate) } } (Port.waitsFor idA) = some 1 ∧ lowestPort sLoss (Port.waitsFor idA) = none := by decide

/-- Ports in QUERYING: with no reservation, with one that another FULL port takes and one that none takes, and re-queried for an ID whose entry is absent, present or gone. -/
theorem witness_port_down :
    (∀ q ∈ idle.reservations, q.2 ≠ (0 : Fin 16).val) ∧
    reservedFor { idle with reservations := [(3, 0)] } 0 = some 3 ∧ lowestPort idle Port.waitsFull = none ∧
    lowestPort sAbsent Port.waitsFull = some 2 ∧ lowestPort sAbsent (Port.waitsFor idA) = some 1 ∧
    (withPort0 { link := .querying, requeriedFor := some idA } sAbsent).ports[(0 : Fin 16)].requeriedFor = some idA ∧
    (findId sAbsent idA).map (fun p => p.2.port) = some none ∧ findId idle idA = none ∧ (findId sWork idA).map (fun p => p.2.port.isSome) = some true := by decide

/-- A station in CLEARING with a sheet in its path, on a port with its DIVERT waiting. -/
theorem witness_clearing :
    Runs sClearing ∧ TablesOk sClearing ∧ AttachedTo sClearing 0 0 ∧
    (∀ n ∈ sClearing.sheets, n.2.batch < 48) ∧ (∀ a ∈ sClearing.attention, a.2 < 256) ∧
    ((sClearing.entries.get 0).map fun x => (x.feed, x.path.map (·.slot), x.port)) = some (.clearing, [1], some 0) ∧
    clearStatus.view.coverOpen = false ∧ clearStatus.view.pathClear = true ∧
    ((sClearing.sheets.get 1).map fun r => r.state) = some .inPath ∧ sClearing.ports[(0 : Fin 16)].queues.divert = [1] := by decide

/-- The same station absent under its epoch, another, and none, with a record routing. -/
theorem witness_return :
    (∀ o ∈ [none, some 1, some 2], TablesOk (sReturn o) ∧ Runs (sReturn o)) ∧
    (∀ o ∈ [none, some 1, some 2], (findId (sReturn o) idA).map (fun p => (p.1, p.2.port, p.2.epoch)) = some (0, none, o)) ∧
    Ident.valid identA = true ∧ (sReturn none).ports[(0 : Fin 16)].link = .querying ∧
    ((sReturn (some 2)).sheets.get 0).map (fun r => (r.station, r.state, r.fault)) = some (0, .routing, none) ∧
    (∀ m ∈ (sReturn (some 2)).sheets, m.2.batch < 48) ∧ AttnKind.sheetFault ∉ (sReturn (some 2)).room.mask := by decide

/-- The room with a present and with an absent station, and the three forms. -/
theorem witness_identify :
    TablesOk sAbsent ∧ TablesOk sWork ∧ matching sAbsent idA = [0] ∧ (sAbsent.entries.get 0).map (·.port) = some none ∧
    (sWork.entries.get 0).map (·.port) = some (some 0) ∧ matching sWork ⟨210, 4294967295⟩ = [0] := by decide

/-- A station ready for a grant with the table full. -/
theorem witness_waiting_full :
    sFull.sheets.firstFree 384 = none ∧ grantReady sFull 0 = true ∧ sFull.waiting = [] := ⟨Tab.firstFree_none.2 fun k h => by simpa [sFull, room] using h, by decide +kernel, rfl⟩

/-- Waiting stations of which the first fails and the second is served, and a set of which all fail. -/
theorem witness_waiting :
    ((1 : Nat) = ((room entryA batchA []).lastAlloc + 1 + 1) % 24 ∧ (room entryA batchA []).sheets.firstFree 384 = some 0) ∧
    grantReady { room entryA batchA [] with lastAlloc := 22, waiting := [0, 23] } 23 = false ∧
    grantReady { room entryA batchA [] with lastAlloc := 22, waiting := [0, 23] } 0 = true ∧ (0 : Nat) = (22 + 1 + 1) % 24 ∧
    (∀ e ∈ [3, 23], e < 24 ∧ grantReady { idle with waiting := [3, 23] } e = false) := by decide

/-- A named interval with and without a target pending. -/
theorem witness_amend_now :
    TablesOk sWork ∧ (batchAt sWork 0).map (fun b => (b.target, b.last)) = some (none, 0) ∧
    (∀ v : Fin 9, some 8 = some v.val ↔ 8 ≠ 0 ∧ v.val ≤ 65535 ∧ 0 < v.val ∧ 8 ∣ v.val ∧ ∀ u : Fin 9, 0 < u.val → 8 ∣ u.val → v.val ≤ u.val) ∧
    (batchAt (sBatch { label := [65], target := some 4 }) 0).map (·.target) = some (some 4) := by decide

/-- SET_ROOM with nothing named, and each value at both ends of its range and just beyond them. -/
theorem witness_room_values :
    roomArgsOk {} = false ∧
    (∀ v ∈ [4, 64], roomArgsOk { share := some v } = true) ∧ (∀ v ∈ [3, 65], roomArgsOk { share := some v } = false) ∧
    (∀ v ∈ [5, 100], roomArgsOk { silence := some v } = true) ∧ (∀ v ∈ [4, 101], roomArgsOk { silence := some v } = false) ∧
    (∀ v ∈ [50, 2000], roomArgsOk { pickTimeout := some v } = true) ∧ (∀ v ∈ [49, 2001], roomArgsOk { pickTimeout := some v } = false) ∧
    (∀ v ∈ [20, 2000], roomArgsOk { jamSlack := some v } = true) ∧ (∀ v ∈ [19, 2001], roomArgsOk { share := some 4, jamSlack := some v } = false) := by decide

/-- Labels of 0, 1, 16 and 17 characters, codes 31, 126 and 127, a space at each end and within, names at and beyond their lengths, and addresses. -/
theorem witness_text_values :
    (∀ n ∈ [1, 16], labelOk (List.replicate n 65) = true) ∧ (∀ n ∈ [0, 17], labelOk (List.replicate n 65) = false) ∧
    labelOk [65, 32, 126] = true ∧ (∀ l ∈ [[32, 65], [65, 32], [65, 31, 65], [127]], labelOk l = false) ∧
    nameOk 12 [] = true ∧ nameOk 12 (List.replicate 12 32) = true ∧ nameOk 12 (List.replicate 13 65) = false ∧ nameOk 12 [31] = false ∧ nameOk 8 [127] = false ∧
    addressOk ⟨65535, 4294967295⟩ = true ∧ addressOk ⟨65534, 4294967295⟩ = true ∧ addressOk ⟨65534, 0⟩ = true ∧ addressOk ⟨65535, 4294967294⟩ = false := by decide

/-- Bands with one bound, equal bounds and the ends of their ranges, each value of OPEN_BATCH and AMEND_BATCH at its ends, an amendment that names nothing or the other mode, and labels taken by another record and by its own. -/
theorem witness_batch_values :
    (∀ q ∈ [(some 250, some 251), (some 4999, some 5000), (none, none)], openArgsOk { label := [65], bandMin := q.1, bandMax := q.2 } = true) ∧
    (∀ q ∈ [(some 300, none), (none, some 300), (some 300, some 300), (some 249, some 300), (some 300, some 5001), (some 5000, some 5000)], openArgsOk { label := [65], bandMin := q.1, bandMax := q.2 } = false) ∧
    openArgsOk { label := [65], minGap := some 2000, interval := some 4096, expected := some 65535, suspectLimit := some 15, retries := some 3 } = true ∧
    (∀ a ∈ [({ label := [65], minGap := some 2001 } : OpenArgs), { label := [65], interval := some 4097 }, { label := [65], expected := some 0 }, { label := [65], suspectLimit := some 16 }, { label := [65], retries := some 4 }, { label := [] }], openArgsOk a = false) ∧
    (∀ a ∈ [({ handle := 0, expected := some none } : AmendNowArgs), { handle := 0, expected := some (some 1) }, { handle := 0, label := some [65] }], amendNowOk a = true) ∧
    (∀ a ∈ [({ handle := 0 } : AmendNowArgs), { handle := 0, retries := some 1, foreign := true }, { handle := 0, expected := some (some 0) }, { handle := 0, label := some [] }, { handle := 0, interval := some 4097 }], amendNowOk a = false) ∧
    (∀ a ∈ [({ handle := 0, band := some none } : AmendLaterArgs), { handle := 0, plan := some 16 }, { handle := 0, minGap := some 2000 }], amendLaterOk a = true) ∧
    (∀ a ∈ [({ handle := 0 } : AmendLaterArgs), { handle := 0, plan := some 1, foreign := true }, { handle := 0, band := some (some ⟨300, 300⟩) }, { handle := 0, minGap := some 2001 }], amendLaterOk a = false) ∧
    labelTaken (sBatch { label := [65] }) 1 (some [65]) = true ∧ labelTaken (sBatch { label := [65] }) 0 (some [65]) = false ∧ labelTaken (sBatch { label := [65] }) 1 none = false := by
  refine ⟨?_, ?_, ?_, ?_, ?_, ?_, ?_, ?_, ?_⟩ <;> decide

/-- Rows that SET_PLAN refuses, lane parameters at the ends of their ranges and beyond, IDENT fields at theirs, and a plan row inside the tables and outside them. -/
theorem witness_table_values :
    (∀ r ∈ [(⟨some 4, none, none, false⟩ : RowArgs), ⟨some 0, some 0, none, false⟩, ⟨some 0, none, some 0, false⟩, ⟨some 0, some 1, some 1, false⟩, ⟨none, some 1, none, false⟩, ⟨none, none, some 1, false⟩, ⟨none, none, none, true⟩], rowsOf (r :: rowsA.drop 1) = none) ∧
    (rowsOf (⟨some 3, some 2, some 1, true⟩ :: rowsA.drop 1)).isSome = true ∧ rowsOf (rowsA.drop 1) = none ∧
    laneArgsOk { lane := 0, window := some 1, high := some 1, low := some 0, silence := some 5, ack := some 100, secure := some 1 } = true ∧ laneArgsOk { lane := 0, window := some 32, high := some 32, low := some 32, silence := some 100, ack := some 60000, secure := some 600 } = true ∧
    (∀ a ∈ [({ lane := 0 } : LaneArgs), { lane := 0, window := some 0 }, { lane := 0, high := some 0 }, { lane := 0, high := some 33 }, { lane := 0, low := some 33 }, { lane := 0, silence := some 4 }, { lane := 0, ack := some 99 }, { lane := 0, ack := some 60001 }, { lane := 0, secure := some 0 }, { lane := 0, secure := some 601 }], laneArgsOk a = false) ∧
    (∀ f ∈ [({ facts with pickToGauge := 20, gaugeToExit := 20, divertLimit := 0, capacity := 255 } : StationFacts), { facts with pickToGauge := 4000, gaugeToExit := 8000, divertLimit := 8000 }], Ident.valid { identA with facts := f } = true) ∧
    (∀ f ∈ [({ facts with pickToGauge := 19 } : StationFacts), { facts with pickToGauge := 4001 }, { facts with gaugeToExit := 19 }, { facts with gaugeToExit := 8001 }, { facts with divertLimit := 8001 }, { facts with capacity := 256 }], Ident.valid { identA with facts := f } = false) ∧
    Ident.valid { identA with id := ⟨65535, 0⟩ } = false ∧ Ident.valid { identA with id := ⟨0, 4294967295⟩ } = false ∧
    planRow idle { passing with captured := some { capA with plan := 15 }, cls := some (.document, 7) } = some { primary := none } ∧ planRow idle { passing with captured := some { capA with plan := 16 }, cls := some (.document, 0) } = none ∧ planRow idle { passing with captured := some capA } = none := by
  refine ⟨?_, ?_, ?_, ?_, ?_, ?_, ?_, ?_⟩ <;> decide

/-- Travel forward, across the wrap, at 32767 and from 32768 on, and backwards. -/
theorem witness_travel :
    posDiff 0 32767 = 32767 ∧ posDiff 0 32768 = 0 ∧ posDiff 65535 4 = 5 ∧ posDiff 5 4 = 0 ∧ posDiff 40000 7231 = 32767 ∧ posDiff 40000 7232 = 0 := by decide

/-- A target below, at and between the last sequence and the highest reached. -/
theorem witness_phases :
    ({ label := [65], nextSeq := 5, picking := 1, target := some 6 } : Batch).phase = .pending ∧ ({ label := [65], nextSeq := 5, picking := 1, target := some 5 } : Batch).phase = .limited ∧ ({ label := [65], nextSeq := 5, picking := 1, target := some 4 } : Batch).phase = .armed ∧ ({ label := [65], nextSeq := 5 } : Batch).phase = .none := by decide

/-- A grant that meets its count, its target and the last sequence, and one that meets none. -/
theorem witness_grant_pauses :
    (∀ b ∈ [({ batchA with expected := some 1 } : Batch), { batchA with target := some 1 }, { batchA with nextSeq := 65535 }, batchA], grantReady (room entryA b []) 0 = true) ∧
    ((rejudge 0 (room entryA { batchA with expected := some 1 } [])).batches.get 0).map (·.pauses.countReached) = some true ∧ (rejudge 0 (room entryA { batchA with expected := some 1 } [])).attention = [(.countReached, 0)] ∧
    ((rejudge 0 (room entryA { batchA with target := some 1 } [])).batches.get 0).map (·.pauses.checkpoint) = some true ∧
    ((rejudge 0 (room entryA { batchA with nextSeq := 65535 } [])).batches.get 0).map (·.pauses.sequenceEnd) = some true ∧
    ((rejudge 0 (room entryA { batchA with expected := some 2, target := some 2, nextSeq := 1 } [])).batches.get 0).map (·.pauses) = some {} := by decide

/-- A PICK LEAD with another tag, one with no record in PICKING, and a GRANT of its tag that still waits, which the event withdraws before it grants the next. -/
theorem witness_stray_pick :
    (∀ x ∈ ((pickingOf sPick 0).map fun q => q.2.tag).toList, x ≠ 9) ∧ pickingOf (sLive passing [placeA]) 0 = none ∧
    (withPort0 { portUp with queues := { grant := some 0 } } sPick).ports[(0 : Fin 16)].queues.grant = some picking.tag ∧
    (∀ q ∈ sPick.entries, q.2.port = some 0 → q.1 = 0) ∧
    (after (.edge 0 0 .pickLead 7) (withPort0 { portUp with queues := { grant := some 0 } } sPick)).ports[(0 : Fin 16)].queues.grant = some 1 := by decide

/-- An absent station, with ports UNLISTED for want of an entry, for its ID and for another ID. -/
def sWaits : State :=
  { sAbsent with
    reservations := [(20, 3)]
    ports := ((((idle.ports.set 4 { link := .unlisted, kept := some (⟨1, 1⟩, .full) }).set 6
      { link := .unlisted, kept := some (⟨1, 2⟩, .full) }).set 7 { link := .unlisted, kept := some (idA, .duplicate) }).set 8
      { link := .unlisted, kept := some (⟨1, 3⟩, .duplicate) }) }

/-- Ports that FORGET_STATION re-queries, and ports and a reservation it leaves. -/
theorem witness_forget :
    Takes sWaits ∧ lowestPort sWaits Port.waitsFull = some 4 ∧ (entryAt sWaits 0).map (fun x => (x.id, x.port, x.bound, x.liveCount)) = some (idA, none, none, 0) ∧
    sWaits.ports[(6 : Fin 16)].kept ≠ some (idA, .duplicate) ∧ sWaits.ports[(8 : Fin 16)].kept ≠ some (idA, .duplicate) ∧
    [4, 6, 7, 8].map (fun p : Fin 16 => (after (.forgetStation (.given 0)) sWaits).ports[p].link) = [.querying, .unlisted, .querying, .unlisted] ∧
    (after (.forgetStation (.given 0)) sWaits).reservations = [(0, 4), (20, 3)] := by decide +kernel

/-- An ABORT of a batch with a record in PICKING and live ones. -/
theorem witness_abort_counts :
    ((sWork.batches.get 0).map fun b => (b.state, b.picking)) = some (.open, 1) ∧ 0 < liveCount sWork 0 ∧
    ((after (.abort (.given 0)) sWork).batches.get 0).map (fun b => (b.picking, b.live, b.openSuspects)) = some (0, 0, 0) := by decide

/-- A record in its station's path and one out of it, the upload of a record, a retired serial and a standing one. -/
theorem witness_replies :
    inPath sWork 1 suspect = true ∧ inPath sWork 0 suspect = false ∧
    (uploadOf sWork 0 routed).isSome = true ∧ uploadOf sWork 1 routed = none ∧ laneUpload sWork 0 = some (0, .one) ∧ laneUpload sWork 1 = none ∧
    stateAfter sWork ⟨0, 1⟩ ≠ none ∧ stateAfter sWork ⟨0, 40⟩ = none := by decide

/-- SUSPEND_LANE from LOOPBACK with an empty window starts the silence timer. -/
theorem test_suspend_loopback :
    (after (.suspendLane (.given 0)) (withLane0 { laneA .loopback [] with silence := none, malformed := 3 } idle)).lanes[(0 : Fin 4)] =
      { laneA .loopback [] with state := .suspended, silence := some (laneA .loopback []).params.silence, malformed := 0 } := by decide

/-- An upload that ends leaves the router, with its waiting words. -/
theorem test_end_upload :
    (endUpload 0 (withPort0 { portUp with queues := { upload := some (0, .one), flow := some false, halt := true } } sWork)).uploads.get 0 = none ∧
      (endUpload 0 (withPort0 { portUp with queues := { upload := some (0, .one), flow := some false, halt := true } } sWork)).ports[(0 : Fin 16)].queues = { halt := true } := by decide

/-- A block at the head of its FIFO, one that is not, and a lane whose upload is another's. -/
theorem witness_lane_blocks :
    (withLane0 { laneA .up [] with fifo := [(0, [])] } idle).lanes[(0 : Fin 4)].fifo = (0, []) :: [] ∧ (laneA .up []).fifo = [] ∧
    uploaderOf sWork 0 = some 0 ∧ uploaderOf sWork 1 = none ∧
    ownersOf sWork 0 = ([0], [0]) ∧ sWork.sheets.get 9 = none ∧
    (laneA .up [windowA .transmitting false none]).entry 0 ≠ none ∧ (laneA .up []).entry 0 = none := by decide

/-- A delivery that waits for its answer with its timer running. -/
theorem witness_expiry :
    (withLane0 (laneA .up [windowA .awaitAccept false (some 9)]) sWork).lanes[(0 : Fin 4)].entry 0 = some (windowA .awaitAccept false (some 9)) ∧
    (windowA .awaitSecure true (some 9)).timer.isSome = true ∧ (∀ a ∈ sWork.attention, a.2 < 256) := by decide

/-- A port in UP and one in QUERYING without an entry, with nothing waiting and with the upload's own word on the line. -/
theorem witness_port_entries :
    AttachedTo sWork 0 0 ∧ (withPort0 { link := .querying, line := some .query } idle).ports[(0 : Fin 16)].entry = none ∧
    (sWork.uploads.get 0).map (fun v => (v.tag, v.side, v.go)) = some (0, .one, true) := by decide

/-- Two suspects and a third with its DIVERT ordered in the path of a halted station. -/
def sRunOut : State :=
  room { entryA with feed := .halted, cause := some .suspect, path :=
      [{ placeA with slot := 2 }, { placeA with slot := 0, divertOrdered := true }, { placeA with slot := 1 }] }
    { batchA with state := .open } [(0, suspect), (1, { suspect with tag := 1 }), (2, { suspect with tag := 2 })]

/-- A port re-queried for an ID with another reserved entry, a FULL port and a DUPLICATE port waiting. -/
def sReserved : State :=
  { withPort0 { link := .querying, requeriedFor := some idA } sAbsent with
    entries := sAbsent.entries ++ [(2, { id := ⟨210, 2⟩ })], reservations := [(1, 0)] }

/-- The run-out orders the suspects without a DIVERT, in the order of the path. -/
theorem test_run_out :
    runOutSheets sRunOut { entryA with path := [{ placeA with slot := 2 }, { placeA with slot := 0, divertOrdered := true }, { placeA with slot := 1 }] } =
      [(2, 2), (1, 1)] := by decide

/-- COUNT_REACHED joins with its condition. -/
theorem test_count_reached :
    ((judgePausesOf 0 (sBatch { label := [65], expected := some 0 })).batches.get 0).map (·.pauses.countReached) = some true ∧
      (judgePausesOf 0 (sBatch { label := [65], expected := some 0 })).attention = [(.countReached, 0)] := by decide

/-- Each hold reason of a new entry, of a held station whose bound batch is paused at its limits, and the full table's. -/
theorem test_holds :
    holds idle 0 { id := idA } = [.notRunning, .noBatch, .absent] ∧
      holds (sBatch { label := [65], pauses := { host := true }, expected := some 0, nextSeq := 65536, target := some 1 }) 0
        { entryA with hostHold := true, view := some { still with coverOpen := true, trayEmpty := true }, path := List.replicate 4 placeA, liveCount := 25 } =
      [.hostHold, .batch, .checkpointLimit, .count, .sequence, .pathFull, .trayEmpty, .coverOpen, .storeFull] := by decide +kernel

/-- A known station's IDENT passes the port's reservation to the FULL port; a new one's uses it up. -/
theorem test_reservation :
    (after (.ident 0 { identA with id := ⟨210, 2⟩ }) sReserved).reservations = [(1, 2)] ∧
      (after (.ident 0 { identA with id := ⟨210, 3⟩ }) sReserved).reservations = [] ∧
      (after (.ident 0 { identA with id := ⟨210, 3⟩ }) sReserved).ports[(1 : Fin 16)].link = .querying := by decide +kernel

/-- The port re-queried with a reservation, the stations known and new, the ports that wait, and a port without a reservation. -/
theorem witness_reservation :
    (Runs sReserved ∧ TablesOk sReserved ∧ ReservedFree sReserved) ∧
    sReserved.ports[(0 : Fin 16)].link = .querying ∧ sReserved.ports[(0 : Fin 16)].requeriedFor = some idA ∧
    reservedFor sReserved 0 = some 1 ∧ reservedFor idle 0 = none ∧ findId sReserved ⟨210, 3⟩ = none ∧ (findId sReserved ⟨210, 2⟩).isSome = true ∧
    lowestPort sReserved Port.waitsFull = some 2 ∧ lowestPort idle Port.waitsFull = none ∧ lowestPort sReserved (Port.waitsFor idA) = some 1 ∧
    (findId sReserved idA).map (fun p => p.2.port) = some none := by decide

/-- An open and a closed batch, COUNT_REACHED that joins, stays and leaves. -/
theorem witness_pauses :
    (sPick.batches.get 0).map (·.state) = some .open ∧ ((sBatch { label := [65], state := .closed }).batches.get 0).map (·.state) = some .closed ∧
    ({ batchA with expected := some 0 } : Batch).judgePauses.pauses.countReached = true ∧ batchA.pauses.countReached = false ∧
    ({ batchA with pauses := { countReached := true } } : Batch).judgePauses.pauses.countReached = false := by decide

/-- A station in each feed state, with its tables in order, on a port and on none. -/
theorem witness_halts :
    (∀ f ∈ [FeedState.idle, .ready, .running, .halted, .clearing], TablesOk (sFeed f none) ∧ ((sFeed f none).entries.get 0).map (·.feed) = some f) ∧
    entryA.port = some 0 ∧ entryA.port ≠ some 1 := by decide

/-- The halted station's entry, on port 0 and on no other. -/
theorem witness_run_out :
    (sRunOut.entries.get 0).map (fun x => (x.feed, x.port, runOutSheets sRunOut x)) = some (.halted, some 0, [(2, 2), (1, 1)]) := by decide

/-- A station with a record picking, one halted, one that moves with nothing in its path, and a lamp that is on at a call. -/
theorem witness_status_forms :
    (pickingOf sPick 0).isSome = true ∧ pickingOf (sFeed .halted none) 0 = none ∧ AttachedTo (sFeed .halted none) 0 0 ∧ Runs (sFeed .halted none) ∧
    ((sFeed .running none).entries.get 0).map (fun x => (x.feed, x.path)) = some (.running, []) ∧ pickingOf (sFeed .running none) 0 = none ∧
    ((room { entryA with identify := true } batchA []).entries.get 0).map (fun x => (x.identify, x.port)) = some (true, some 0) := by decide

/-- A tag held by a record, by an owed release and by a waiting RELEASE, and the tag the next grant takes. -/
theorem witness_tags :
    tagHeld sPick 0 entryA 0 = true ∧ tagHeld idle 0 { id := idA, owed := [(4, .kept)] } 4 = true ∧ tagHeld sLoss 0 entryA 5 = true ∧
    freeTag sPick 0 entryA = some 1 ∧
    findTagged sPick 0 9 = none ∧ (findTagged sPick 0 0).isSome = true := by decide

/-- A port in UP and one that is not, a block of 1024 bytes and one of another length. -/
theorem witness_words :
    Runs sWork ∧ AttachedTo sWork 0 0 ∧
    sWork.ports[(1 : Fin 16)].link ≠ .up ∧
    ([] : List Byte).length ≠ 1024 := by decide

/-- A block's length. -/
theorem witness_block_length :
    (List.replicate 1024 (0 : Byte)).length = 1024 := List.length_replicate

/-- A port with and without waiting words, and the words whose leaving starts a timer. -/
theorem witness_down_words :
    Runs sWork ∧ sWork.ports[(0 : Fin 16)].link ≠ .down ∧ sWork.ports[(0 : Fin 16)].queues.next = none ∧
    (withPort0 { portUp with queues := { halt := true } } sWork).ports[(0 : Fin 16)].queues.next = some (.halt, {}) ∧
    ((withPort0 { link := .querying, line := some .query } idle).ports[(0 : Fin 16)].link = .querying ∧ (withPort0 { link := .querying, line := some .query } idle).ports[(0 : Fin 16)].line = some .query) ∧
    ((withPort0 { portUp with line := some (.grant 0) } sPick).ports[(0 : Fin 16)].line = some (.grant 0) ∧ AttachedTo (withPort0 { portUp with line := some (.grant 0) } sPick) 0 0 ∧ pickingOf sPick 0 = some (0, picking)) ∧
    (withUpload (uploadA .asked none 0) (sLive routed [])).uploads.get 0 = some (uploadA .asked none 0) ∧ (uploadA .asked none 0).go = true ∧
    ({ divert := [1, 2] } : Queues).divert = 1 :: [2] ∧ ({ release := [(1, .kept)] } : Queues).release = (1, .kept) :: [] := by
  refine ⟨?_, ?_, ?_, ?_, ?_, ?_⟩ <;> decide

/-- A moving station with paper, and one in CLEARING. -/
theorem witness_status :
    Runs sWork ∧ AttachedTo sWork 0 0 ∧ (sWork.entries.get 0).map (·.feed) = some .running ∧ (∀ a ∈ sWork.attention, a.2 < 256) ∧
    (pickingOf sWork 0).isSome = true ∧ sWork.ports[(0 : Fin 16)].lastCall = false ∧
    ((sFeed .clearing (some .cover)).entries.get 0).map (·.feed) = some .clearing := by decide

/-- A station that moves, its PICKING record and its batch, and a path with an end sheet and one without. -/
theorem witness_pick_lead :
    Runs sPick ∧ TablesOk sPick ∧ AttachedTo sPick 0 0 ∧
    pickingOf sPick 0 = some (0, picking) ∧ (sPick.batches.get picking.batch).isSome = true ∧
    (sPick.entries.get 0).map (·.feed) = some .running ∧
    (({ sWork with sheets := sWork.sheets.modify 1 fun r => { r with cls := some (.batchEnd, 7) } } : State).sheets.get 1).map (·.cls) = some (some (.batchEnd, 7)) ∧
    (sWork.sheets.get 1).map (·.cls) = some (some (.document, 0)) ∧ (sWork.entries.get 0).map (fun x => x.path.map (·.slot)) = some [1] := by decide

/-- A sheet in the path whose place has seen the given edges. -/
def sPath (c : Place) : State := sLive passing [c]

/-- The entry of `sPath`. -/
def xPath (c : Place) : Entry := { entryA with liveCount := 1, nextTag := 1, path := [c] }

/-- An edge with an owner for each sensor, one without, and lengths 249, 250, 5000 and 5001. -/
theorem witness_edges :
    edgeOwner (sPath placeA) 0 (xPath placeA) 0 .pickTrail = some placeA ∧
    edgeOwner (sPath placeA) 0 (xPath placeA) 0 .gaugeLead = some placeA ∧
    edgeOwner (sPath { placeA with pickTrail := true, gaugeLead := some 0 }) 0 (xPath { placeA with pickTrail := true, gaugeLead := some 0 }) 0 .gaugeTrail =
      some { placeA with pickTrail := true, gaugeLead := some 0 } ∧
    edgeOwner (sPath placeA) 0 (xPath placeA) 9 .exitLead = none ∧
    posDiff 0 249 = 249 ∧ posDiff 0 250 = 250 ∧ posDiff 0 5000 = 5000 ∧ posDiff 0 5001 = 5001 ∧
    edgeOwner (sPath { placeA with pickTrail := true, gaugeLead := some 0, gaugeTrail := some 300 }) 0
      (xPath { placeA with pickTrail := true, gaugeLead := some 0, gaugeTrail := some 300 }) 0 .exitLead =
      some { placeA with pickTrail := true, gaugeLead := some 0, gaugeTrail := some 300 } ∧
    edgeOwner (sPath { placeA with pickTrail := true, gaugeLead := some 0, gaugeTrail := some 300, exitLead := true }) 0
      (xPath { placeA with pickTrail := true, gaugeLead := some 0, gaugeTrail := some 300, exitLead := true }) 0 (.exitTrail .output) =
      some { placeA with pickTrail := true, gaugeLead := some 0, gaugeTrail := some 300, exitLead := true } := by
  refine ⟨?_, ?_, ?_, ?_, ?_, ?_, ?_⟩ <;> decide

/-- A path of distinct sheets, an edge of each feed state's kind, a sheet ahead that has cleared the GAUGE sensor, and verdicts pending and formed. -/
theorem witness_edge_places :
    Runs (sPath placeA) ∧ AttachedTo (sPath placeA) 0 0 ∧ (sPath placeA).entries.get 0 = some (xPath placeA) ∧
    ((xPath placeA).path.map (·.slot)).Nodup ∧ (findTagged (sPath placeA) 0 0).map Prod.fst = some placeA.slot ∧
    (xPath placeA).path = [] ++ placeA :: [] ∧
    passing.verdict = .pending ∧ suspect.verdict ≠ .pending ∧ passing.state = .inPath ∧ suspect.state = .suspect ∧
    ({ placeA with gaugeLead := some 0, gaugeTrail := some 300 } : Place).gaugeTrail.isSome = true := by decide

/-- A place in each of the three spans, one beyond its distance and one within it, and a moving station that backs. -/
theorem witness_jams :
    placeJammed (sPath placeA) facts 307 placeA = false ∧ placeJammed (sPath placeA) facts 308 placeA = true ∧
    placeJammed (sPath placeA) facts 5100 { placeA with gaugeLead := some 0 } = false ∧ placeJammed (sPath placeA) facts 5101 { placeA with gaugeLead := some 0 } = true ∧
    placeJammed (sLive { passing with length := some 300 } [placeA]) facts 1001 { placeA with gaugeLead := some 0, gaugeTrail := some 300 } = true ∧
    placeJammed (sLive { passing with length := some 300 } [placeA]) facts 1000 { placeA with gaugeLead := some 0, gaugeTrail := some 300 } = false ∧
    (xPath placeA).feed = .running ∧ (xPath placeA).facts = some facts ∧ (∀ a ∈ (sPath placeA).attention, a.2 < 256) ∧
    ({ still with direction := .reverse } : StatusView).direction = .reverse ∧ still.direction ≠ .reverse ∧ still.coverOpen = false := by
  refine ⟨?_, ?_, ?_, ?_, ?_, ?_⟩ <;> decide

/-- A pending record in its path, and a tag of none. -/
theorem witness_reports :
    Runs (sPath placeA) ∧ TablesOk (sPath placeA) ∧ AttachedTo (sPath placeA) 0 0 ∧
    reportTarget (sPath placeA) 0 0 = some (0, passing) ∧ reportTarget (sPath placeA) 0 9 = none ∧
    ((sPath placeA).batches.get passing.batch).isSome = true ∧
    reportTarget (sLive { passing with length := some 300, pattern := some 0 } [placeA]) 0 0 =
      some (0, { passing with length := some 300, pattern := some 0 }) := by decide

/-- A pending record in the path with its three inputs and an action. -/
def sVerdict (a : Action) : State :=
  { sLive { passing with length := some 300, pattern := some 62, thick := some (.multiple, 9), captured := some { capA with policy := { Policy.default with action := a } } }
      [{ placeA with gaugeLead := some 0 }] with attention := [(.stationHalted, 0)] }

/-- A record whose verdict is due with its batch and class, a place with and without DIVERT ordered under both actions, in time and late, and a batch in a document and out of one. -/
theorem witness_verdict :
    (∀ a ∈ [Action.stop, .divert], ((sVerdict a).sheets.get 0).map (fun r => (r.batch, r.state, r.verdict, r.captured.map (·.policy.action))) = some (0, .inPath, .pending, some a)) ∧
    (passing.judged capA defaultClasses).cls = some (.document, 0) ∧ (passing.judged capA defaultClasses).verdict = .clear ∧ ({ passing with thick := some (.multiple, 9) }.judged capA defaultClasses).verdict = .suspect ∧
    ((sVerdict .stop).batches.get 0).map (fun b => (b.state, b.documentOpen, b.target)) = some (.open, false, none) ∧ (∀ a ∈ (sVerdict .stop).attention, a.2 < 256) ∧
    ((sVerdict .stop).entries.get 0).map (fun x => x.path.map fun c => (c.slot, c.divertOrdered)) = some [(0, false)] ∧
    facts.gaugeToExit + facts.divertLimit < posDiff 0 401 ∧ posDiff 0 400 ≤ facts.gaugeToExit + facts.divertLimit ∧
    ({ placeA with divertOrdered := true } : Place).divertOrdered = true ∧ ({ batchA with documentOpen := true, target := some 3 } : Batch).documentOpen = true := by
  refine ⟨?_, ?_, ?_, ?_, ?_, ?_⟩ <;> decide

/-- The room with a pick timer. -/
def sTimer (x : Timer) (seen : Bool) : State :=
  room { entryA with liveCount := 1, nextTag := 1, timer := x, traySeenEmpty := seen } { batchA with picking := 1 } [(0, picking)]

/-- A timer that runs, one that does not, and a tray seen empty. -/
theorem witness_pick_timer :
    Runs (sTimer (.running 0) false) ∧ TablesOk (sTimer (.running 0) false) ∧ pickingOf (sTimer (.running 0) false) 0 = some (0, picking) ∧
    ((sTimer (.running 0) false).entries.get 0).map (fun x => (x.timer.isRunning, x.traySeenEmpty)) = some (true, false) ∧
    ((sTimer (.running 0) true).entries.get 0).map (fun x => x.traySeenEmpty) = some true ∧
    ((sTimer .stopped false).entries.get 0).map (fun x => x.timer.isRunning) = some false ∧
    ((sTimer (.running 0) false).batches.get picking.batch).map (fun b => (b.bound, b.retries)) = some (some 0, 2) ∧
    ((sTimer (.running 0) false).entries.get 0).map (fun x => (x.bound, x.misfeeds, x.feed)) = some (some 0, 0, .running) ∧
    2 < 2 + 1 ∧ 1 + 1 ≤ 2 := by
  refine ⟨?_, ?_, ?_, ?_, ?_, ?_, ?_⟩ <;> decide

/-- Side counts 0 to 3, and records READY marks and does not. -/
theorem witness_ready :
    sideCount 0 = none ∧ sideCount 1 = some .one ∧ sideCount 2 = some .two ∧ sideCount 3 = none ∧
    findTagged (sPath placeA) 0 0 = some (0, passing) ∧ findTagged (sPath placeA) 0 1 = none ∧
    sidesAllowed (xPath placeA) .two = true ∧ sidesAllowed { entryA with facts := some { facts with duplex := false } } .two = false ∧
    findTagged (sLive { routed with images := none } []) 0 0 = some (0, { routed with images := none }) ∧
    findTagged (sLive { suspect with images := none } []) 0 0 = some (0, { suspect with images := none }) ∧
    Runs (sPath placeA) ∧ AttachedTo (sPath placeA) 0 0 := by
  refine ⟨?_, ?_, ?_, ?_, ?_, ?_⟩ <;> decide

/-- An upload in a phase, on a lane with its delivery. -/
def sUp (ph : UploadPhase) (n : Option Nat) (k : Nat) : State :=
  withLane0 (laneA .up [windowA .transmitting false none])
    (withUpload (uploadA ph n k) (sLive { routed with deliveries := some [flying] } []))

/-- A record whose list is due, one with an eligible side, a station that may be served and its place in the round, and a lane that is free. -/
theorem witness_arbiter :
    (sLive { routed with deliveries := none } []).sheets.get 0 = some { routed with deliveries := none } ∧ planRow (sLive { routed with deliveries := none } []) { routed with deliveries := none } = some {} ∧
    laneFree (withLane0 (laneA .up []) (sLive routed [])) 0 = true ∧ laneFree (sUp .asked none 0) 0 = false ∧
    (stationChoice (withLane0 (laneA .up []) (sLive routed [])) 0).map (·.slot) = some 0 ∧ stationChoice (sLive routed []) 0 = none ∧
    (23 + 1 + 0) % 24 = 0 ∧ (withLane0 (laneA .up []) (sLive routed [])).lastUpload = 23 ∧
    (laneA .up [windowA .transmitting false none]).window.length ≤ 32 ∧
    ((routed.deliveries.getD []).map (·.lane)).Nodup ∧ (deliveryOf routed .one .primary).isSome = true := by
  refine ⟨?_, ?_, ?_, ?_, ?_, ?_⟩ <;> decide

/-- An upload in GO and in STOP with FIFOs below and at their marks, a lane of an upload and one of none, an upload with one destination, and a block at the head of a FIFO. -/
theorem witness_flow :
    ((sUp .receiving (some 4) 1).uploads.get 0).map (fun u => (u.go, u.dests)) = some (true, [(0, .primary)]) ∧ ((sUp .receiving (some 4) 1).entries.get 0).isSome = true ∧
    someFifoHigh (sUp .receiving (some 4) 1) (uploadA .receiving (some 4) 1) = false ∧ destsDrained (sUp .receiving (some 4) 1) (uploadA .receiving (some 4) 1) = true ∧
    someFifoHigh (withLane0 { laneA .up [] with fifo := List.replicate 56 (0, []) } (sUp .receiving (some 4) 1)) (uploadA .receiving (some 4) 1) = true ∧
    uploaderOf (sUp .receiving (some 4) 1) 0 = some 0 ∧ uploaderOf (sUp .receiving (some 4) 1) 1 = none ∧
    destNumber (sUp .receiving (some 4) 1) (uploadA .receiving (some 4) 1) (0, .primary) = some 0 ∧
    ({ laneA .up [] with fifo := [(0, []), (1, [])] } : Lane).fifo = (0, []) :: [(1, [])] := by
  refine ⟨?_, ?_, ?_, ?_, ?_, ?_⟩ <;> decide

/-- No upload, an upload asked and one receiving, with blocks left and none left, a full FIFO and a check that agrees. -/
theorem witness_images :
    Runs (sUp .asked none 0) ∧ AttachedTo (sUp .asked none 0) 0 0 ∧ (sLive routed []).uploads.get 0 = none ∧
    (sUp .asked none 0).uploads.get 0 = some (uploadA .asked none 0) ∧ 1 ≤ 16383 ∧ 16383 < 16384 ∧
    (sUp .receiving (some 4) 3).uploads.get 0 = some (uploadA .receiving (some 4) 3) ∧
    (uploadA .receiving (some 4) 4).blocks.getD 0 ≤ (uploadA .receiving (some 4) 4).taken ∧
    someFifoFull (sUp .receiving (some 4) 3) (uploadA .receiving (some 4) 3) = false ∧
    someFifoFull (withLane0 { laneA .up [windowA .transmitting false none] with fifo := List.replicate 64 (0, []) } (sUp .receiving (some 4) 3))
      (uploadA .receiving (some 4) 3) = true ∧
    checkValue (uploadA .receiving (some 0) 0).check = 0 ∧ (uploadA .receiving (some 0) 0).blocks = some 0 ∧
    (uploadA .asked none 0).stall.isRunning = true ∧ ({ uploadA .asked none 0 with stall := .stopped } : Upload).stall.isRunning = false := by
  refine ⟨?_, ?_, ?_, ?_, ?_, ?_, ?_, ?_⟩ <;> decide

/-- Alignment counts 6 and 7, malformed counts 6 and 7, and a timer stopped and running. -/
theorem witness_lane_events :
    Runs (withLane0 { state := .aligning, align := 6 } idle) ∧
    (withLane0 { state := .aligning, align := 7 } idle).lanes[(0 : Fin 4)].align = 7 ∧
    (withLane0 { state := .up, malformed := 6 } idle).lanes[(0 : Fin 4)].malformed < 7 ∧ 7 ≤ (withLane0 { state := .suspended, malformed := 7 } idle).lanes[(0 : Fin 4)].malformed ∧
    (withLane0 (laneA .up []) idle).lanes[(0 : Fin 4)].silence.isSome = true ∧ idle.lanes[(0 : Fin 4)].silence = none := by decide

/-- A delivery in each phase that an answer finds, and a number without a delivery. -/
theorem witness_answers :
    Runs (sUp .asked none 0) ∧
    (laneA .up [windowA .awaitAccept false (some 5)]).entry 0 = some (windowA .awaitAccept false (some 5)) ∧
    (laneA .up [windowA .awaitAccept true (some 5)]).entry 0 = some (windowA .awaitAccept true (some 5)) ∧
    (laneA .up [windowA .awaitSecure true (some 5)]).entry 0 = some (windowA .awaitSecure true (some 5)) ∧
    (laneA .up [windowA .awaitSecure true (some 5)]).entry 1 = none := by decide

/-- A window entry whose record and delivery exist, in every phase, the last entry of a lane to be suspended, a record with 1 and with 2 failures, and a delivery to end. -/
theorem witness_entries :
    ((sUp .asked none 0).sheets.get (windowA .transmitting false none).slot).map (·.deliveries) = some (some [flying]) ∧
    (∀ st ∈ [LaneState.down, .aligning, .up, .suspended, .loopback, .failed], (withLane0 (laneA st []) idle).lanes[(0 : Fin 4)].state = st) ∧
    ({ laneA .up [windowA .awaitAccept false none] with suspendPending := true } : Lane).suspendPending = true ∧
    [windowA .awaitAccept false none].filter (fun v => decide (v.number ≠ 0)) = [] ∧
    ({ routed with failures := 2 } : Sheet).failures = 2 ∧ TablesOk (sUp .asked none 0) ∧
    ({ windowA .ending false none with closing := some (4, 9) } : WindowEntry).closing = some (4, 9) ∧
    (deliveryOf { routed with deliveries := some [flying] } .one .primary).map (fun z => (z.lane, z.status, z.number)) = some (0, .inFlight, some 0) ∧
    ((uploadA .asked none 0).dests.map Prod.fst).Nodup ∧ ((uploadA .asked none 0).dests.map Prod.snd).Nodup := by
  refine ⟨?_, ?_, ?_, ?_, ?_, ?_, ?_, ?_⟩ <;> decide

/-- A timer that runs and one that does not. -/
theorem witness_timeouts :
    Runs (sUp .asked none 0) ∧ (∀ a ∈ (sUp .asked none 0).attention, a.2 < 256) ∧
    (windowA .awaitAccept false (some 0)).timer.isSome = true ∧ (windowA .awaitSecure true (some 0)).timer.isSome = true ∧
    (windowA .ending false none).timer = none := by decide

/-- An entry not rerouted with and without a fallback lane, a rerouted one whose role lane carries and does not, a window of distinct deliveries, and a lane that no upload shares. -/
theorem witness_failed_lanes :
    ({ fallback := some 2 } : Row).fallback = some 2 ∧ flying.rerouted = false ∧ ({} : Row).fallback = none ∧
    ({ flying with rerouted := true, lane := 2, status := .waiting } : Delivery).rerouted = true ∧ (sUp .asked none 0).lanes[(0 : Fin 4)].state = .up ∧ (sUp .asked none 0).lanes[(1 : Fin 4)].state = .down ∧
    ((sUp .asked none 0).lanes[(0 : Fin 4)].window.map fun w => (w.slot, w.side, w.role)).Nodup ∧ TablesOk (sUp .asked none 0) ∧
    planRow (sUp .asked none 0) { routed with deliveries := some [flying] } = some {} ∧ planRow (sUp .asked none 0) passing = none ∧
    (∃ w ∈ (sUp .asked none 0).lanes[(0 : Fin 4)].window, w.phase = .transmitting) ∧ Takes (sUp .asked none 0) := by decide

/-- A lane with a control word, with a block, with neither, in LOOPBACK and DOWN. -/
theorem witness_lane_words :
    ({ laneA .up [] with ctrl := [.abandon 1] } : Lane).ctrl = .abandon 1 :: [] ∧
    ({ laneA .up [] with fifo := [(1, [])] } : Lane).fifo = (1, []) :: [] ∧
    (laneA .up []).ctrl = [] ∧ (laneA .up []).fifo = [] ∧ (laneA .loopback []).state = .loopback ∧
    idle.lanes[(0 : Fin 4)].state = .down := by decide

end Sys2Proof.Tests
end

section
/-! The retirement of a CLOSED batch (R25): the rules of the operations RETIRE uses, its owner's three answers, and what
the freed record leaves. -/

namespace Sys2Proof.Machine

variable {s : State} {h : Nat}

/-! The operations RETIRE uses -/

theorem withBatch_of_none {k : Batch → Answer} (hb : batchAt s h = none) : withBatch h s k = .refuse .notFound := by
  simp [withBatch, hb]

theorem withBatch_of_some {k : Batch → Answer} {b : Batch} (hb : batchAt s h = some b) : withBatch h s k = k b := by
  simp [withBatch, hb]

theorem mem_attention_dropAttention {q : Attn → Bool} {x : Attn} :
    x ∈ (dropAttention q s).attention ↔ x ∈ s.attention ∧ ¬ q x = true := by
  simp

theorem attnPin_of_attention_nil (ha : s.attention = []) : attnPin s = false := by
  simp [attnPin, ha]

theorem findLabel_eq_none {l : Text} : findLabel s l = none ↔ ∀ p ∈ s.batches, p.2.label ≠ l := by
  simp [findLabel, Tab.find]

/-- The five kinds of R25, and no other, name a batch. -/
theorem namesBatch_iff {x : Attn} : namesBatch h x = true ↔
    x.2 = h ∧ (x.1 = .suspectOpen ∨ x.1 = .sheetFault ∨ x.1 = .checkpointPassed ∨ x.1 = .countReached ∨
      x.1 = .batchClosed) := by
  simp [namesBatch, or_assoc]

end Sys2Proof.Machine

namespace Sys2Proof

theorem Tab.mem_del {α : Type} {t : Tab α} {k : Nat} {p : Nat × α} : p ∈ t.del k ↔ p ∈ t ∧ p.1 ≠ k := by
  simp [Tab.del]

end Sys2Proof

namespace Sys2Proof.Machine

variable {s : State} {h : Nat} {b : Batch}

/-! The answers of RETIRE's owner -/

/-- What the retirement of batch `h` leaves: its record FREE, and its attention pairs gone. -/
def retired (h : Nat) (s : State) : State := dropAttention (namesBatch h) { s with batches := s.batches.del h }

theorem ownRetire_of_none (hb : batchAt s h = none) : ownRetire h s = .refuse .notFound := withBatch_of_none hb

theorem ownRetire_of_not_closed (hb : batchAt s h = some b) (hc : b.state ≠ .closed) :
    ownRetire h s = .refuse .wrongState := by
  rw [ownRetire, withBatch_of_some hb, if_neg hc]

theorem ownRetire_of_closed (hb : batchAt s h = some b) (hc : b.state = .closed) :
    ownRetire h s = .done (retired h s) .empty := by
  rw [ownRetire, withBatch_of_some hb, if_pos hc, retired]

theorem exec_retire (a : Params Nat) (s : State) : exec (.retire a) s = .next (request 0x2B a ownRetire s) := rfl

theorem refuses_retire {r : Result} (ht : Takes s) (ho : ownRetire h s = .refuse r) :
    Refuses (.retire (.given h)) 0x2B r s := by
  rw [Refuses, exec_retire, request_refused ht ho]

theorem replies_retire_of_closed (ht : Takes s) (hb : batchAt s h = some b) (hc : b.state = .closed) :
    Replies (.retire (.given h)) 0x2B .empty s (retired h s) := by
  rw [Replies, exec_retire, request_done ht (ownRetire_of_closed hb hc)]

/-! What the retirement leaves -/

theorem retired_frame (h : Nat) (s : State) :
    retired h s = { s with batches := s.batches.del h, attention := (retired h s).attention } := rfl

@[simp] theorem retired_batches (h : Nat) (s : State) : (retired h s).batches = s.batches.del h := rfl

theorem mem_attention_retired {x : Attn} : x ∈ (retired h s).attention ↔ x ∈ s.attention ∧ ¬ (x.2 = h ∧
    (x.1 = .suspectOpen ∨ x.1 = .sheetFault ∨ x.1 = .checkpointPassed ∨ x.1 = .countReached ∨ x.1 = .batchClosed)) := by
  rw [retired, mem_attention_dropAttention, namesBatch_iff]

/-- The label of a retired batch is free again, where no other record carried it (R3). -/
theorem findLabel_retired {l : Text} (hl : ∀ p ∈ s.batches, p.2.label = l → p.1 = h) :
    findLabel (retired h s) l = none := by
  refine findLabel_eq_none.2 fun p hp hpl => ?_
  rw [retired_batches, Tab.mem_del] at hp
  obtain ⟨hlisted, hother⟩ := hp
  exact hother (hl p hlisted hpl)

/-- Settles O29, by the state of the record the handle names. -/
theorem retireFreesAClosedRecord : Obligations.RetireFreesAClosedRecord := by
  refine fun h s ht => ⟨fun hnone => refuses_retire ht (ownRetire_of_none hnone), fun b hb =>
    ⟨fun hstate => ?_, fun hc => ?_⟩⟩
  · have hopen : b.state ≠ .closed := by rcases hstate with ho | ho <;> simp [ho]
    exact refuses_retire ht (ownRetire_of_not_closed hb hopen)
  · have hfree : (retired h s).batches.get h = none := by simp
    exact ⟨retired h s, replies_retire_of_closed ht hb hc, retired_frame h s, hfree, fun _ => mem_attention_retired,
      attnPin_of_attention_nil, fun _ => findLabel_retired⟩

end Sys2Proof.Machine
end

section
/-! The two reading requests on the Class Table and the Route Plan Table (R108, R128): what READ_CLASS lists, what the
figures of use of READ_PLAN count, and the answers of their owners. -/

namespace Sys2Proof.Machine

variable {s : State}

/-! READ_CLASS -/

/-- The numbers below `m` from `n` on, selected or with the first `n` left out. -/
theorem filter_le_range (n m : Nat) : ((List.range m).filter fun i => decide (n ≤ i)) = (List.range m).drop n := by
  calc ((List.range m).filter fun i => decide (n ≤ i))
      = (List.Ico 0 m).filter fun i => decide (n ≤ i) := by rw [List.Ico.zero_bot]
    _ = List.Ico n m := by rw [List.Ico.filter_le, Nat.zero_max]
    _ = (List.range m).drop n := by simp [List.Ico, List.range_eq_range', List.drop_range']

/-- READ_CLASS lists each index from the start on once, in increasing order (R108). -/
theorem map_fst_classesFrom (s : State) (n : Nat) : (classesFrom s n).map Prod.fst = (List.range 64).drop n := by
  have hval : (List.finRange 64).map (fun i : Fin 64 => i.val) = List.range 64 := List.map_coe_finRange_eq_range
  calc (classesFrom s n).map Prod.fst
      = ((List.finRange 64).filter fun i => decide (n ≤ i.val)).map fun i : Fin 64 => i.val := by
        rw [classesFrom, List.map_map]; rfl
    _ = ((List.finRange 64).map fun i : Fin 64 => i.val).filter fun i => decide (n ≤ i) := by
        rw [List.filter_map]; rfl
    _ = (List.range 64).drop n := by rw [hval, filter_le_range]

/-- READ_CLASS gives each index it lists with the entry the table holds there (R108). -/
theorem mem_classesFrom {n : Nat} {p : Nat × ClassEntry} :
    p ∈ classesFrom s n ↔ ∃ i : Fin 64, n ≤ i.val ∧ p = (i.val, s.classes[i]) := by
  simp [classesFrom, eq_comm]

theorem ownReadClass_of_ge {n : Nat} (hn : 64 ≤ n) : ownReadClass n s = .refuse .notFound :=
  if_neg (Nat.not_lt.2 hn)

theorem ownReadClass_of_lt {n : Nat} (hn : n < 64) : ownReadClass n s = .done s (.classes (classesFrom s n)) :=
  if_pos hn

theorem exec_readClass (a : Params Nat) (s : State) : exec (.readClass a) s = .next (request 0x40 a ownReadClass s) := rfl

theorem refuses_readClass {n : Nat} (ht : Takes s) (hn : 64 ≤ n) : Refuses (.readClass (.given n)) 0x40 .notFound s := by
  rw [Refuses, exec_readClass, request_refused ht (ownReadClass_of_ge hn)]

theorem replies_readClass {n : Nat} (ht : Takes s) (hn : n < 64) :
    Replies (.readClass (.given n)) 0x40 (.classes (classesFrom s n)) s s := by
  rw [Replies, exec_readClass, request_done ht (ownReadClass_of_lt hn)]

/-! READ_PLAN -/

/-- OPEN and CLOSING are the states other than CLOSED (R1). -/
theorem BatchState.ne_closed_iff (x : BatchState) : x ≠ .closed ↔ x = .open ∨ x = .closing := by
  cases x <;> decide

/-- The first figure of R128 counts the records in OPEN or CLOSING on plan `n`. -/
theorem planUsers_eq (s : State) (n : Nat) : planUsers s n = (s.batches.filter fun p =>
    decide (p.2.state = .open ∨ p.2.state = .closing) && decide (p.2.plan = n)).length := by
  simp only [planUsers, Tab.count, BatchState.ne_closed_iff]

/-- The second figure of R128 counts the records whose pending amendment names plan `n`. -/
theorem planAmenders_eq (s : State) (n : Nat) : planAmenders s n =
    (s.batches.filter fun p => decide (p.2.pendingAmend.bind (·.plan) = some n)).length := rfl

theorem ownReadPlan_of_ge {n : Nat} (hn : 16 ≤ n) : ownReadPlan n s = .refuse .notFound :=
  dif_neg (Nat.not_lt.2 hn)

theorem ownReadPlan_fin (n : Fin 16) : ownReadPlan n.val s =
    .done s (.plan s.plans[n].body (planUsers s n.val) (planAmenders s n.val) s.plans[n].captures) :=
  dif_pos n.isLt

theorem exec_readPlan (a : Params Nat) (s : State) : exec (.readPlan a) s = .next (request 0x42 a ownReadPlan s) := rfl

theorem refuses_readPlan {n : Nat} (ht : Takes s) (hn : 16 ≤ n) : Refuses (.readPlan (.given n)) 0x42 .notFound s := by
  rw [Refuses, exec_readPlan, request_refused ht (ownReadPlan_of_ge hn)]

theorem replies_readPlan (ht : Takes s) (n : Fin 16) : Replies (.readPlan (.given n.val)) 0x42
    (.plan s.plans[n].body (planUsers s n.val) (planAmenders s n.val) s.plans[n].captures) s s := by
  rw [Replies, exec_readPlan, request_done ht (ownReadPlan_fin n)]

/-- Settles O35, by the index asked for and, for a plan, by what its figures of use count. -/
theorem readClassAndReadPlan : Obligations.ReadClassAndReadPlan := by
  refine ⟨fun n s ht => ⟨refuses_readClass ht, fun hn => ?_⟩, fun s ht => ⟨fun n => refuses_readPlan ht, fun n => ?_⟩⟩
  · exact ⟨classesFrom s n, replies_readClass ht hn, map_fst_classesFrom s n,
      fun i hi => mem_classesFrom.2 ⟨i, hi, rfl⟩⟩
  · rw [← planUsers_eq, ← planAmenders_eq]
    exact replies_readPlan ht n

end Sys2Proof.Machine
end

section
/-! The attention set (R162, R165, R166): its keys, what a raise enters, and the two requests that list and clear pairs. -/

namespace Sys2Proof.Machine

variable {s : State}

/-! Kinds and keys -/

theorem map_attnRank_attnKinds : attnKinds.map attnRank = List.range 13 := rfl

/-- The kinds stand in the list in the order of their ranks (R162). -/
theorem getElem?_attnKinds {n : Nat} {k : AttnKind} : attnKinds[n]? = some k ↔ n = attnRank k := by
  refine ⟨fun h => ?_, fun h => ?_⟩
  · have hrank : (List.range 13)[n]? = some (attnRank k) := by
      rw [← map_attnRank_attnKinds, List.getElem?_map, h, Option.map_some]
    obtain ⟨_, hn⟩ := List.getElem?_eq_some_iff.1 hrank
    rwa [List.getElem_range] at hn
  · subst h
    cases k <;> rfl

theorem attnOfCode_eq_some {n : Nat} {k : AttnKind} : attnOfCode n = some k ↔ n = attnRank k + 1 := by
  cases n with
  | zero => simp [attnOfCode]
  | succ m => simp [attnOfCode, getElem?_attnKinds]

theorem attnRank_injective : Function.Injective attnRank := fun _ _ h =>
  Option.some.inj ((getElem?_attnKinds.2 rfl).symm.trans (getElem?_attnKinds.2 h))

/-- With indices of one byte each pair has a key of its own (R162). -/
theorem attnKey_inj {a b : Attn} (ha : a.2 < 256) (hb : b.2 < 256) (h : attnKey a = attnKey b) : a = b := by
  unfold attnKey at h
  have hrank : attnRank a.1 = attnRank b.1 := by omega
  have hindex : a.2 = b.2 := by omega
  exact Prod.ext (attnRank_injective hrank) hindex

/-! Raises -/

theorem attnInsert_ne_nil (a : Attn) (l : List Attn) : attnInsert a l ≠ [] := by
  cases l with
  | nil => simp [attnInsert]
  | cons b l => unfold attnInsert; split_ifs <;> simp

/-- A pair is entered unless another pair has its key. -/
theorem mem_attnInsert_self {a : Attn} {l : List Attn} (hl : ∀ b ∈ l, attnKey a = attnKey b → a = b) :
    a ∈ attnInsert a l := by
  induction l with
  | nil => simp [attnInsert]
  | cons b l ih =>
    obtain ⟨hb, hl⟩ := List.forall_mem_cons.1 hl
    unfold attnInsert
    split_ifs with hlt heq
    · exact List.mem_cons_self
    · exact hb heq ▸ List.mem_cons_self
    · exact List.mem_cons_of_mem b (ih hl)

theorem raise_of_unmasked {k : AttnKind} (i : Nat) (hk : k ∉ s.room.mask) :
    raise k i s = { s with attention := attnInsert (k, i) s.attention } := if_neg hk

theorem raise_resetLow (k : AttnKind) (i : Nat) (s : State) : (raise k i s).resetLow = s.resetLow :=
  congrArg (fun x => x.2.1) (fixed_raise k i s)

theorem raise_loading (k : AttnKind) (i : Nat) (s : State) : (raise k i s).loading = s.loading :=
  congrArg (fun x => x.2.2.1) (fixed_raise k i s)

/-- An unmasked raise enters its pair, where every index is of one byte (R162). -/
theorem mem_attention_raise_self {k : AttnKind} {i : Nat} (hk : k ∉ s.room.mask) (hi : i < 256)
    (hs : ∀ x ∈ s.attention, x.2 < 256) : (k, i) ∈ (raise k i s).attention := by
  rw [raise_of_unmasked i hk]
  exact mem_attnInsert_self fun b hb => attnKey_inj hi (hs b hb)

/-! READ_ATTENTION -/

/-- The pairs at or after a start key (R165). -/
def attnFrom (k : AttnKind) (i : Nat) (s : State) : List Attn :=
  s.attention.filter fun x => decide (attnKey (k, i) ≤ attnKey x)

theorem ownReadAttention_of_none {a : KeyArgs} (hk : attnOfCode a.kind = none) :
    ownReadAttention a s = .refuse .badValue := by
  simp [ownReadAttention, hk]

theorem ownReadAttention_of_some {a : KeyArgs} {k : AttnKind} (hk : attnOfCode a.kind = some k) :
    ownReadAttention a s = .done s (.attention ((attnFrom k a.index s).take 32)
      (decide (32 < (attnFrom k a.index s).length)) s.attention.length) := by
  rw [ownReadAttention, hk]; rfl

theorem exec_readAttention (a : Params KeyArgs) (s : State) :
    exec (.readAttention a) s = .next (request 0x01 a ownReadAttention s) := rfl

theorem refuses_readAttention {a : KeyArgs} (ht : Takes s) (hk : attnOfCode a.kind = none) :
    Refuses (.readAttention (.given a)) 0x01 .badValue s := by
  rw [Refuses, exec_readAttention, request_refused ht (ownReadAttention_of_none hk)]

theorem replies_readAttention {a : KeyArgs} {k : AttnKind} (ht : Takes s) (hk : attnOfCode a.kind = some k) :
    Replies (.readAttention (.given a)) 0x01 (.attention ((attnFrom k a.index s).take 32)
      (decide (32 < (attnFrom k a.index s).length)) s.attention.length) s s := by
  rw [Replies, exec_readAttention, request_done ht (ownReadAttention_of_some hk)]

/-- What is listed from a start key on is in key order (R165). -/
theorem attnFrom_pairwise (k : AttnKind) (i : Nat) (hs : AttentionOk s) :
    ((attnFrom k i s).map attnKey).Pairwise (· < ·) :=
  List.Pairwise.sublist (List.filter_sublist.map attnKey) hs

/-- Settles O15, by the kind the request's start key names. -/
theorem readAttentionListsFromTheKey : Obligations.ReadAttentionListsFromTheKey := by
  refine ⟨⟨fun _ => rfl, map_attnRank_attnKinds, fun _ _ => attnOfCode_eq_some⟩,
    fun a s ht => ⟨refuses_readAttention ht, fun k hk l hl => ?_⟩⟩
  subst hl
  exact ⟨replies_readAttention ht hk, attnFrom_pairwise k a.index⟩

/-! The ATTN pin -/

theorem attnPin_eq_true : attnPin s = true ↔ s.resetLow = false ∧ s.attention ≠ [] := by
  simp [attnPin]

/-- An unmasked raise makes ATTN high in the same event (R164). -/
theorem attnPin_raise {k : AttnKind} (i : Nat) (hr : s.resetLow = false) (hk : k ∉ s.room.mask) :
    attnPin (raise k i s) = true := by
  refine attnPin_eq_true.2 ⟨(raise_resetLow k i s).trans hr, ?_⟩
  rw [raise_of_unmasked i hk]
  exact attnInsert_ne_nil (k, i) s.attention

/-- The last removal makes ATTN low in the same event (R164). -/
theorem attnPin_dropAttention_of_forall {q : Attn → Bool} (hq : ∀ x ∈ s.attention, q x = true) :
    attnPin (dropAttention q s) = false := by
  refine attnPin_of_attention_nil (List.eq_nil_iff_forall_not_mem.2 fun x hx => ?_)
  obtain ⟨hlisted, hkept⟩ := mem_attention_dropAttention.1 hx
  exact hkept (hq x hlisted)

/-! CLEAR_ATTENTION -/

theorem clears_iff {k : AttnKind} {i : Nat} {x : Attn} : clears k i x = true ↔ x.1 = k ∧ (i = 255 ∨ x.2 = i) := by
  simp [clears]

theorem ownClearAttention_of_none {a : KeyArgs} (hk : attnOfCode a.kind = none) :
    ownClearAttention a s = .refuse .badValue := by
  simp [ownClearAttention, hk]

theorem ownClearAttention_of_some {a : KeyArgs} {k : AttnKind} (hk : attnOfCode a.kind = some k) :
    ownClearAttention a s = .done (dropAttention (clears k a.index) s)
      (.count (s.attention.filter (clears k a.index)).length) := by
  simp [ownClearAttention, hk]

theorem exec_clearAttention (a : Params KeyArgs) (s : State) :
    exec (.clearAttention a) s = .next (request 0x02 a ownClearAttention s) := rfl

theorem refuses_clearAttention {a : KeyArgs} (ht : Takes s) (hk : attnOfCode a.kind = none) :
    Refuses (.clearAttention (.given a)) 0x02 .badValue s := by
  rw [Refuses, exec_clearAttention, request_refused ht (ownClearAttention_of_none hk)]

theorem replies_clearAttention {a : KeyArgs} {k : AttnKind} (ht : Takes s) (hk : attnOfCode a.kind = some k) :
    Replies (.clearAttention (.given a)) 0x02 (.count (s.attention.filter (clears k a.index)).length) s
      (dropAttention (clears k a.index) s) := by
  rw [Replies, exec_clearAttention, request_done ht (ownClearAttention_of_some hk)]

/-- A removed pair is gone until a raise enters it again (R166). -/
theorem removed_then_raised {q : Attn → Bool} {x : Attn} (hs : ∀ y ∈ s.attention, y.2 < 256) (hx : x ∈ s.attention)
    (hq : q x = true) (hk : x.1 ∉ s.room.mask) :
    x ∉ (dropAttention q s).attention ∧ x ∈ (raise x.1 x.2 (dropAttention q s)).attention := by
  have hleft : ∀ y ∈ (dropAttention q s).attention, y.2 < 256 := fun y hy =>
    hs y (mem_attention_dropAttention.1 hy).1
  exact ⟨fun h => (mem_attention_dropAttention.1 h).2 hq, mem_attention_raise_self hk (hs x hx) hleft⟩

/-- Settles O16, by the kind the request names. -/
theorem clearAttentionRemovesPairs : Obligations.ClearAttentionRemovesPairs := by
  refine fun a s ht => ⟨refuses_clearAttention ht, fun k hk q hq t hl => ?_⟩
  have hclears : q = clears k a.index := funext fun x => Bool.eq_iff_iff.2 ((hq x).trans clears_iff.symm)
  have hdrop : t = dropAttention q s := hl
  subst hdrop
  refine ⟨?_, attnPin_eq_true.trans (and_iff_right ht.1), fun hs _ => removed_then_raised hs⟩
  rw [hclears]
  exact replies_clearAttention ht hk

end Sys2Proof.Machine
end

section
/-! ATTN during the start-up load (R164, R169): what a frame at a busy port, an event before the links run, and the commands
of a start leave of the pin. -/

namespace Sys2Proof.Machine

variable {s : State}

theorem unheld_of_low (f : State → State) (h : s.resetLow = true) : unheld f s = s := if_pos h

theorem unheld_of_high (f : State → State) (h : s.resetLow = false) : unheld f s = f s :=
  if_neg (by simp [h])

/-- A frame at a busy port, whatever an IDLE port would do with it, leaves ATTN (R160). -/
theorem attnPin_frame_of_busy (f : State → State) (hb : busy s = true) :
    attnPin (unheld (fun s => if busy s then overrun s else f s) s) = attnPin s := by
  cases hr : s.resetLow with
  | true => rw [unheld_of_low _ hr]
  | false => rw [unheld_of_high _ hr, if_pos hb, attnPin, attnPin, overrun_resetLow, overrun_attention]

/-- A read transaction with no reply ready leaves ATTN (R159). -/
theorem attnPin_readFrame {n : Nat} (hp : s.cp.phase ≠ .replyReady) : attnPin (unheld (readFrame n) s) = attnPin s := by
  cases hr : s.resetLow with
  | true => rw [unheld_of_low _ hr]
  | false => simp [unheld_of_high _ hr, readFrame, hp, attnPin]

/-- ATTN is low after a start, whatever the level of RESET_N (R169). -/
theorem attnPin_startAfresh (s : State) (low : Bool) : attnPin { startAfresh s with resetLow := low } = false :=
  attnPin_of_attention_nil rfl

theorem endLoad_loading (s : State) : (endLoad s).loading = false := by
  unfold endLoad
  split
  · rfl
  · exact raise_loading _ _ _

/-- The outcome leaves ATTN low wherever the load still lasts after it. -/
def LoadsWithPinLow (o : Host.Outcome State Fault Refusal) : Prop :=
  ∀ t, o = .next t → t.loading = true → attnPin t = false

theorem loadsWithPinLow_next {t : State} : LoadsWithPinLow (.next t) ↔ (t.loading = true → attnPin t = false) :=
  ⟨fun h => h t rfl, fun h u hu => by cases hu; exact h⟩

theorem loadsWithPinLow_frame {f : State → State} (hb : busy s = true) (hs : attnPin s = false) :
    LoadsWithPinLow (.next (unheld (fun s => if busy s then overrun s else f s) s)) :=
  loadsWithPinLow_next.2 fun _ => (attnPin_frame_of_busy f hb).trans hs

theorem loadsWithPinLow_event {f : State → State} (hl : s.loading = true) (hs : attnPin s = false) :
    LoadsWithPinLow (event f s) := by
  rw [event_quiet f (by simp [hl])]
  exact loadsWithPinLow_next.2 fun _ => hs

theorem loadsWithPinLow_ident (p : Fin 16) (w : Ident) (hl : s.loading = true) (hs : attnPin s = false) :
    LoadsWithPinLow (execIdent p w s) := by
  unfold execIdent; exact loadsWithPinLow_event hl hs

theorem loadsWithPinLow_block (p : Fin 16) (data : List Byte) (hl : s.loading = true) (hs : attnPin s = false) :
    LoadsWithPinLow (execBlock p data s) := by
  unfold execBlock; exact loadsWithPinLow_event hl hs

theorem loadsWithPinLow_resetNRelease (hs : attnPin s = false) : LoadsWithPinLow (execResetNRelease s) := by
  unfold execResetNRelease
  split
  · exact loadsWithPinLow_next.2 fun _ => attnPin_startAfresh s false
  · exact loadsWithPinLow_next.2 fun _ => hs

theorem loadsWithPinLow_settingsLoadEnd (hs : attnPin s = false) : LoadsWithPinLow (execSettingsLoadEnd s) := by
  refine loadsWithPinLow_next.2 fun ht => ?_
  cases hr : s.resetLow with
  | true => rwa [unheld_of_low _ hr]
  | false =>
    rw [unheld_of_high _ hr] at ht ⊢
    split_ifs at ht ⊢
    · exact absurd ht (by simp [endLoad_loading])
    · exact hs

/-- While the load lasts every command leaves ATTN low: a start empties the set, a low RESET_N holds the pin, a frame meets
the busy port, and no link, lane, timer or save event happens (R164, R169). -/
theorem loadsWithPinLow_exec (c : Instr) (hp : s.cp.phase = .executing) (hl : s.loading = true)
    (hs : attnPin s = false) : LoadsWithPinLow (exec c s) := by
  have hb : busy s = true := by simp [busy, hp]
  cases c with
  | powerUp => exact loadsWithPinLow_next.2 fun _ => attnPin_startAfresh s s.resetLow
  | resetNAssert => exact loadsWithPinLow_next.2 fun _ => rfl
  | resetNRelease => exact loadsWithPinLow_resetNRelease hs
  | settingsLoadEnd => exact loadsWithPinLow_settingsLoadEnd hs
  | ignoredTransaction _ => exact loadsWithPinLow_next.2 fun _ => hs
  | readTransaction _ => exact loadsWithPinLow_next.2 fun _ => (attnPin_readFrame (by simp [hp])).trans hs
  | frameOverrun | badFrame _ | unknownRequest _ | readAttention _ | clearAttention _ | readRoom _ | setRoom _
  | setAttentionMask _ | saveSettings _ | resetPart _ | listStations _ | readStation _ | nameStation _ | forgetStation _
  | identify _ | holdStation _ | releaseStation _ | resetPort _ | start _ | standby _ | haltStation _ | resume _
  | openBatch _ | findBatch _ | readBatch _ | amendBatchImmediate _ | amendBatchAtCheckpoint _ | bindBatch _ | unbind _
  | pause _ | resumeBatch _ | checkpoint _ | close _ | abort _ | retire _ | findSheet _ | readSheet _ | listSuspects _
  | resolveAccept _ | resolveRescan _ | resolveDiscard _ | resolveRetry _ | readClass _ | setClass _ | readPlan _
  | setPlan _ | readLane _ | setLane _ | suspendLane _ | resumeLane _ | loopbackLane _ | resetLane _ =>
    exact loadsWithPinLow_frame hb hs
  | ident p w => exact loadsWithPinLow_ident p w hl hs
  | block p data => exact loadsWithPinLow_block p data hl hs
  | _ => exact loadsWithPinLow_event hl hs

/-- Settles O13; its clause on the load by the kinds of command, at a port that the load holds in EXECUTING (R159). -/
theorem attnPinFollowsTheSet : Obligations.AttnPinFollowsTheSet := by
  refine ⟨fun _ => attnPin_eq_true, fun _ => attnPin_of_attention_nil rfl, fun c s t hport hl hs hexec => ?_,
    fun k i s => attnPin_raise i, fun q s => attnPin_dropAttention_of_forall⟩
  obtain ⟨-, hload, -⟩ := hport
  obtain ⟨hphase, -⟩ := hload hl
  exact loadsWithPinLow_exec c hphase hl hs t hexec

end Sys2Proof.Machine
end

section
/-! What a keyed collection lists and counts after each change, beside what a lookup finds there. -/

set_option Elab.async false

namespace Sys2Proof

variable {α : Type} {n : Nat} {t : Tab α}

theorem Tab.get_put (t : Tab α) (k j : Nat) (v : α) : (t.put k v).get j = if j = k then some v else t.get j := by
  split_ifs with h
  · rw [h, Tab.get_put_self]
  · exact Tab.get_put_other t v h

theorem Tab.get_modify (t : Tab α) (k j : Nat) (f : α → α) :
    (t.modify k f).get j = if j = k then (t.get j).map f else t.get j := by
  split_ifs with h
  · rw [h, Tab.get_modify_self]
  · exact Tab.get_modify_other t f h

theorem Tab.get_del (t : Tab α) (k j : Nat) : (t.del k).get j = if j = k then none else t.get j := by
  split_ifs with h
  · rw [h, Tab.get_del_self]
  · exact Tab.get_del_other t h

theorem Tab.get_map (t : Tab α) (f : α → α) (j : Nat) :
    Tab.get (t.map fun p => (p.1, f p.2)) j = (t.get j).map f := by
  induction t with
  | nil => rfl
  | cons p t ih =>
    obtain ⟨i, v⟩ := p
    simp only [List.map_cons, Tab.get_cons, ih]
    split_ifs <;> rfl

theorem Tab.mem_iff_get (w : Tab.wf n t) {k : Nat} {v : α} : (k, v) ∈ t ↔ t.get k = some v :=
  ⟨Tab.get_of_mem w, Tab.mem_of_get⟩

/-- In canonical form, a property of what is listed is one of what a lookup finds. -/
theorem Tab.forall_mem_iff (w : Tab.wf n t) {P : Nat × α → Prop} :
    (∀ p ∈ t, P p) ↔ ∀ k v, t.get k = some v → P (k, v) :=
  ⟨fun h _ _ hv => h _ (Tab.mem_of_get hv), fun h p hp => h p.1 p.2 (Tab.get_of_mem w hp)⟩

theorem Tab.key_lt (w : Tab.wf n t) {k : Nat} {v : α} (h : t.get k = some v) : k < n :=
  w.2 k (List.mem_map_of_mem (f := Prod.fst) (Tab.mem_of_get h))

theorem Tab.forall_mem_modify {P : α → Prop} {k : Nat} {f : α → α} (h : ∀ p ∈ t, P p.2) (hf : ∀ v, P v → P (f v)) :
    ∀ p ∈ t.modify k f, P p.2 := by
  intro p hp
  obtain ⟨q, hq, rfl⟩ := List.mem_map.1 hp
  split_ifs
  · exact hf _ (h q hq)
  · exact h q hq

theorem Tab.mem_put {k : Nat} {v : α} {p : Nat × α} (h : p ∈ t.put k v) : p = (k, v) ∨ p ∈ t := by
  induction t with
  | nil => simpa [Tab.put] using h
  | cons q t ih =>
    obtain ⟨i, w⟩ := q
    simp only [Tab.put] at h
    split_ifs at h <;> simp only [List.mem_cons] at h ⊢ <;> tauto

theorem Tab.mem_of_mem_del {k : Nat} {p : Nat × α} (h : p ∈ t.del k) : p ∈ t := (Tab.mem_del.1 h).1

theorem Tab.wf_nil (n : Nat) : Tab.wf n ([] : Tab α) := ⟨List.Pairwise.nil, nofun⟩

theorem Tab.modify_modify (t : Tab α) (k : Nat) (f g : α → α) :
    (t.modify k f).modify k g = t.modify k (g ∘ f) := by
  simp only [Tab.modify, List.map_map]
  refine List.map_congr_left fun p _ => ?_
  simp only [Function.comp_apply]
  split_ifs <;> simp_all

/-! How many records meet a test -/

theorem Tab.put_perm {k : Nat} (v : α) (h : t.get k = none) : (t.put k v).Perm ((k, v) :: t) := by
  induction t with
  | nil => exact .refl _
  | cons p t ih =>
    obtain ⟨i, w⟩ := p
    rw [Tab.get_cons] at h
    split_ifs at h with hik
    simp only [Tab.put, if_neg hik]
    split_ifs
    · exact .refl _
    · exact ((ih h).cons _).trans (.swap _ _ _)

theorem Tab.count_put {k : Nat} {v : α} (q : α → Bool) (h : t.get k = none) :
    Tab.count (t.put k v) q = Tab.count t q + (q v).toNat := by
  rw [Tab.count, ((Tab.put_perm v h).filter _).length_eq, List.filter_cons, Tab.count]
  cases q v <;> simp

theorem Tab.del_eq_self {k : Nat} (h : t.get k = none) : t.del k = t := by
  rw [Tab.get_eq_none] at h
  exact List.filter_eq_self.2 fun p hp => by simpa using fun hk : p.1 = k => h (hk ▸ List.mem_map_of_mem hp)

theorem Tab.modify_eq_self {k : Nat} (f : α → α) (h : t.get k = none) : t.modify k f = t := by
  rw [Tab.get_eq_none] at h
  exact (List.map_congr_left (g := id) fun p hp => if_neg fun hk : p.1 = k =>
    h (hk ▸ List.mem_map_of_mem hp)).trans (List.map_id t)

/-- In canonical form the collection is, but for order, the record at a key and what freeing the key leaves. -/
theorem Tab.perm_cons_del (w : Tab.wf n t) {k : Nat} {v : α} (h : t.get k = some v) : t.Perm ((k, v) :: t.del k) := by
  obtain ⟨w, -⟩ := w
  induction t with
  | nil => simp at h
  | cons p t ih =>
    obtain ⟨i, u⟩ := p
    rw [List.map_cons, List.pairwise_cons] at w
    obtain ⟨hlt, w⟩ := w
    rw [Tab.get_cons] at h
    split_ifs at h with hik
    · cases h; subst hik
      have hfree : Tab.get t i = none := Tab.get_eq_none.2 fun hm => absurd (hlt i hm) (lt_irrefl i)
      have hdel : Tab.del ((i, v) :: t) i = t := by
        rw [Tab.del, List.filter_cons_of_neg (by simp)]; exact Tab.del_eq_self hfree
      rw [hdel]
    · have hdel : Tab.del ((i, u) :: t) k = (i, u) :: Tab.del t k := List.filter_cons_of_pos (by simpa using hik)
      rw [hdel]
      exact ((ih h w).cons _).trans (.swap _ _ _)

theorem Tab.count_del (w : Tab.wf n t) {k : Nat} {v : α} (q : α → Bool) (h : t.get k = some v) :
    Tab.count t q = Tab.count (t.del k) q + (q v).toNat := by
  rw [Tab.count, ((Tab.perm_cons_del w h).filter _).length_eq, List.filter_cons, Tab.count]
  cases q v <;> simp

theorem Tab.count_modify (w : Tab.wf n t) {k : Nat} {v : α} (q : α → Bool) (f : α → α) (h : t.get k = some v) :
    Tab.count (t.modify k f) q + (q v).toNat = Tab.count t q + (q (f v)).toNat := by
  have hdel : (t.modify k f).del k = t.del k := by
    simp only [Tab.modify, Tab.del, List.filter_map]
    rw [List.map_congr_left (g := id), List.map_id]
    · congr 1; funext p; simp only [Function.comp_apply]; split_ifs <;> simp_all
    · intro p hp
      have hk : p.1 ≠ k := by
        have := (List.mem_filter.1 hp).2
        simp only [Function.comp_apply] at this
        split_ifs at this with hpk <;> simp_all
      simp [hk]
  have hget : (t.modify k f).get k = some (f v) := by simp [h]
  rw [Tab.count_del w q h, Tab.count_del (Tab.wf_modify w k f) q hget, hdel]
  omega

/-- A change that keeps what a test asks of the record at its key keeps the count. -/
theorem Tab.count_modify_of_same (w : Tab.wf n t) {k : Nat} (q : α → Bool) (f : α → α)
    (h : ∀ v, t.get k = some v → q (f v) = q v) : Tab.count (t.modify k f) q = Tab.count t q := by
  cases hk : t.get k with
  | none => rw [Tab.modify_eq_self f hk]
  | some v =>
    have := Tab.count_modify w q f hk
    rw [h v hk] at this
    omega

theorem Tab.count_eq_zero (w : Tab.wf n t) {q : α → Bool} :
    Tab.count t q = 0 ↔ ∀ k v, t.get k = some v → q v = false := by
  rw [Tab.count, List.length_eq_zero_iff, List.filter_eq_nil_iff, Tab.forall_mem_iff w]
  simp

theorem Tab.count_pos (w : Tab.wf n t) {q : α → Bool} {k : Nat} {v : α} (h : t.get k = some v) (hq : q v = true) :
    0 < Tab.count t q :=
  Nat.pos_of_ne_zero fun h0 => by simp [(Tab.count_eq_zero w).1 h0 k v h] at hq

end Sys2Proof
end

section
/-! What every operation keeps, of all the invariants at once: one preorder on states, and one rule for each update of a
record, with what the update must respect. Each operation is then composed from these rules once, and every invariant's
step lemma is read off. -/

set_option Elab.async false

namespace Sys2Proof.Machine

variable {s t u : State}

/-! The invariants of what a lookup finds -/

/-- The accounts of every batch, but for the balance of those that meet `skip`, which an ABORT has yet to count (R9,
R24). -/
def AccountsBut (skip : Nat → Prop) (s : State) : Prop :=
  (∀ h b, s.batches.get h = some b →
    (¬ skip h → b.fed = b.completed + b.discarded + b.rescanned + b.live) ∧
    b.live = liveCount s h ∧ b.picking = pickingCount s h) ∧
  ∀ n r, s.sheets.get n = some r → ∃ b, s.batches.get r.batch = some b ∧ b.state ≠ .closed

/-- The bindings, of what a lookup finds (R18, R19, R22). -/
def BindingsFound (s : State) : Prop :=
  (∀ e x h, s.entries.get e = some x → x.bound = some h → ∃ b, s.batches.get h = some b ∧ b.bound = some e) ∧
  (∀ h b e, s.batches.get h = some b → b.bound = some e → ∃ x, s.entries.get e = some x ∧ x.bound = some h) ∧
  (∀ e x, s.entries.get e = some x → x.feed = .idle → x.bound = none) ∧
  ∀ h b, s.batches.get h = some b → b.state = .closed → b.bound = none

theorem accountsBut_all (ht : TablesOk s) : AccountsBut (fun _ => False) s ↔ AccountsOk s := by
  obtain ⟨-, -, hs, hb, -⟩ := ht
  simp only [AccountsOk, BatchAccounts, Tab.forall_mem_iff hs, Tab.forall_mem_iff hb, AccountsBut, Option.mem_toList,
    not_false_eq_true, true_implies]

theorem bindingsFound_iff (ht : TablesOk s) : BindingsFound s ↔ BindingsOk s := by
  obtain ⟨he, -, -, hb, -⟩ := ht
  simp only [BindingsOk, Tab.forall_mem_iff he, Tab.forall_mem_iff hb, BindingsFound, Option.mem_toList]
  constructor
  · rintro ⟨h1, h2, h3, h4⟩
    exact ⟨fun e x hx h hb => h1 e x h hx hb, fun h b hb e he => h2 h b e hb he, h3, h4⟩
  · rintro ⟨h1, h2, h3, h4⟩
    exact ⟨fun e x h hx hb => h1 e x hx h hb, fun h b e hb he => h2 h b hb e he, h3, h4⟩

/-- The grants, of what a lookup finds (R80). -/
theorem grantsOk_iff (ht : TablesOk s) : GrantsOk s ↔ (∀ n r, s.sheets.get n = some r → pickCount s r.station ≤ 1) ∧
    ∀ e x, s.entries.get e = some x → x.path.length + pickCount s e ≤ 4 := by
  obtain ⟨he, -, hs, -, -⟩ := ht
  simp only [GrantsOk, Tab.forall_mem_iff hs, Tab.forall_mem_iff he, Config.pathRoom]

/-- The reserved indices, of what a lookup finds (R53). -/
theorem reservedFree_iff (ht : TablesOk s) :
    ReservedFree s ↔ ∀ i p, s.reservations.get i = some p → s.entries.get i = none := by
  obtain ⟨-, hr, -, -, -⟩ := ht
  exact Tab.forall_mem_iff hr

/-- The bindings and the accounts (R9, R18, R22). -/
def Books (skip : Nat → Prop) (s : State) : Prop := BindingsFound s ∧ AccountsBut skip s

/-- From `s` to `t` every invariant but the balance of the accounts is kept. -/
structure KeepsShape (s t : State) : Prop where
  tables : TablesOk s → TablesOk t
  reserved : TablesOk s → ReservedFree s → ReservedFree t
  attention : AttentionOk s → AttentionOk t
  ranges : RangesOk s → RangesOk t
  lanes : RangesOk s → LanesOk s → LanesOk t
  grants : TablesOk s → GrantsOk s → GrantsOk t

/-- The queue and the parts the Command Port's own invariant speaks of. -/
def portPart (s : State) : List Instr × Bool × Bool × CommandPort × Option Save :=
  (s.pending, s.resetLow, s.loading, s.cp, s.save)

/-- From `s` to `t` every invariant is kept, whatever an ABORT has yet to count, and the queue and the Command Port are left. -/
structure Keeps (s t : State) : Prop extends KeepsShape s t where
  books : ∀ skip, TablesOk s → ReservedFree s → Books skip s → Books skip t
  port : portPart t = portPart s

theorem KeepsShape.refl (s : State) : KeepsShape s s := ⟨id, fun _ => id, id, id, fun _ => id, fun _ => id⟩

theorem KeepsShape.trans (h : KeepsShape s t) (k : KeepsShape t u) : KeepsShape s u where
  tables a := k.tables (h.tables a)
  reserved a b := k.reserved (h.tables a) (h.reserved a b)
  attention a := k.attention (h.attention a)
  ranges a := k.ranges (h.ranges a)
  lanes a b := k.lanes (h.ranges a) (h.lanes a b)
  grants a b := k.grants (h.tables a) (h.grants a b)

theorem Keeps.refl (s : State) : Keeps s s := ⟨.refl s, fun _ _ _ => id, rfl⟩

theorem Keeps.trans (h : Keeps s t) (k : Keeps t u) : Keeps s u where
  toKeepsShape := h.toKeepsShape.trans k.toKeepsShape
  books skip a b c := k.books skip (h.tables a) (h.reserved a b) (h.books skip a b c)
  port := k.port.trans h.port

theorem keeps_foldl {α : Type} {f : State → α → State} (l : List α) (hf : ∀ a ∈ l, ∀ t, Keeps t (f t a)) (s : State) :
    Keeps s (l.foldl f s) := by
  induction l generalizing s with
  | nil => exact .refl s
  | cons a l ih =>
    exact (hf a List.mem_cons_self s).trans (ih (fun b hb => hf b (List.mem_cons_of_mem a hb)) (f s a))

/-! Updates of one part of the state -/

/-- An update of anything but records, uploads, lanes, the attention set and the Command Port needs to respect the settings'
ranges alone. -/
theorem Keeps.outer (ht : t = { s with
      clock := t.clock, room := t.room, store := t.store, storeState := t.storeState, ports := t.ports
      waiting := t.waiting, lastAlloc := t.lastAlloc, classes := t.classes, plans := t.plans, lastUpload := t.lastUpload } := by rfl)
    (hr : RangesOk s → RangesOk t := by exact id) : Keeps s t := by
  generalize t.clock = a1, t.room = a2, t.store = a3, t.storeState = a4, t.ports = a5, t.waiting = a6, t.lastAlloc = a7,
    t.classes = a8, t.plans = a9, t.lastUpload = a10 at ht
  subst ht
  exact ⟨⟨id, fun _ => id, id, hr, fun _ => id, fun _ => id⟩, fun _ _ _ => id, rfl⟩

theorem Keeps.attn (ht : t = { s with attention := t.attention }) (ha : AttentionOk s → AttentionOk t) : Keeps s t := by
  generalize t.attention = a at ht
  subst ht
  exact ⟨⟨id, fun _ => id, ha, id, fun _ => id, fun _ => id⟩, fun _ _ _ => id, rfl⟩

theorem Keeps.ofLanes (ht : t = { s with lanes := t.lanes }) (hr : RangesOk s → RangesOk t)
    (hl : RangesOk s → LanesOk s → LanesOk t) : Keeps s t := by
  generalize t.lanes = a at ht
  subst ht
  exact ⟨⟨id, fun _ => id, id, hr, hl, fun _ => id⟩, fun _ _ _ => id, rfl⟩

theorem Keeps.ofUploads (ht : t = { s with uploads := t.uploads })
    (hw : Tab.wf 24 s.uploads → Tab.wf 24 t.uploads)
    (hl : (∀ u ∈ s.uploads, (u.2.dests.map Prod.fst).Nodup) → ∀ u ∈ t.uploads, (u.2.dests.map Prod.fst).Nodup) :
    Keeps s t := by
  generalize t.uploads = a at ht hw hl
  subst ht
  exact ⟨⟨fun ⟨h1, h2, h3, h4, h5⟩ => ⟨h1, h2, h3, h4, hw h5⟩, fun _ => id, id, id, fun _ ⟨h1, h2⟩ => ⟨h1, hl h2⟩,
    fun _ => id⟩, fun _ _ _ => id, rfl⟩

theorem Keeps.ofReservations (ht : t = { s with reservations := t.reservations })
    (hw : TablesOk s → Tab.wf 24 t.reservations)
    (hf : TablesOk s → ReservedFree s → ReservedFree t) : Keeps s t := by
  generalize t.reservations = a at ht hw
  subst ht
  exact ⟨⟨fun h => ⟨h.1, hw h, h.2.2⟩, hf, id, id, fun _ => id, fun _ => id⟩, fun _ _ _ => id, rfl⟩

theorem keeps_modPort (p : Fin 16) (f : Port → Port) (s : State) : Keeps s (modPort p f s) := .outer

theorem keeps_modPlan (n : Nat) (f : Plan → Plan) (s : State)
    (hf : ∀ p, PlanOk p.body → PlanOk (f p).body := by exact fun _ => id) : Keeps s (modPlan n f s) := by
  unfold modPlan
  split
  · next hn =>
    refine .outer rfl fun h => ?_
    obtain ⟨hroom, hlanes, hclasses, hplans, hrest⟩ := h
    refine ⟨hroom, hlanes, hclasses, fun p hp => ?_, hrest⟩
    rcases Vector.mem_or_eq_of_mem_set (hi := hn) (Vector.mem_toList_iff.1 hp) with hp | rfl
    · exact hplans p (Vector.mem_toList_iff.2 hp)
    · exact hf _ (hplans _ (Vector.mem_toList_iff.2 (Vector.getElem_mem _)))
  · exact .refl s

/-! The attention set -/

theorem mem_of_mem_attnInsert {a x : Attn} {l : List Attn} (h : x ∈ attnInsert a l) : x = a ∨ x ∈ l := by
  induction l with
  | nil => simpa [attnInsert] using h
  | cons b l ih =>
    unfold attnInsert at h
    split_ifs at h
    · exact List.mem_cons.1 h
    · exact .inr h
    · rcases List.mem_cons.1 h with rfl | h
      · exact .inr List.mem_cons_self
      · exact (ih h).imp_right (List.mem_cons_of_mem b)

theorem attnInsert_pairwise {a : Attn} {l : List Attn} (h : (l.map attnKey).Pairwise (· < ·)) :
    ((attnInsert a l).map attnKey).Pairwise (· < ·) := by
  induction l with
  | nil => simp [attnInsert]
  | cons b l ih =>
    rw [List.map_cons, List.pairwise_cons] at h
    obtain ⟨hb, hl⟩ := h
    unfold attnInsert
    split_ifs with h1 h2
    · simp only [List.map_cons, List.pairwise_cons, List.mem_cons, forall_eq_or_imp]
      exact ⟨⟨h1, fun k hk => h1.trans (hb k hk)⟩, hb, hl⟩
    · exact List.pairwise_cons.2 ⟨hb, hl⟩
    · refine List.pairwise_cons.2 ⟨fun k hk => ?_, ih hl⟩
      obtain ⟨x, hx, rfl⟩ := List.mem_map.1 hk
      rcases mem_of_mem_attnInsert hx with rfl | hx
      · omega
      · exact hb _ (List.mem_map_of_mem hx)

theorem keeps_raise (k : AttnKind) (i : Nat) (s : State) : Keeps s (raise k i s) := by
  unfold raise
  split
  · exact .refl s
  · exact .attn rfl fun h => attnInsert_pairwise h

theorem keeps_dropAttention (q : Attn → Bool) (s : State) : Keeps s (dropAttention q s) :=
  .attn rfl fun h => List.Pairwise.sublist (List.filter_sublist.map attnKey) h

/-! Directory entries -/

/-- The update leaves an entry's ID, and its name or a well-formed one in its place (R60). -/
def Entry.KeepsIdentity (f : Entry → Entry) : Prop :=
  ∀ x, (f x).id = x.id ∧ ((f x).name = x.name ∨ nameOk 12 (f x).name = true)

/-- The update of an entry leaves its binding, adds nothing to its path, and lets none but an unbound station become IDLE. -/
def Entry.KeepsCustody (x y : Entry) : Prop :=
  y.bound = x.bound ∧ y.path.length ≤ x.path.length ∧ (y.feed = .idle → x.feed = .idle ∨ x.bound = none)

theorem rangesOk_modEntry {e : Nat} {f : Entry → Entry} (hid : Entry.KeepsIdentity f) (h : RangesOk s) :
    RangesOk (modEntry e f s) := by
  obtain ⟨hroom, hlanes, hclasses, hplans, hentries, hstore⟩ := h
  refine ⟨hroom, hlanes, hclasses, hplans, Tab.forall_mem_modify (P := fun x : Entry => TripleOk x.id x.name) hentries ?_, hstore⟩
  intro x hx
  obtain ⟨hi, hn⟩ := hid x
  rw [hi]
  rcases hn with hn | hn
  · rwa [hn]
  · exact ⟨hx.1, hx.2.1, hn⟩

theorem tablesOk_modEntry {e : Nat} {f : Entry → Entry} (h : TablesOk s) : TablesOk (modEntry e f s) :=
  ⟨Tab.wf_modify h.1 e f, h.2⟩

theorem reservedFree_modEntry {e : Nat} {f : Entry → Entry} (h : ReservedFree s) : ReservedFree (modEntry e f s) :=
  fun q hq => by simp [Tab.get_modify, h q hq]

/-- An update of an entry's feed state that leaves its binding leaves all the books. -/
theorem books_modEntry {skip : Nat → Prop} {e : Nat} {f : Entry → Entry} (hf : ∀ x, s.entries.get e = some x →
    (f x).bound = x.bound ∧ ((f x).feed = .idle → x.feed = .idle ∨ x.bound = none)) (hb : Books skip s) :
    Books skip (modEntry e f s) := by
  obtain ⟨⟨h1, h2, h3, h4⟩, hacc⟩ := hb
  refine ⟨⟨fun j x h hx hbd => ?_, fun h b j hb hbd => ?_, fun j x hx hidle => ?_, h4⟩, hacc⟩
  · rw [modEntry_entries, Tab.get_modify] at hx
    split_ifs at hx with hj
    · subst hj
      obtain ⟨y, hy, rfl⟩ := Option.map_eq_some_iff.1 hx
      exact h1 _ y h hy ((hf y hy).1 ▸ hbd)
    · exact h1 j x h hx hbd
  · obtain ⟨x, hx, hxh⟩ := h2 h b j hb hbd
    rw [modEntry_entries, Tab.get_modify]
    split_ifs with hj
    · subst hj
      exact ⟨f x, by rw [hx]; rfl, (hf x hx).1.trans hxh⟩
    · exact ⟨x, hx, hxh⟩
  · rw [modEntry_entries, Tab.get_modify] at hx
    split_ifs at hx with hj
    · subst hj
      obtain ⟨y, hy, rfl⟩ := Option.map_eq_some_iff.1 hx
      obtain ⟨hb, hfeed⟩ := hf y hy
      rw [hb]
      exact (hfeed hidle).elim (h3 _ y hy) id
    · exact h3 j x hx hidle

/-- An update of an entry that adds nothing to its path touches neither shape nor grants. -/
theorem keepsShape_modEntry (e : Nat) {f : Entry → Entry} (hid : Entry.KeepsIdentity f)
    (hf : ∀ x, s.entries.get e = some x → (f x).path.length ≤ x.path.length) : KeepsShape s (modEntry e f s) := by
  refine ⟨tablesOk_modEntry, fun _ => reservedFree_modEntry, id, rangesOk_modEntry hid, fun _ => id, fun ht => ?_⟩
  rw [grantsOk_iff ht, grantsOk_iff (tablesOk_modEntry ht)]
  rintro ⟨h1, h2⟩
  refine ⟨h1, fun j x hx => ?_⟩
  rw [modEntry_entries, Tab.get_modify] at hx
  split_ifs at hx with hj
  · subst hj
    obtain ⟨y, hy, rfl⟩ := Option.map_eq_some_iff.1 hx
    exact (Nat.add_le_add_right (hf y hy) _).trans (h2 _ y hy)
  · exact h2 j x hx

theorem keeps_modEntry (e : Nat) {f : Entry → Entry} (hid : Entry.KeepsIdentity f)
    (hf : ∀ x, s.entries.get e = some x → Entry.KeepsCustody x (f x)) : Keeps s (modEntry e f s) := by
  refine ⟨keepsShape_modEntry e hid fun x hx => (hf x hx).2.1, fun skip _ _ => books_modEntry fun x hx => ?_, rfl⟩
  obtain ⟨hb, -, hfeed⟩ := hf x hx
  exact ⟨hb, hfeed⟩

end Sys2Proof.Machine
end

section
/-! The rules for updates of batch and sheet records, and for the updates that move a sheet or a binding from one account to
another. -/

set_option Elab.async false

namespace Sys2Proof.Machine

variable {s t : State}

/-! Batch records -/

/-- Two batch records with the same accounts and binding, both CLOSED or neither (R9). -/
def Batch.SameAccounts (b c : Batch) : Prop :=
  c.fed = b.fed ∧ c.completed = b.completed ∧ c.discarded = b.discarded ∧ c.rescanned = b.rescanned ∧ c.live = b.live ∧
  c.picking = b.picking ∧ c.bound = b.bound ∧ (c.state = .closed ↔ b.state = .closed)

theorem Batch.SameAccounts.rfl {b : Batch} : b.SameAccounts b := ⟨.refl _, .refl _, .refl _, .refl _, .refl _, .refl _,
  .refl _, .rfl⟩

theorem tablesOk_modBatch {h : Nat} {f : Batch → Batch} (ht : TablesOk s) : TablesOk (modBatch h f s) :=
  ⟨ht.1, ht.2.1, ht.2.2.1, Tab.wf_modify ht.2.2.2.1 h f, ht.2.2.2.2⟩

/-- An update of batch records touches neither shape nor grants. -/
theorem keepsShape_modBatch (h : Nat) (f : Batch → Batch) (s : State) : KeepsShape s (modBatch h f s) :=
  ⟨tablesOk_modBatch, fun _ => id, id, id, fun _ => id, fun _ => id⟩

theorem get_batches_modBatch {h j : Nat} {f : Batch → Batch} {c : Batch} (hc : (modBatch h f s).batches.get j = some c) :
    (j ≠ h ∧ s.batches.get j = some c) ∨ (j = h ∧ ∃ b, s.batches.get h = some b ∧ c = f b) := by
  rw [modBatch_batches, Tab.get_modify] at hc
  split_ifs at hc with hj
  · subst hj
    obtain ⟨b, hb, rfl⟩ := Option.map_eq_some_iff.1 hc
    exact .inr ⟨rfl, b, hb, rfl⟩
  · exact .inl ⟨hj, hc⟩

theorem get_batches_modBatch_of_some {h j : Nat} (f : Batch → Batch) {b : Batch} (hb : s.batches.get j = some b) :
    (modBatch h f s).batches.get j = some (if j = h then f b else b) := by
  rw [modBatch_batches, Tab.get_modify, hb]
  split_ifs <;> rfl

theorem keeps_modBatch (h : Nat) {f : Batch → Batch}
    (hf : ∀ b, s.batches.get h = some b → b.SameAccounts (f b) := by exact fun _ _ => Batch.SameAccounts.rfl) :
    Keeps s (modBatch h f s) := by
  refine ⟨keepsShape_modBatch h f s, fun skip ht _ hb => ?_, rfl⟩
  obtain ⟨⟨h1, h2, h3, h4⟩, hacc, hlive⟩ := hb
  have hsame : ∀ j b, s.batches.get j = some b → b.SameAccounts (if j = h then f b else b) := fun j b hb => by
    split_ifs with hj
    · exact hf b (hj ▸ hb)
    · exact .rfl
  have hback : ∀ j c, (modBatch h f s).batches.get j = some c → ∃ b, s.batches.get j = some b ∧ b.SameAccounts c := by
    intro j c hc
    rcases get_batches_modBatch hc with ⟨-, hc⟩ | ⟨rfl, b, hb, rfl⟩
    · exact ⟨c, hc, .rfl⟩
    · exact ⟨b, hb, hf b hb⟩
  refine ⟨⟨fun e x j hx hbd => ?_, fun j c e hc hbd => ?_, h3, fun j c hc hcl => ?_⟩, fun j c hc => ?_, fun n r hr => ?_⟩
  · obtain ⟨b, hb, hbe⟩ := h1 e x j hx hbd
    obtain ⟨-, -, -, -, -, -, hbound, -⟩ := hsame j b hb
    exact ⟨_, get_batches_modBatch_of_some f hb, hbound.trans hbe⟩
  · obtain ⟨b, hb, -, -, -, -, -, -, hbound, -⟩ := hback j c hc
    exact h2 j b e hb (hbound ▸ hbd)
  · obtain ⟨b, hb, -, -, -, -, -, -, hbound, hclosed⟩ := hback j c hc
    exact hbound.trans (h4 j b hb (hclosed.1 hcl))
  · obtain ⟨b, hb, hfed, hcomp, hdisc, hresc, hlv, hpick, -, -⟩ := hback j c hc
    obtain ⟨e1, e2, e3⟩ := hacc j b hb
    refine ⟨fun hj => ?_, hlv.trans e2, hpick.trans e3⟩
    rw [hfed, hcomp, hdisc, hresc, hlv]; exact e1 hj
  · obtain ⟨b, hb, hopen⟩ := hlive n r hr
    obtain ⟨-, -, -, -, -, -, -, hclosed⟩ := hsame _ b hb
    exact ⟨_, get_batches_modBatch_of_some f hb, fun hc => hopen (hclosed.1 hc)⟩

/-! Sheet records -/

/-- Two sheet records of the same batch and station, both in PICKING or neither. -/
def Sheet.SameHolder (r q : Sheet) : Prop :=
  q.batch = r.batch ∧ q.station = r.station ∧ (q.state = .picking ↔ r.state = .picking)

theorem tablesOk_modSheet {n : Nat} {f : Sheet → Sheet} (ht : TablesOk s) : TablesOk (modSheet n f s) :=
  ⟨ht.1, ht.2.1, Tab.wf_modify ht.2.2.1 n f, ht.2.2.2⟩

theorem get_sheets_modSheet {n m : Nat} {f : Sheet → Sheet} {q : Sheet} (hq : (modSheet n f s).sheets.get m = some q) :
    (m ≠ n ∧ s.sheets.get m = some q) ∨ (m = n ∧ ∃ r, s.sheets.get n = some r ∧ q = f r) := by
  rw [modSheet_sheets, Tab.get_modify] at hq
  split_ifs at hq with hm
  · subst hm
    obtain ⟨r, hr, rfl⟩ := Option.map_eq_some_iff.1 hq
    exact .inr ⟨rfl, r, hr, rfl⟩
  · exact .inl ⟨hm, hq⟩

theorem keeps_modSheet (n : Nat) {f : Sheet → Sheet}
    (hf : TablesOk s → ∀ r, s.sheets.get n = some r → r.SameHolder (f r) := by exact fun _ _ _ => ⟨rfl, rfl, .rfl⟩) :
    Keeps s (modSheet n f s) := by
  have hback : TablesOk s → ∀ m q, (modSheet n f s).sheets.get m = some q →
      ∃ r, s.sheets.get m = some r ∧ r.SameHolder q := fun ht m q hq => by
    rcases get_sheets_modSheet hq with ⟨-, hq⟩ | ⟨rfl, r, hr, rfl⟩
    · exact ⟨q, hq, rfl, rfl, .rfl⟩
    · exact ⟨r, hr, hf ht r hr⟩
  have hpick : TablesOk s → ∀ e, pickCount (modSheet n f s) e = pickCount s e := fun ht e =>
    Tab.count_modify_of_same ht.2.2.1 _ f fun r hr => by
      obtain ⟨-, hst, hp⟩ := hf ht r hr
      rw [hst]; simp [hp]
  have hpicking : TablesOk s → ∀ h, pickingCount (modSheet n f s) h = pickingCount s h := fun ht h =>
    Tab.count_modify_of_same ht.2.2.1 _ f fun r hr => by
      obtain ⟨hb, -, hp⟩ := hf ht r hr
      rw [hb]; simp [hp]
  have hlive : TablesOk s → ∀ h, liveCount (modSheet n f s) h = liveCount s h := fun ht h =>
    Tab.count_modify_of_same ht.2.2.1 _ f fun r hr => by
      obtain ⟨hb, -, hp⟩ := hf ht r hr
      rw [hb]; simp [hp]
  refine ⟨⟨tablesOk_modSheet, fun _ => id, id, id, fun _ => id, fun ht => ?_⟩, fun skip ht _ hb => ?_, rfl⟩
  · rw [grantsOk_iff ht, grantsOk_iff (tablesOk_modSheet ht)]
    rintro ⟨h1, h2⟩
    refine ⟨fun m q hq => ?_, fun e x hx => hpick ht e ▸ h2 e x hx⟩
    obtain ⟨r, hr, -, hst, -⟩ := hback ht m q hq
    rw [hst, hpick ht]
    exact h1 m r hr
  · obtain ⟨hbind, hacc, hopen⟩ := hb
    refine ⟨hbind, fun h b hb => ?_, fun m q hq => ?_⟩
    · rw [hpicking ht, hlive ht]; exact hacc h b hb
    · obtain ⟨r, hr, hb, -, -⟩ := hback ht m q hq
      rw [hb]
      exact hopen m r hr

/-! Uploads, reservations and the arbiter's data -/

theorem keeps_modUpload (e : Nat) {f : Upload → Upload} (s : State)
    (hf : ∀ u, (f u).dests.Sublist u.dests := by exact fun _ => .refl _) : Keeps s (modUpload e f s) :=
  .ofUploads rfl (fun h => Tab.wf_modify h e f)
    fun h => Tab.forall_mem_modify (P := fun u : Upload => (u.dests.map Prod.fst).Nodup) h
      fun u hu => hu.sublist ((hf u).map Prod.fst)

theorem keeps_delUpload (e : Nat) (s : State) : Keeps s { s with uploads := s.uploads.del e } :=
  .ofUploads rfl (fun h => Tab.wf_del h e) fun h u hu => h u (Tab.mem_of_mem_del hu)

theorem keeps_putUpload {e : Nat} {u : Upload} (he : e < 24) (hu : (u.dests.map Prod.fst).Nodup) (s : State) :
    Keeps s { s with uploads := s.uploads.put e u } :=
  .ofUploads rfl (fun h => Tab.wf_put h he u) fun h v hv => by
    rcases Tab.mem_put hv with rfl | hv
    · exact hu
    · exact h v hv

theorem keeps_delReservation (i : Nat) (s : State) : Keeps s { s with reservations := s.reservations.del i } :=
  .ofReservations rfl (fun h => Tab.wf_del h.2.1 i) fun _ h q hq => h q (Tab.mem_of_mem_del hq)

theorem keeps_putReservation {i : Nat} (p : Nat) (hi : TablesOk s → i < 24)
    (hfree : TablesOk s → ReservedFree s → s.entries.get i = none) :
    Keeps s { s with reservations := s.reservations.put i p } :=
  .ofReservations rfl (fun h => Tab.wf_put h.2.1 (hi h) p) fun ht h q hq => by
    rcases Tab.mem_put hq with rfl | hq
    · exact hfree ht h
    · exact h q hq

/-! Entries that come and go -/

/-- A station's PICKING records are at most one, whether or not it has a sheet at all (R80). -/
theorem pickCount_le_one (ht : TablesOk s) (hg : GrantsOk s) (e : Nat) : pickCount s e ≤ 1 := by
  obtain ⟨h1, -⟩ := (grantsOk_iff ht).1 hg
  by_contra hlt
  have hne : pickCount s e ≠ 0 := by omega
  rw [pickCount, Ne, Tab.count_eq_zero ht.2.2.1] at hne
  push Not at hne
  obtain ⟨n, r, hr, hq⟩ := hne
  simp only [Bool.and_eq_true, ne_eq, Bool.not_eq_false, decide_eq_true_eq] at hq
  exact hlt (hq.1 ▸ h1 n r hr)

/-- A free index takes a new entry, and its reservation is used up (R51). -/
theorem keeps_newEntry {i : Nat} {d : StationId} (hd : TripleOk d []) (hi : TablesOk s → i < 24)
    (hfree : TablesOk s → ReservedFree s → s.entries.get i = none) :
    Keeps s { s with entries := s.entries.put i { id := d }, reservations := s.reservations.del i } := by
  have htables : TablesOk s → TablesOk
      { s with entries := s.entries.put i { id := d }, reservations := s.reservations.del i } := fun ht =>
    ⟨Tab.wf_put ht.1 (hi ht) _, Tab.wf_del ht.2.1 i, ht.2.2⟩
  refine ⟨⟨htables, fun ht hr q hq => ?_, id, fun h => ?_, fun _ => id, fun ht hg => ?_⟩, fun skip ht hr hb => ?_, rfl⟩
  · obtain ⟨hq, hne⟩ := Tab.mem_del.1 hq
    exact (Tab.get_put_other _ _ hne).trans (hr q hq)
  · obtain ⟨hroom, hlanes, hclasses, hplans, hentries, hstore⟩ := h
    refine ⟨hroom, hlanes, hclasses, hplans, fun p hp => ?_, hstore⟩
    rcases Tab.mem_put hp with rfl | hp
    · exact hd
    · exact hentries p hp
  · obtain ⟨h1, h2⟩ := (grantsOk_iff ht).1 hg
    refine (grantsOk_iff (htables ht)).2 ⟨h1, fun j x hx => ?_⟩
    rw [Tab.get_put] at hx
    split_ifs at hx
    · cases hx
      exact (Nat.zero_add _).trans_le ((pickCount_le_one ht hg j).trans (by decide))
    · exact h2 j x hx
  · obtain ⟨⟨h1, h2, h3, h4⟩, hacc⟩ := hb
    have hnew := hfree ht hr
    refine ⟨⟨fun j x h hx hbd => ?_, fun h b j hb hbd => ?_, fun j x hx hidle => ?_, h4⟩, hacc⟩
    · rw [Tab.get_put] at hx
      split_ifs at hx
      · cases hx; cases hbd
      · exact h1 j x h hx hbd
    · obtain ⟨x, hx, hxh⟩ := h2 h b j hb hbd
      refine ⟨x, (Tab.get_put_other _ _ ?_).trans hx, hxh⟩
      rintro rfl
      cases hnew.symm.trans hx
    · rw [Tab.get_put] at hx
      split_ifs at hx
      · cases hx; rfl
      · exact h3 j x hx hidle

/-- An unbound entry is forgotten (R61). -/
theorem keeps_delEntry {e : Nat} (he : ∀ x, s.entries.get e = some x → x.bound = none) :
    Keeps s { s with entries := s.entries.del e } := by
  have htables : TablesOk s → TablesOk { s with entries := s.entries.del e } := fun ht => ⟨Tab.wf_del ht.1 e, ht.2⟩
  have hback : ∀ j x, (s.entries.del e).get j = some x → j ≠ e ∧ s.entries.get j = some x := fun j x hx => by
    rw [Tab.get_del] at hx
    split_ifs at hx with hj
    exact ⟨hj, hx⟩
  refine ⟨⟨htables, fun _ hr q hq => ?_, id, fun h => ?_, fun _ => id, fun ht hg => ?_⟩, fun skip ht hr hb => ?_, rfl⟩
  · rw [Tab.get_del, hr q hq, ite_self]
  · obtain ⟨hroom, hlanes, hclasses, hplans, hentries, hstore⟩ := h
    exact ⟨hroom, hlanes, hclasses, hplans, fun p hp => hentries p (Tab.mem_of_mem_del hp), hstore⟩
  · obtain ⟨h1, h2⟩ := (grantsOk_iff ht).1 hg
    exact (grantsOk_iff (htables ht)).2 ⟨h1, fun j x hx => h2 j x (hback j x hx).2⟩
  · obtain ⟨⟨h1, h2, h3, h4⟩, hacc⟩ := hb
    refine ⟨⟨fun j x h hx hbd => h1 j x h (hback j x hx).2 hbd, fun h b j hb hbd => ?_,
      fun j x hx hidle => h3 j x (hback j x hx).2 hidle, h4⟩, hacc⟩
    obtain ⟨x, hx, hxh⟩ := h2 h b j hb hbd
    refine ⟨x, (Tab.get_del_other _ ?_).trans hx, hxh⟩
    rintro rfl
    cases (he x hx).symm.trans hxh

end Sys2Proof.Machine
end

section
/-! The rules for updates that move a sheet from one account to another, or make, part or end a binding. -/

set_option Elab.async false

namespace Sys2Proof.Machine

variable {s t : State} {skip : Nat → Prop}

/-! Counts of sheets -/

theorem sheetsWf (ht : TablesOk s) : Tab.wf 384 s.sheets := ht.2.2.1

theorem batchesWf (ht : TablesOk s) : Tab.wf 48 s.batches := ht.2.2.2.1

theorem entriesWf (ht : TablesOk s) : Tab.wf 24 s.entries := ht.1

theorem mem_of_pickingOf {e n : Nat} {r : Sheet} (h : pickingOf s e = some (n, r)) :
    (n, r) ∈ s.sheets ∧ r.station = e ∧ r.state = .picking := by
  obtain ⟨hm, hq⟩ := Tab.find_spec h
  simp only [Bool.and_eq_true, decide_eq_true_eq] at hq
  exact ⟨hm, hq⟩

theorem get_of_pickingOf (ht : TablesOk s) {e n : Nat} {r : Sheet} (h : pickingOf s e = some (n, r)) :
    s.sheets.get n = some r := Tab.get_of_mem (sheetsWf ht) (mem_of_pickingOf h).1

theorem pickingOf_eq_none {e : Nat} :
    pickingOf s e = none ↔ ∀ p ∈ s.sheets, p.2.station = e → p.2.state ≠ .picking := by
  simp [pickingOf, Tab.find]

theorem pickCount_eq_zero {e : Nat} (h : pickingOf s e = none) : pickCount s e = 0 := by
  rw [pickingOf_eq_none] at h
  rw [pickCount, Tab.count, List.length_eq_zero_iff, List.filter_eq_nil_iff]
  intro p hp
  simpa using h p hp

/-- The accounts after an update of batch `h` and of its sheets. -/
theorem accountsBut_of_modify {h : Nat} {g : Batch → Batch} (hacc : AccountsBut skip s)
    (hbatches : t.batches = s.batches.modify h g)
    (hother : ∀ j, j ≠ h → liveCount t j = liveCount s j ∧ pickingCount t j = pickingCount s j)
    (hself : ∀ b, s.batches.get h = some b → b.live = liveCount s h → b.picking = pickingCount s h →
      (¬ skip h → b.fed = b.completed + b.discarded + b.rescanned + b.live →
        (g b).fed = (g b).completed + (g b).discarded + (g b).rescanned + (g b).live) ∧
      (g b).live = liveCount t h ∧ (g b).picking = pickingCount t h)
    (hsheets : ∀ n q, t.sheets.get n = some q → ∃ b, s.batches.get q.batch = some b ∧ b.state ≠ .closed ∧
      (q.batch = h → (g b).state ≠ .closed)) : AccountsBut skip t := by
  obtain ⟨hbal, -⟩ := hacc
  refine ⟨fun j c hc => ?_, fun n q hq => ?_⟩
  · rw [hbatches, Tab.get_modify] at hc
    split_ifs at hc with hj
    · subst hj
      obtain ⟨b, hb, rfl⟩ := Option.map_eq_some_iff.1 hc
      obtain ⟨e1, e2, e3⟩ := hbal j b hb
      obtain ⟨k1, k2, k3⟩ := hself b hb e2 e3
      exact ⟨fun hs => k1 hs (e1 hs), k2, k3⟩
    · obtain ⟨k1, k2⟩ := hother j hj
      rw [k1, k2]
      exact hbal j c hc
  · obtain ⟨b, hb, hopen, hg⟩ := hsheets n q hq
    rw [hbatches, Tab.get_modify, hb]
    split_ifs with hj
    · exact ⟨_, rfl, hg hj⟩
    · exact ⟨b, rfl, hopen⟩

/-- The bindings after an update of a batch that keeps its binding and opens none that is CLOSED. -/
theorem bindingsFound_of_modify {h : Nat} {g : Batch → Batch} (hb : BindingsFound s)
    (hentries : t.entries = s.entries) (hbatches : t.batches = s.batches.modify h g)
    (hg : ∀ b, s.batches.get h = some b → (g b).bound = b.bound ∧ ((g b).state = .closed → b.bound = none)) :
    BindingsFound t := by
  obtain ⟨h1, h2, h3, h4⟩ := hb
  have hback : ∀ j c, t.batches.get j = some c → ∃ b, s.batches.get j = some b ∧ c.bound = b.bound ∧
      (c.state = .closed → b.bound = none) := fun j c hc => by
    rw [hbatches, Tab.get_modify] at hc
    split_ifs at hc with hj
    · subst hj
      obtain ⟨b, hb, rfl⟩ := Option.map_eq_some_iff.1 hc
      exact ⟨b, hb, hg b hb⟩
    · exact ⟨c, hc, rfl, h4 j c hc⟩
  refine ⟨fun e x j hx hbd => ?_, fun j c e hc hbd => ?_, fun e x => hentries ▸ h3 e x, fun j c hc hcl => ?_⟩
  · obtain ⟨b, hb, hbe⟩ := h1 e x j (hentries ▸ hx) hbd
    rw [hbatches, Tab.get_modify, hb]
    split_ifs with hj
    · subst hj
      exact ⟨g b, rfl, (hg b hb).1.trans hbe⟩
    · exact ⟨b, rfl, hbe⟩
  · obtain ⟨b, hb, hbound, -⟩ := hback j c hc
    exact hentries ▸ h2 j b e hb (hbound ▸ hbd)
  · obtain ⟨b, hb, hbound, hnone⟩ := hback j c hc
    exact hbound.trans (hnone hcl)

/-! A grant, a pick, and a PICKING record freed -/

/-- A batch with one more record in PICKING (R31). -/
def Batch.granted (b : Batch) : Batch := { b with picking := b.picking + 1 }

/-- Putting a new record in a free slot is a grant where its station picks nothing, has room in its path and is bound to an
open batch (R31, R80). -/
theorem keeps_grant {e n h : Nat} {x : Entry} {g : Tag} (hn : n < 384) (hfree : s.sheets.get n = none)
    (hx : s.entries.get e = some x) (hbound : x.bound = some h) (hpath : x.path.length < 4)
    (hpick : pickingOf s e = none) (hopen : ∀ b, s.batches.get h = some b → b.state = .open) :
    Keeps s (modBatch h Batch.granted
      { s with sheets := s.sheets.put n (newSheet h e g) }) := by
  have htables : TablesOk s → TablesOk { s with sheets := s.sheets.put n (newSheet h e g) } := fun ht =>
    ⟨ht.1, ht.2.1, Tab.wf_put (sheetsWf ht) hn _, ht.2.2.2⟩
  have hcount : ∀ j, pickCount { s with sheets := s.sheets.put n (newSheet h e g) } j =
      pickCount s j + (decide (e = j)).toNat := fun j => by
    simp [pickCount, Tab.count_put _ hfree, newSheet]
  refine ⟨(KeepsShape.mk htables (fun _ => id) id id (fun _ => id) fun ht hg => ?_).trans (keepsShape_modBatch _ _ _),
    fun skip ht hr hb => ?_, rfl⟩
  · obtain ⟨h1, h2⟩ := (grantsOk_iff ht).1 hg
    have hzero := pickCount_eq_zero hpick
    have hle : ∀ j, pickCount { s with sheets := s.sheets.put n (newSheet h e g) } j ≤ 1 := fun j => by
      rw [hcount]
      by_cases hj : e = j
      · subst hj; simp [hzero]
      · simpa [hj] using pickCount_le_one ht hg j
    refine (grantsOk_iff (htables ht)).2 ⟨fun m q _ => hle q.station, fun j y hy => ?_⟩
    by_cases hj : e = j
    · subst hj
      cases hx.symm.trans hy
      have := hle e
      omega
    · rw [hcount]; simpa [hj] using h2 j y hy
  · obtain ⟨hbind, hacc⟩ := hb
    obtain ⟨c, hc, -⟩ := hbind.1 e x h hx hbound
    refine ⟨bindingsFound_of_modify hbind rfl rfl fun b hb => ⟨rfl, hbind.2.2.2 h b hb⟩,
      accountsBut_of_modify hacc rfl
        (fun j hj => ⟨?_, ?_⟩) (fun b hb e1 e2 => ⟨fun _ => id, ?_, ?_⟩) fun m q hq => ?_⟩
    · simp [liveCount, Tab.count_put _ hfree, newSheet]
    · simp [pickingCount, Tab.count_put _ hfree, newSheet, Ne.symm hj]
    · simp [Batch.granted, e1, liveCount, Tab.count_put _ hfree, newSheet]
    · simp [Batch.granted, e2, pickingCount, Tab.count_put _ hfree, newSheet]
    · dsimp only [modBatch_sheets] at hq
      rw [Tab.get_put] at hq
      split_ifs at hq
      · cases hq
        have hstate := hopen c hc
        exact ⟨c, hc, by simp [hstate], fun _ => by simp [Batch.granted, hstate]⟩
      · obtain ⟨b, hb, hst⟩ := hacc.2 m q hq
        exact ⟨b, hb, hst, fun _ => hst⟩

/-- A record leaves PICKING for its station's path with the batch's next sequence (R34, R84). -/
theorem keeps_pick {e n : Nat} {r : Sheet} {x : Entry} {pos : Pos} {f : Sheet → Sheet}
    (hp : pickingOf s e = some (n, r)) (hx : s.entries.get e = some x)
    (hf : ∀ q, (f q).batch = q.batch ∧ (f q).station = q.station ∧ (f q).state = .inPath) :
    Keeps s (modEntry e (Entry.pick n pos) (modBatch r.batch Batch.pick (modSheet n f s))) := by
  have hid : Entry.KeepsIdentity (Entry.pick n pos) := fun _ => ⟨rfl, .inl rfl⟩
  obtain ⟨-, hst, hstate⟩ := mem_of_pickingOf hp
  have htables : TablesOk s → TablesOk (modEntry e (Entry.pick n pos) (modBatch r.batch Batch.pick (modSheet n f s))) :=
    fun ht => tablesOk_modEntry (tablesOk_modBatch (tablesOk_modSheet ht))
  obtain ⟨hb, hs, hi⟩ := hf r
  have hcount : TablesOk s → ∀ j, pickCount (modEntry e (Entry.pick n pos) (modBatch r.batch Batch.pick (modSheet n f s))) j
      + (decide (e = j)).toNat = pickCount s j := fun ht j => by
    have := Tab.count_modify (sheetsWf ht) (fun r => decide (r.station = j) && decide (r.state = .picking)) f
      (get_of_pickingOf ht hp)
    simpa [pickCount, hs, hi, hst, hstate] using this
  refine ⟨⟨htables, fun _ h => reservedFree_modEntry (s := modBatch r.batch Batch.pick (modSheet n f s)) h, id,
    rangesOk_modEntry (s := modBatch r.batch Batch.pick (modSheet n f s)) hid, fun _ => id, fun ht hg => ?_⟩,
    fun skip ht hr hb => ?_, rfl⟩
  · obtain ⟨h1, h2⟩ := (grantsOk_iff ht).1 hg
    refine (grantsOk_iff (htables ht)).2 ⟨fun m q _ => ?_, fun j y hy => ?_⟩
    · have := hcount ht q.station
      have := pickCount_le_one ht hg q.station
      omega
    · have hc := hcount ht j
      simp only [modEntry_entries, modBatch_entries, modSheet_entries, Tab.get_modify] at hy
      split_ifs at hy with hj
      · subst hj
        obtain ⟨z, hz, rfl⟩ := Option.map_eq_some_iff.1 hy
        have := h2 j z hz
        simp only [decide_true, Bool.toNat_true] at hc
        simp only [Entry.pick, List.length_append, List.length_cons, List.length_nil]
        omega
      · have := h2 j y hy
        omega
  · have hget := get_of_pickingOf ht hp
    obtain ⟨hbind, hacc⟩ := hb
    have hbooks : Books skip (modBatch r.batch Batch.pick (modSheet n f s)) := by
      have hlive : ∀ j, liveCount (modSheet n f s) j = liveCount s j + (decide (r.batch = j)).toNat := fun j => by
        have := Tab.count_modify (sheetsWf ht) (fun r => decide (r.batch = j) && decide (r.state ≠ .picking)) f hget
        simpa [liveCount, hf, hstate] using this
      have hpick : ∀ j, pickingCount (modSheet n f s) j + (decide (r.batch = j)).toNat = pickingCount s j := fun j => by
        have := Tab.count_modify (sheetsWf ht) (fun r => decide (r.batch = j) && decide (r.state = .picking)) f hget
        simpa [pickingCount, hf, hstate] using this
      refine ⟨bindingsFound_of_modify hbind rfl rfl fun b hb => ⟨rfl, hbind.2.2.2 _ b hb⟩,
        accountsBut_of_modify hacc rfl (fun j hj => ⟨?_, ?_⟩) (fun b hb e1 e2 => ⟨fun _ e3 => ?_, ?_, ?_⟩) fun m q hq => ?_⟩
      · exact (hlive j).trans (by simp [Ne.symm hj])
      · change pickingCount (modSheet n f s) j = _
        simpa [Ne.symm hj] using hpick j
      · simp only [Batch.pick]; omega
      · change b.live + 1 = liveCount (modSheet n f s) r.batch
        simpa [e1] using (hlive r.batch).symm
      · have := hpick r.batch
        simp only [decide_true, Bool.toNat_true] at this
        change b.picking - 1 = pickingCount (modSheet n f s) r.batch
        omega
      · rcases get_sheets_modSheet hq with ⟨-, hq⟩ | ⟨rfl, r', hr', rfl⟩
        · obtain ⟨b, hb, hst⟩ := hacc.2 m q hq
          exact ⟨b, hb, hst, fun _ => hst⟩
        · obtain ⟨b, hb, hst⟩ := hacc.2 m r' hr'
          rw [(hf r').1]
          exact ⟨b, hb, hst, fun _ => hst⟩
    exact books_modEntry (fun y _ => ⟨rfl, .inl⟩) hbooks

end Sys2Proof.Machine
end

section
/-! The rules for a record that leaves the table, for the ends of a batch, and for bindings made and parted. -/

set_option Elab.async false

namespace Sys2Proof.Machine

variable {s t : State} {skip : Nat → Prop}

/-! A record leaves the table -/

theorem tablesOk_delSheet (n : Nat) (ht : TablesOk s) : TablesOk { s with sheets := s.sheets.del n } :=
  ⟨ht.1, ht.2.1, Tab.wf_del (sheetsWf ht) n, ht.2.2.2⟩

/-- Without a record no station has more grants than with it. -/
theorem keepsShape_delSheet (n : Nat) (s : State) : KeepsShape s { s with sheets := s.sheets.del n } := by
  refine ⟨tablesOk_delSheet n, fun _ => id, id, id, fun _ => id, fun ht hg => ?_⟩
  have hle : ∀ e, pickCount { s with sheets := s.sheets.del n } e ≤ pickCount s e := fun e =>
    (List.filter_sublist.filter _).length_le
  obtain ⟨h1, h2⟩ := (grantsOk_iff ht).1 hg
  exact (grantsOk_iff (tablesOk_delSheet n ht)).2 ⟨fun m q _ => (hle q.station).trans (pickCount_le_one ht hg q.station),
    fun e x hx => (Nat.add_le_add_left (hle e) _).trans (h2 e x hx)⟩

/-- The books after the record in `n` has left the table, counted once unless the balance of its batch is left open. -/
theorem books_delSheet {n : Nat} {r : Sheet} {g : Batch → Batch} (ht : TablesOk s) (hr : s.sheets.get n = some r)
    (hstate : r.state ≠ .picking) (hb : Books skip s)
    (hg : ∀ b, (¬ skip r.batch → (g b).fed = b.fed ∧ (g b).completed + (g b).discarded + (g b).rescanned =
      b.completed + b.discarded + b.rescanned + 1) ∧ (g b).live = b.live - 1 ∧ (g b).picking = b.picking ∧
      (g b).bound = b.bound ∧ (g b).state = b.state) :
    Books skip (modBatch r.batch g { s with sheets := s.sheets.del n }) := by
  obtain ⟨hbind, hacc⟩ := hb
  have hlive : ∀ j, liveCount s j = liveCount { s with sheets := s.sheets.del n } j + (decide (r.batch = j)).toNat :=
    fun j => by
      have := Tab.count_del (sheetsWf ht) (fun r => decide (r.batch = j) && decide (r.state ≠ .picking)) hr
      simpa [liveCount, hstate] using this
  have hpick : ∀ j, pickingCount s j = pickingCount { s with sheets := s.sheets.del n } j := fun j => by
    have := Tab.count_del (sheetsWf ht) (fun r => decide (r.batch = j) && decide (r.state = .picking)) hr
    simpa [pickingCount, hstate] using this
  refine ⟨bindingsFound_of_modify (g := g) hbind rfl rfl fun b hb => ?_,
    accountsBut_of_modify (g := g) hacc rfl (fun j hj => ⟨?_, (hpick j).symm⟩)
      (fun b hb e1 e2 => ?_) fun m q hq => ?_⟩
  · obtain ⟨-, -, -, hbound, hst⟩ := hg b
    exact ⟨hbound, fun hc => hbind.2.2.2 _ b hb (hst ▸ hc)⟩
  · change liveCount { s with sheets := s.sheets.del n } j = _
    simpa [Ne.symm hj] using (hlive j).symm
  · obtain ⟨hsum, hlv, hp, -, -⟩ := hg b
    have h1 := hlive r.batch
    simp only [decide_true, Bool.toNat_true] at h1
    refine ⟨fun hskip e3 => ?_, ?_, by rw [hp, e2]; exact hpick r.batch⟩
    · obtain ⟨hfed, hcount⟩ := hsum hskip
      omega
    change _ = liveCount { s with sheets := s.sheets.del n } r.batch
    omega
  · have hm : s.sheets.get m = some q := by
      simp only [modBatch_sheets, Tab.get_del] at hq
      split_ifs at hq
      exact hq
    obtain ⟨b, hb, hst⟩ := hacc.2 m q hm
    exact ⟨b, hb, hst, fun _ => by rwa [(hg b).2.2.2.2]⟩

/-- A batch with one record less in PICKING (R35). -/
def Batch.pickingFreed (b : Batch) : Batch := { b with picking := b.picking - 1 }

/-- A PICKING record is freed, uncounted (R35). -/
theorem keeps_free {n : Nat} {r : Sheet} (hr : s.sheets.get n = some r) (hstate : TablesOk s → r.state = .picking) :
    Keeps s (modBatch r.batch Batch.pickingFreed { s with sheets := s.sheets.del n }) := by
  refine ⟨(keepsShape_delSheet n s).trans (keepsShape_modBatch _ _ _), fun skip ht _ hb => ?_, rfl⟩
  obtain ⟨hbind, hacc⟩ := hb
  have hst := hstate ht
  have hlive : ∀ j, liveCount s j = liveCount { s with sheets := s.sheets.del n } j := fun j => by
    have := Tab.count_del (sheetsWf ht) (fun r => decide (r.batch = j) && decide (r.state ≠ .picking)) hr
    simpa [liveCount, hst] using this
  have hpick : ∀ j, pickingCount s j = pickingCount { s with sheets := s.sheets.del n } j + (decide (r.batch = j)).toNat :=
    fun j => by
      have := Tab.count_del (sheetsWf ht) (fun r => decide (r.batch = j) && decide (r.state = .picking)) hr
      simpa [pickingCount, hst] using this
  refine ⟨bindingsFound_of_modify (g := Batch.pickingFreed) hbind rfl rfl fun b hb => ⟨rfl, hbind.2.2.2 _ b hb⟩,
    accountsBut_of_modify (g := Batch.pickingFreed) hacc rfl (fun j hj => ⟨(hlive j).symm, ?_⟩)
      (fun b hb e1 e2 => ⟨fun _ => id, e1.trans (hlive r.batch), ?_⟩) fun m q hq => ?_⟩
  · change pickingCount { s with sheets := s.sheets.del n } j = _
    simpa [Ne.symm hj] using (hpick j).symm
  · have h1 := hpick r.batch
    simp only [decide_true, Bool.toNat_true] at h1
    change b.picking - 1 = pickingCount { s with sheets := s.sheets.del n } r.batch
    omega
  · have hm : s.sheets.get m = some q := by
      simp only [modBatch_sheets, Tab.get_del] at hq
      split_ifs at hq
      exact hq
    obtain ⟨b, hb, hst⟩ := hacc.2 m q hm
    exact ⟨b, hb, hst, fun _ => hst⟩

/-- An update that counts one sheet of a batch as completed, discarded or rescanned, and nothing else of its accounts. -/
def Batch.CountsOne (f : Batch → Batch) : Prop :=
  ∀ b, (f b).fed = b.fed ∧ (f b).completed + (f b).discarded + (f b).rescanned =
    b.completed + b.discarded + b.rescanned + 1 ∧ (f b).live = b.live ∧ (f b).picking = b.picking ∧
    (f b).bound = b.bound ∧ (f b).state = b.state

theorem modBatch_modBatch (h : Nat) (f g : Batch → Batch) (s : State) :
    modBatch h g (modBatch h f s) = modBatch h (g ∘ f) s := by
  simp only [modBatch, Tab.modify_modify]

/-- A record past PICKING is counted and leaves the table (R41). -/
theorem keeps_retire {n : Nat} {r : Sheet} {f : Batch → Batch} (hr : s.sheets.get n = some r)
    (hstate : TablesOk s → r.state ≠ .picking) (hf : Batch.CountsOne f) :
    Keeps s (modBatch r.batch (Batch.loseRecord r)
      { modBatch r.batch f s with sheets := (modBatch r.batch f s).sheets.del n }) := by
  refine ⟨(keepsShape_modBatch _ _ _).trans ((keepsShape_delSheet n _).trans (keepsShape_modBatch _ _ _)),
    fun skip ht _ hb => ?_, rfl⟩
  have := books_delSheet (g := Batch.loseRecord r ∘ f) ht hr (hstate ht) hb fun b => ?_
  · rwa [← modBatch_modBatch] at this
  · obtain ⟨h1, h2, h3, h4, h5, h6⟩ := hf b
    exact ⟨fun _ => ⟨h1, h2⟩, congrArg (· - 1) h3, h4, h5, h6⟩

/-! The ends of a batch -/

/-- A batch without binding, picking or live records goes to CLOSED (R22, R24). -/
theorem keeps_toClosed {h : Nat} (o : BatchOutcome)
    (hb : ∀ b, s.batches.get h = some b → b.bound = none ∧ b.picking = 0 ∧ b.live = 0) :
    Keeps s (modBatch h (Batch.toClosed o) s) := by
  refine ⟨keepsShape_modBatch _ _ _, fun skip ht _ ⟨hbind, hacc⟩ => ?_, rfl⟩
  refine ⟨bindingsFound_of_modify (g := Batch.toClosed o) hbind rfl rfl fun b hget => ?_,
    accountsBut_of_modify (g := Batch.toClosed o) hacc rfl (fun j hj => ⟨rfl, rfl⟩)
      (fun b _ e1 e2 => ⟨fun _ => id, e1, e2⟩) fun m q hq => ?_⟩
  · obtain ⟨hbound, -, -⟩ := hb b hget
    exact ⟨hbound.symm, fun _ => hbound⟩
  · obtain ⟨b, hget, hst⟩ := hacc.2 m q hq
    refine ⟨b, hget, hst, fun hqh => ?_⟩
    subst hqh
    obtain ⟨-, hp, hl⟩ := hb b hget
    obtain ⟨-, hlive, hpick⟩ := hacc.1 _ b hget
    have h1 := (Tab.count_eq_zero (sheetsWf ht)).1 (hlive.symm.trans hl) m q hq
    have h2 := (Tab.count_eq_zero (sheetsWf ht)).1 (hpick.symm.trans hp) m q hq
    simp only [decide_true, Bool.true_and, decide_eq_false_iff_not, ne_eq, not_not] at h1 h2
    exact absurd h1 h2

theorem keepsShape_ofBatches (ht : t = { s with batches := t.batches })
    (hw : Tab.wf 48 s.batches → Tab.wf 48 t.batches) : KeepsShape s t := by
  generalize t.batches = a at ht hw
  subst ht
  exact ⟨fun ⟨h1, h2, h3, h4, h5⟩ => ⟨h1, h2, h3, hw h4, h5⟩, fun _ => id, id, id, fun _ => id, fun _ => id⟩

/-- A CLOSED batch's record is freed (R25). -/
theorem keeps_delBatch {h : Nat} (hc : ∀ b, s.batches.get h = some b → b.state = .closed) :
    Keeps s { s with batches := s.batches.del h } := by
  refine ⟨keepsShape_ofBatches rfl fun hw => Tab.wf_del hw h, fun skip ht _ ⟨⟨h1, h2, h3, h4⟩, hacc, hopen⟩ => ?_, rfl⟩
  have hback : ∀ j b, (s.batches.del h).get j = some b → s.batches.get j = some b := fun j b hb => by
    rw [Tab.get_del] at hb
    split_ifs at hb
    exact hb
  refine ⟨⟨fun e x j hx hbd => ?_, fun j b e hb hbd => h2 j b e (hback j b hb) hbd, h3,
    fun j b hb => h4 j b (hback j b hb)⟩, fun j b hb => hacc j b (hback j b hb), fun n r hr => ?_⟩
  · obtain ⟨b, hb, hbe⟩ := h1 e x j hx hbd
    have hj : j ≠ h := by
      rintro rfl
      cases (h4 j b hb (hc b hb)).symm.trans hbe
    exact ⟨b, (Tab.get_del_other _ hj).trans hb, hbe⟩
  · obtain ⟨b, hb, hst⟩ := hopen n r hr
    have hj : r.batch ≠ h := by
      intro hj
      exact hst (hc b (hj ▸ hb))
    exact ⟨b, (Tab.get_del_other _ hj).trans hb, hst⟩

/-- A FREE handle takes a new record (R5). -/
theorem keeps_putBatch {h : Nat} {b : Batch} (hh : h < 48) (hfree : s.batches.get h = none)
    (hbound : b.bound = none) (hfed : b.fed = b.completed + b.discarded + b.rescanned + b.live)
    (hlive : b.live = 0) (hpick : b.picking = 0) : Keeps s { s with batches := s.batches.put h b } := by
  refine ⟨keepsShape_ofBatches rfl fun hw => Tab.wf_put hw hh b,
    fun skip ht _ ⟨⟨h1, h2, h3, h4⟩, hacc, hopen⟩ => ?_, rfl⟩
  have hother : ∀ {j c}, s.batches.get j = some c → (s.batches.put h b).get j = some c := fun {j c} hc => by
    refine (Tab.get_put_other _ b ?_).trans hc
    rintro rfl
    cases hfree.symm.trans hc
  have hback : ∀ j c, (s.batches.put h b).get j = some c → s.batches.get j = some c ∨ (j = h ∧ c = b) := fun j c hc => by
    rw [Tab.get_put] at hc
    split_ifs at hc with hj
    · exact .inr ⟨hj, (Option.some.inj hc).symm⟩
    · exact .inl hc
  refine ⟨⟨fun e x j hx hbd => ?_, fun j c e hc hbd => ?_, h3, fun j c hc hcl => ?_⟩, fun j c hc => ?_, fun n r hr => ?_⟩
  · obtain ⟨c, hc, hce⟩ := h1 e x j hx hbd
    exact ⟨c, hother hc, hce⟩
  · rcases hback j c hc with hc | ⟨rfl, rfl⟩
    · exact h2 j c e hc hbd
    · cases hbound.symm.trans hbd
  · rcases hback j c hc with hc | ⟨rfl, rfl⟩
    · exact h4 j c hc hcl
    · exact hbound
  · rcases hback j c hc with hc | ⟨rfl, rfl⟩
    · exact hacc j c hc
    · have hnone : ∀ n r, s.sheets.get n = some r → r.batch ≠ j := fun n r hr hrb => by
        obtain ⟨d, hd, -⟩ := hopen n r hr
        cases hfree.symm.trans (hrb ▸ hd)
      refine ⟨fun _ => hfed, hlive.trans (Eq.symm ?_), hpick.trans (Eq.symm ?_)⟩ <;>
        exact (Tab.count_eq_zero (sheetsWf ht)).2 fun n r hr => by simp [hnone n r hr]
  · obtain ⟨c, hc, hst⟩ := hopen n r hr
    exact ⟨c, hother hc, hst⟩

/-! Bindings -/

/-- The accounts after an update of a batch that leaves its accounts and its state. -/
theorem accountsBut_of_bound {h : Nat} {g : Batch → Batch} (hacc : AccountsBut skip s) (hsheets : t.sheets = s.sheets)
    (hbatches : t.batches = s.batches.modify h g)
    (hg : ∀ b, ∃ o, g b = { b with bound := o }) : AccountsBut skip t := by
  refine accountsBut_of_modify (g := g) hacc hbatches (fun j _ => ?_) (fun b _ e1 e2 => ?_) fun n q hq => ?_
  · simp [liveCount, pickingCount, hsheets]
  · obtain ⟨o, ho⟩ := hg b
    rw [ho]
    exact ⟨fun _ => id, by simpa [liveCount, hsheets] using e1, by simpa [pickingCount, hsheets] using e2⟩
  · obtain ⟨b, hb, hst⟩ := hacc.2 n q (hsheets ▸ hq)
    obtain ⟨o, ho⟩ := hg b
    exact ⟨b, hb, hst, fun _ => by rwa [ho]⟩

/-- A batch and a station that are bound to each other are parted (R19, R22). -/
theorem keeps_part {h e : Nat} {b : Batch} {f : Entry → Entry} (hb : s.batches.get h = some b) (hbe : b.bound = some e)
    (hf : ∀ x, (f x).id = x.id ∧ (f x).name = x.name ∧ (f x).path = x.path ∧ (f x).bound = none) :
    Keeps s (modEntry e f (modBatch h (fun b => { b with bound := none }) s)) := by
  have hshape : KeepsShape (modBatch h (fun b => { b with bound := none }) s)
      (modEntry e f (modBatch h (fun b => { b with bound := none }) s)) := by
    refine keepsShape_modEntry e (fun x => ?_) fun x _ => ?_ <;> obtain ⟨hi, hn, hp, -⟩ := hf x
    · exact ⟨hi, .inl hn⟩
    · rw [hp]
  refine ⟨(keepsShape_modBatch _ _ _).trans hshape, fun skip _ _ ⟨⟨h1, h2, h3, h4⟩, hacc⟩ => ?_, rfl⟩
  refine ⟨⟨fun j x k hx hbd => ?_, fun k c j hc hbd => ?_, fun j x hx hidle => ?_, fun k c hc hcl => ?_⟩,
    accountsBut_of_bound (h := h) (g := fun b => { b with bound := none }) hacc rfl rfl fun b => ⟨none, rfl⟩⟩
  · simp only [modEntry_entries, modBatch_entries, Tab.get_modify] at hx
    split_ifs at hx with hj
    · obtain ⟨y, hy, rfl⟩ := Option.map_eq_some_iff.1 hx
      exact absurd hbd (by simp [(hf y).2.2.2])
    · obtain ⟨c, hc, hcj⟩ := h1 j x k hx hbd
      have hk : k ≠ h := by
        rintro rfl
        cases hb.symm.trans hc
        exact hj (Option.some.inj (hcj.symm.trans hbe))
      exact ⟨c, by simp [Tab.get_modify, hk, hc], hcj⟩
  · simp only [modEntry_batches, modBatch_batches, Tab.get_modify] at hc
    split_ifs at hc with hk
    · obtain ⟨d, hd, rfl⟩ := Option.map_eq_some_iff.1 hc
      cases hbd
    · obtain ⟨x, hx, hxk⟩ := h2 k c j hc hbd
      have hj : j ≠ e := by
        rintro rfl
        obtain ⟨y, hy, hyh⟩ := h2 h b j hb hbe
        cases hx.symm.trans hy
        exact hk (Option.some.inj (hxk.symm.trans hyh))
      exact ⟨x, by simp [Tab.get_modify, hj, hx], hxk⟩
  · simp only [modEntry_entries, modBatch_entries, Tab.get_modify] at hx
    split_ifs at hx with hj
    · obtain ⟨y, hy, rfl⟩ := Option.map_eq_some_iff.1 hx
      exact (hf y).2.2.2
    · exact h3 j x hx hidle
  · simp only [modEntry_batches, modBatch_batches, Tab.get_modify] at hc
    split_ifs at hc with hk
    · obtain ⟨d, hd, rfl⟩ := Option.map_eq_some_iff.1 hc
      rfl
    · exact h4 k c hc hcl

/-- An open batch and an IDLE station are bound to each other, and the station leaves IDLE (R18). -/
theorem keeps_join {h e : Nat} {b : Batch} {x : Entry} {f : Entry → Entry} (hb : s.batches.get h = some b)
    (hbn : b.bound = none) (hopen : b.state ≠ .closed) (hx : s.entries.get e = some x) (hidle : x.feed = .idle)
    (hf : ∀ x, (f x).id = x.id ∧ (f x).name = x.name ∧ (f x).path = x.path ∧ (f x).bound = some h ∧ (f x).feed ≠ .idle) :
    Keeps s (modEntry e f (modBatch h (fun b => { b with bound := some e }) s)) := by
  have hshape : KeepsShape (modBatch h (fun b => { b with bound := some e }) s)
      (modEntry e f (modBatch h (fun b => { b with bound := some e }) s)) := by
    refine keepsShape_modEntry e (fun x => ?_) fun x _ => ?_ <;> obtain ⟨hi, hn, hp, -⟩ := hf x
    · exact ⟨hi, .inl hn⟩
    · rw [hp]
  refine ⟨(keepsShape_modBatch _ _ _).trans hshape, fun skip _ _ ⟨⟨h1, h2, h3, h4⟩, hacc⟩ => ?_, rfl⟩
  have hxn := h3 e x hx hidle
  refine ⟨⟨fun j y k hy hbd => ?_, fun k c j hc hbd => ?_, fun j y hy hyi => ?_, fun k c hc hcl => ?_⟩,
    accountsBut_of_bound (h := h) (g := fun b => { b with bound := some e }) hacc rfl rfl fun b => ⟨some e, rfl⟩⟩
  · simp only [modEntry_entries, modBatch_entries, Tab.get_modify] at hy
    split_ifs at hy with hj
    · obtain ⟨z, -, rfl⟩ := Option.map_eq_some_iff.1 hy
      obtain ⟨-, -, -, hbound, -⟩ := hf z
      cases hbound.symm.trans hbd
      exact ⟨{ b with bound := some e }, by simp [hb], by rw [hj]⟩
    · obtain ⟨c, hc, hcj⟩ := h1 j y k hy hbd
      have hk : k ≠ h := by
        rintro rfl
        cases hb.symm.trans hc
        cases hbn.symm.trans hcj
      exact ⟨c, by simp [Tab.get_modify, hk, hc], hcj⟩
  · simp only [modEntry_batches, modBatch_batches, Tab.get_modify] at hc
    split_ifs at hc with hk
    · obtain ⟨d, -, rfl⟩ := Option.map_eq_some_iff.1 hc
      cases hbd
      obtain ⟨-, -, -, hbound, -⟩ := hf x
      exact ⟨f x, by simp [hx], by rw [hbound, hk]⟩
    · obtain ⟨y, hy, hyk⟩ := h2 k c j hc hbd
      have hj : j ≠ e := by
        rintro rfl
        cases hx.symm.trans hy
        cases hxn.symm.trans hyk
      exact ⟨y, by simp [Tab.get_modify, hj, hy], hyk⟩
  · simp only [modEntry_entries, modBatch_entries, Tab.get_modify] at hy
    split_ifs at hy with hj
    · obtain ⟨z, -, rfl⟩ := Option.map_eq_some_iff.1 hy
      obtain ⟨-, -, -, -, hfeed⟩ := hf z
      exact absurd hyi hfeed
    · exact h3 j y hy hyi
  · simp only [modEntry_batches, modBatch_batches, Tab.get_modify] at hc
    split_ifs at hc with hk
    · obtain ⟨d, hd, rfl⟩ := Option.map_eq_some_iff.1 hc
      subst hk
      cases hb.symm.trans hd
      exact absurd hcl hopen
    · exact h4 k c hc hcl

end Sys2Proof.Machine
end

section
/-! The operations batches, sheets and stations share keep every invariant. -/

set_option Elab.async false

namespace Sys2Proof.Machine

variable {s : State}

theorem keeps_onQueues (e : Nat) (f : Queues → Queues) (s : State) : Keeps s (onQueues e f s) := by
  unfold onQueues
  split
  · exact keeps_modPort _ _ s
  · exact .refl s

/-- An update of an entry's fields other than identity, custody and path. -/
theorem keeps_modEntry_of_same (e : Nat) (f : Entry → Entry) (s : State) (hf : ∀ x, (f x).id = x.id ∧
    (f x).name = x.name ∧ (f x).bound = x.bound ∧ (f x).path = x.path ∧ (f x).feed = x.feed := by
      exact fun _ => ⟨rfl, rfl, rfl, rfl, rfl⟩) : Keeps s (modEntry e f s) := by
  refine keeps_modEntry e (fun x => ?_) fun x _ => ?_ <;> obtain ⟨hi, hn, hb, hp, hfd⟩ := hf x
  · exact ⟨hi, .inl hn⟩
  · exact ⟨hb, by rw [hp], fun h => .inl (hfd ▸ h)⟩

/-! Pause reasons, checkpoints and closing -/

theorem Batch.sameAccounts_judgePauses (b : Batch) : b.SameAccounts b.judgePauses := by
  unfold Batch.judgePauses
  split <;> exact .rfl

theorem Batch.sameAccounts_applyAmendment (b : Batch) : b.SameAccounts b.applyAmendment := by
  unfold Batch.applyAmendment
  split <;> exact .rfl

theorem Batch.SameAccounts.trans {a b c : Batch} (h : a.SameAccounts b) (k : b.SameAccounts c) : a.SameAccounts c := by
  obtain ⟨h1, h2, h3, h4, h5, h6, h7, h8⟩ := h
  obtain ⟨k1, k2, k3, k4, k5, k6, k7, k8⟩ := k
  exact ⟨k1.trans h1, k2.trans h2, k3.trans h3, k4.trans h4, k5.trans h5, k6.trans h6, k7.trans h7, k8.trans h8⟩

theorem Batch.sameAccounts_completeCheckpoint (b : Batch) : b.SameAccounts b.completeCheckpoint := by
  unfold Batch.completeCheckpoint
  split
  · exact .rfl
  · next t _ =>
    exact (Batch.sameAccounts_applyAmendment { b with last := t, passed := b.passed + 1 }).trans
      (Batch.sameAccounts_judgePauses _)

theorem keeps_judgePausesOf (h : Nat) (s : State) : Keeps s (judgePausesOf h s) := by
  unfold judgePausesOf
  have hmod : Keeps s (modBatch h Batch.judgePauses s) := keeps_modBatch h fun b _ => b.sameAccounts_judgePauses
  split
  · exact .refl s
  · dsimp only
    split
    · exact hmod.trans (keeps_raise _ _ _)
    · exact hmod

theorem keeps_completeOnce (h : Nat) (s : State) : Keeps s (completeOnce h s) := by
  unfold completeOnce
  have hmod : Keeps s (modBatch h Batch.completeCheckpoint s) := keeps_modBatch h fun b _ => b.sameAccounts_completeCheckpoint
  dsimp only
  split
  · split
    · exact hmod.trans (keeps_raise _ _ _)
    · exact hmod
  · exact hmod

theorem keeps_completeCheckpoints (n h : Nat) (s : State) : Keeps s (completeCheckpoints n h s) := by
  induction n generalizing s with
  | zero => exact .refl s
  | succ n ih =>
    unfold completeCheckpoints
    split
    · exact (keeps_completeOnce h s).trans (ih _)
    · exact .refl s

theorem keeps_unbindPair {h e : Nat} {b : Batch} (hb : s.batches.get h = some b) (hbe : b.bound = some e) :
    Keeps s (unbindPair h e s) :=
  keeps_part hb hbe fun _ => ⟨rfl, rfl, rfl, rfl⟩

theorem keeps_judgeUnbind {h : Nat} {b : Batch} (hb : s.batches.get h = some b) : Keeps s (judgeUnbind h b s) := by
  unfold judgeUnbind
  split
  · exact .refl s
  · next e hbe =>
    split
    · exact .refl s
    · split
      · exact keeps_unbindPair hb hbe
      · exact .refl s

theorem keeps_judgeClose (h : Nat) (s : State) : Keeps s (judgeClose h s) := by
  unfold judgeClose
  split
  · exact .refl s
  · next b hb =>
    split
    · next hc =>
      simp only [Bool.and_eq_true, decide_eq_true_eq] at hc
      obtain ⟨⟨hbound, hpick⟩, hlive⟩ := hc
      refine (keeps_toClosed .complete fun c hc => ?_).trans (keeps_raise _ _ _)
      cases hb.symm.trans hc
      exact ⟨hbound, hpick, hlive⟩
    · exact .refl s

theorem keeps_judgeClosing (h : Nat) (s : State) : Keeps s (judgeClosing h s) := by
  unfold judgeClosing
  split
  · exact .refl s
  · next b hb =>
    split
    · exact (keeps_judgeUnbind hb).trans (keeps_judgeClose h _)
    · exact .refl s

theorem keeps_judgeBatch (h : Nat) (s : State) : Keeps s (judgeBatch h s) :=
  (keeps_judgePausesOf h s).trans ((keeps_completeCheckpoints _ h _).trans (keeps_judgeClosing h _))

/-! Grants -/

theorem member_eq_nil {b : Bool} {r : Hold} : member b r = [] ↔ b = false := by
  cases b <;> simp [member]

/-- A grant decision finds an entry with room in its path, no PICKING record, and an open batch (R79, R80). -/
theorem grantReady_iff_holdsBut {e : Nat} :
    grantReady s e = true ↔ ∃ x, s.entries.get e = some x ∧ holdsBut s e x = [] := by
  unfold grantReady
  split
  · next x hx => simp [hx]
  · next hx => simp [hx]

theorem boundHolds_eq_nil {x : Entry} {h : Nat} (hx : x.bound = some h) (hh : boundHolds s x = []) {b : Batch}
    (hb : s.batches.get h = some b) : batchHolds b = [] := by
  simpa [boundHolds, hx, hb] using hh

theorem keeps_allocate {e n : Nat} (hready : grantReady s e = true) (hfree : s.sheets.firstFree Config.sheetCount = some n) :
    Keeps s (allocate e n s) := by
  obtain ⟨hn, hnone⟩ := Tab.firstFree_spec hfree
  obtain ⟨x, hx, hholds⟩ := grantReady_iff_holdsBut.1 hready
  unfold holdsBut at hholds
  simp only [List.append_eq_nil_iff, member_eq_nil] at hholds
  obtain ⟨-, -, -, -, -, hbatch, hpick, hpath, -, -⟩ := hholds
  unfold allocate
  rw [hx]
  dsimp only
  split
  · next h t hbound ht =>
    refine Keeps.trans (Keeps.trans (keeps_grant hn hnone hx hbound ?_ ?_ fun b hb => ?_) .outer)
      ((keeps_modEntry_of_same e _ _).trans ((keeps_onQueues _ _ _).trans (keeps_judgePausesOf _ _)))
    · exact Nat.not_le.1 (of_decide_eq_false hpath)
    · simpa using hpick
    · have hb := boundHolds_eq_nil hbound hbatch hb
      simp only [batchHolds, List.append_eq_nil_iff, member_eq_nil, Bool.not_eq_false', Bool.and_eq_true,
        decide_eq_true_eq] at hb
      exact hb.1.1
  · exact .refl s

theorem keeps_joinWaiting (e : Nat) (s : State) : Keeps s (joinWaiting e s) := by
  unfold joinWaiting
  split
  · exact .refl s
  · exact .outer

theorem keeps_rejudge (e : Nat) (s : State) : Keeps s (rejudge e s) := by
  unfold rejudge
  split
  · next hready =>
    split
    · next n hn => exact keeps_allocate hready hn
    · exact keeps_joinWaiting e s
  · exact .refl s

theorem keeps_serveFirst (l : List Nat) (s : State) : Keeps s (serveFirst l s) := by
  induction l generalizing s with
  | nil => exact .refl s
  | cons e l ih =>
    unfold serveFirst
    split
    · next hready =>
      split
      · next n hn => exact keeps_allocate hready hn
      · exact .refl s
    · exact Keeps.trans .outer (ih _)

theorem keeps_offerSlot (s : State) : Keeps s (offerSlot s) := keeps_serveFirst _ s

theorem keeps_offerSlots (n : Nat) (s : State) : Keeps s (offerSlots n s) := by
  induction n generalizing s with
  | zero => exact .refl s
  | succ n ih => exact (keeps_offerSlot s).trans (ih _)

theorem keeps_rejudgeAll (es : List Nat) (start : Nat) (s : State) : Keeps s (rejudgeAll es start s) :=
  keeps_foldl _ (fun e _ t => keeps_rejudge e t) s

theorem keeps_settle (hs es : List Nat) (start : Nat) (s : State) : Keeps s (settle hs es start s) :=
  (keeps_foldl hs (fun h _ t => keeps_judgeBatch h t) s).trans (keeps_rejudgeAll _ _ _)

/-! Releases, freeing and retiring -/

theorem keeps_releaseDue (e : Nat) (t : Tag) (o : ReleaseOutcome) (s : State) : Keeps s (releaseDue e t o s) := by
  unfold releaseDue
  split
  · exact keeps_onQueues _ _ s
  · exact keeps_modEntry_of_same _ _ s

theorem keeps_dropCapture (r : Sheet) (s : State) : Keeps s (dropCapture r s) := by
  unfold dropCapture
  split
  · exact keeps_modPlan _ _ s
  · exact .refl s

/-- What follows when a record has left the table: the station's count, the plan's, and the release due (R41, R127). -/
def afterRemoval (r : Sheet) (due : Option ReleaseOutcome) (s : State) : State :=
  let s4 := dropCapture r (modEntry r.station (fun x => { x with liveCount := x.liveCount - 1 }) s)
  match due with
  | some o => releaseDue r.station r.tag o s4
  | none => s4

theorem keeps_afterRemoval (r : Sheet) (due : Option ReleaseOutcome) (s : State) : Keeps s (afterRemoval r due s) := by
  have hcount : Keeps s (dropCapture r (modEntry r.station (fun x => { x with liveCount := x.liveCount - 1 }) s)) :=
    (keeps_modEntry_of_same _ _ s).trans (keeps_dropCapture _ _)
  unfold afterRemoval
  split
  · exact hcount.trans (keeps_releaseDue _ _ _ _)
  · exact hcount

theorem removeRecord_of_get {n : Nat} {r : Sheet} (hr : s.sheets.get n = some r) (due : Option ReleaseOutcome) :
    removeRecord n due s =
      afterRemoval r due (modBatch r.batch (Batch.loseRecord r) { s with sheets := s.sheets.del n }) := by
  unfold removeRecord
  rw [hr]
  rfl

/-- A record past PICKING, counted as completed, discarded or rescanned, leaves the table (R9, R41). -/
theorem keeps_removeRecord {n : Nat} {r : Sheet} {f : Batch → Batch} (hr : s.sheets.get n = some r)
    (hstate : TablesOk s → r.state ≠ .picking) (hf : Batch.CountsOne f) (due : Option ReleaseOutcome) :
    Keeps s (removeRecord n due (modBatch r.batch f s)) := by
  rw [removeRecord_of_get (s := modBatch r.batch f s) hr]
  exact (keeps_retire hr hstate hf).trans (keeps_afterRemoval _ _ _)

theorem keeps_retireRecord {n : Nat} {r : Sheet} {f : Batch → Batch} (hr : s.sheets.get n = some r)
    (hstate : TablesOk s → r.state ≠ .picking) (hf : Batch.CountsOne f) (due : Option ReleaseOutcome) :
    Keeps s (retireRecord n due (modBatch r.batch f s)) :=
  (keeps_removeRecord hr hstate hf due).trans (keeps_offerSlot _)

theorem keeps_freePicking {n : Nat} (hn : TablesOk s → ∀ r, s.sheets.get n = some r → r.state = .picking) :
    Keeps s (freePicking n s) := by
  unfold freePicking
  split
  · exact .refl s
  · next r hr =>
    exact (keeps_free hr fun ht => hn ht r hr).trans
      ((keeps_modEntry_of_same _ _ _).trans (keeps_onQueues _ _ _))

theorem Sheet.state_of_complete {r : Sheet} (h : r.complete = true) : r.state = .routing := by
  simp only [Sheet.complete, Bool.and_eq_true, decide_eq_true_eq] at h
  obtain ⟨⟨⟨⟨hstate, -⟩, -⟩, -⟩, -⟩ := h
  exact hstate

theorem keeps_completeIfDone (n : Nat) (s : State) : Keeps s (completeIfDone n s) := by
  unfold completeIfDone
  split
  · exact .refl s
  · next r hr =>
    split
    · next hc =>
      refine keeps_retireRecord hr (fun _ => ?_) ?_ _
      · rw [Sheet.state_of_complete hc]; decide
      · exact fun b => ⟨rfl, by dsimp only; omega, rfl, rfl, rfl, rfl⟩
    · exact .refl s

/-! Suspects and halts -/

theorem keeps_newSuspect {n : Nat} (hn : TablesOk s → ∀ r, s.sheets.get n = some r → r.state ≠ .picking) :
    Keeps s (newSuspect n s) := by
  unfold newSuspect
  split
  · exact .refl s
  · next r hr =>
    refine (keeps_modSheet n (f := fun r => { r with state := .suspect }) fun ht q hq => ⟨rfl, rfl, ?_⟩).trans
      (Keeps.trans (keeps_modBatch _) ((keeps_judgePausesOf _ _).trans (keeps_raise _ _ _)))
    simpa using hn ht q hq

theorem keeps_gainEvidence (f : Evidence → Evidence) (n : Nat) (s : State) : Keeps s (gainEvidence f n s) := by
  unfold gainEvidence
  split
  · exact .refl s
  · next r hr =>
    have hev : Keeps s (modSheet n (fun r => { r with evidence := f r.evidence }) s) :=
      keeps_modSheet n
    dsimp only
    split
    · next hstate =>
      refine hev.trans (keeps_newSuspect fun _ q hq => ?_)
      rcases get_sheets_modSheet hq with ⟨hne, -⟩ | ⟨-, r', hr', rfl⟩
      · exact absurd rfl hne
      · cases hr.symm.trans hr'
        dsimp only
        rw [hstate]; decide
    · exact hev

theorem Entry.keepsCustody_halted (c : HaltCause) (x : Entry) : Entry.KeepsCustody x (Entry.halted c x) := by
  unfold Entry.halted
  split
  · refine ⟨rfl, le_rfl, fun h => ?_⟩
    dsimp only at h
    split_ifs at h
  · refine ⟨rfl, le_rfl, fun h => ?_⟩
    dsimp only at h
    split_ifs at h
  · split_ifs <;> exact ⟨rfl, le_rfl, .inl⟩
  · split_ifs
    · exact ⟨rfl, le_rfl, nofun⟩
    · exact ⟨rfl, le_rfl, .inl⟩
    · exact ⟨rfl, le_rfl, .inl⟩
  · exact ⟨rfl, le_rfl, .inl⟩

theorem Entry.halted_id (c : HaltCause) (x : Entry) : (Entry.halted c x).id = x.id ∧ (Entry.halted c x).name = x.name := by
  unfold Entry.halted
  (repeat' split) <;> exact ⟨rfl, rfl⟩

theorem keeps_halt (e : Nat) (c : HaltCause) (s : State) : Keeps s (halt e c s) := by
  unfold halt
  split
  · exact .refl s
  · next x hx =>
    have hentry : Keeps s (modEntry e (Entry.halted c) s) :=
      keeps_modEntry e (fun x => ⟨(Entry.halted_id c x).1, .inl (Entry.halted_id c x).2⟩)
        fun x _ => Entry.keepsCustody_halted c x
    have hqueue : Keeps s (if x.feed.moving then onQueues e Queues.addHalt (modEntry e (Entry.halted c) s)
        else modEntry e (Entry.halted c) s) := by
      split
      · exact hentry.trans (keeps_onQueues _ _ _)
      · exact hentry
    dsimp only
    split
    · exact hqueue.trans (keeps_raise _ _ _)
    · exact hqueue

theorem keeps_leavePath (e n : Nat) (s : State) : Keeps s (leavePath e n s) := by
  unfold leavePath
  have hpath : Keeps s (modEntry e (fun x =>
      let p := x.path.filter fun c => decide (c.slot ≠ n)
      { x with path := p, lastGaugeTrail := if p.isEmpty then none else x.lastGaugeTrail }) s) :=
    keeps_modEntry e (fun x => ⟨rfl, .inl rfl⟩) fun x _ => ⟨rfl, List.length_filter_le _ _, .inl⟩
  dsimp only
  split
  · exact hpath.trans (keeps_onQueues _ _ _)
  · exact hpath

theorem keeps_emptyPath (f : Evidence → Evidence) (e : Nat) (s : State) : Keeps s (emptyPath f e s) := by
  unfold emptyPath
  split
  · exact .refl s
  · exact keeps_foldl _ (fun c _ t => (keeps_gainEvidence f c.slot t).trans (keeps_leavePath e c.slot _)) s

end Sys2Proof.Machine
end

section
/-! The operations of lanes, deliveries and uploads keep every invariant. -/

set_option Elab.async false

namespace Sys2Proof.Machine

variable {s t : State}

/-! A lane -/

/-- A lane with no more in its window and FIFO than before, which still carries deliveries if it did, is in order. -/
theorem laneOk_of_shrunk {x y : Lane} (hx : LaneOk x) (hp : y.params = x.params) (hw : y.window.Sublist x.window)
    (hf : y.fifo.length ≤ x.fifo.length) (hc : y.state.carries = false → x.state.carries = false ∨ y.window = []) :
    LaneOk y := by
  obtain ⟨h1, h2, h3, h4⟩ := hx
  refine ⟨hp ▸ hw.length_le.trans h1, h2.sublist (hw.map _), fun hy => ?_, hf.trans h4⟩
  rcases hc hy with hx | hy
  · exact List.eq_nil_of_sublist_nil (h3 hx ▸ hw)
  · exact hy

/-- An update of a lane that leaves its parameters and, where they are in range, its order. -/
theorem keeps_modLane (l : Fin 4) (f : Lane → Lane) (s : State)
    (hf : LaneParamsOk s.lanes[l].params → LaneOk s.lanes[l] → LaneOk (f s.lanes[l]) := by exact fun _ => id)
    (hp : (f s.lanes[l]).params = s.lanes[l].params := by rfl) : Keeps s (modLane l f s) := by
  refine .ofLanes rfl (fun ⟨hroom, hlanes, hrest⟩ => ⟨hroom, fun x hx => ?_, hrest⟩)
    fun ⟨_, hlanes, _⟩ ⟨hok, hup⟩ => ⟨fun x hx => ?_, hup⟩ <;>
  rcases Vector.mem_or_eq_of_mem_set (hi := l.isLt) (Vector.mem_toList_iff.1 hx) with hx | rfl
  · exact hlanes x (Vector.mem_toList_iff.2 hx)
  · rw [hp]
    exact hlanes _ (Vector.mem_toList_iff.2 (Vector.getElem_mem _))
  · exact hok x (Vector.mem_toList_iff.2 hx)
  · have hm : s.lanes[l] ∈ s.lanes.toList := Vector.mem_toList_iff.2 (Vector.getElem_mem _)
    exact hf (hlanes _ hm) (hok _ hm)

theorem Lane.addCtrl_eq (w : CtrlWord) (x : Lane) : x.addCtrl w = { x with ctrl := (x.addCtrl w).ctrl } := by
  unfold Lane.addCtrl
  split <;> rfl

theorem laneOk_addCtrl {x : Lane} (w : CtrlWord) (h : LaneOk x) : LaneOk (x.addCtrl w) := by
  rw [Lane.addCtrl_eq]
  exact h

@[simp] theorem Lane.addCtrl_params (w : CtrlWord) (x : Lane) : (x.addCtrl w).params = x.params := by
  rw [Lane.addCtrl_eq]

theorem Lane.settleSuspend_params (x : Lane) : x.settleSuspend.params = x.params := by
  unfold Lane.settleSuspend
  split <;> rfl

theorem laneOk_settleSuspend {x : Lane} (h : LaneOk x) : LaneOk x.settleSuspend := by
  unfold Lane.settleSuspend
  split
  · next hc =>
    simp only [Bool.and_eq_true, List.isEmpty_iff] at hc
    obtain ⟨⟨-, hw⟩, -⟩ := hc
    exact laneOk_of_shrunk h rfl (.refl _) le_rfl fun _ => .inr hw
  · exact h

theorem laneOk_abandon {x : Lane} (d : DelivNo) (h : LaneOk x) : LaneOk (x.abandon d) :=
  laneOk_settleSuspend (laneOk_addCtrl _ (laneOk_of_shrunk h rfl List.filter_sublist (List.length_filter_le _ _) .inl))

theorem keeps_abandonOn (d : Delivery) (s : State) : Keeps s (abandonOn d s) := by
  unfold abandonOn
  split
  · exact keeps_modLane _ _ s (fun _ => laneOk_abandon _) ((Lane.settleSuspend_params _).trans (Lane.addCtrl_params _ _))
  · exact .refl s

/-! Delivery entries -/

theorem keeps_modDelivery (n : Nat) (sd : Side) (ro : Role) (f : Delivery → Delivery) (s : State) :
    Keeps s (modDelivery n sd ro f s) := keeps_modSheet n

theorem keeps_buildEntries (n : Nat) (s : State) : Keeps s (buildEntries n s) := by
  unfold buildEntries
  split
  · exact .refl s
  · split
    · exact keeps_modSheet n
    · exact .refl s

theorem keeps_withdrawDeliveries (n : Nat) (s : State) : Keeps s (withdrawDeliveries n s) := by
  unfold withdrawDeliveries
  split
  · exact .refl s
  · exact (keeps_foldl _ (fun d _ t => keeps_abandonOn d t) s).trans (keeps_modSheet n)

/-! Uploads -/

theorem keeps_endUpload (e : Nat) (s : State) : Keeps s (endUpload e s) :=
  (keeps_delUpload e s).trans (keeps_onQueues _ _ _)

theorem keeps_abandonDest (n : Nat) (sd : Side) (x : Fin 4 × Role) (s : State) : Keeps s (abandonDest n sd s x) := by
  unfold abandonDest
  split
  · exact .refl s
  · exact (keeps_abandonOn _ s).trans (keeps_modDelivery _ _ _ _ _)

theorem keeps_abandonUpload (e : Nat) (s : State) : Keeps s (abandonUpload e s) := by
  unfold abandonUpload
  split
  · exact .refl s
  · exact (keeps_foldl _ (fun x _ t => keeps_abandonDest _ _ x t) s).trans (keeps_endUpload _ _)

theorem keeps_abandonUploadOf (n : Nat) (r : Sheet) (s : State) : Keeps s (abandonUploadOf n r s) := by
  unfold abandonUploadOf
  split
  · exact .refl s
  · split
    · exact keeps_abandonUpload _ s
    · exact .refl s

/-! What abandoning leaves of the sheets: all but their delivery entries -/

/-- The sheet records without their delivery entry lists. -/
def bareSheets (s : State) : Tab Sheet := s.sheets.map fun p => (p.1, { p.2 with deliveries := none })

theorem get_bareSheets (s : State) (n : Nat) :
    (bareSheets s).get n = (s.sheets.get n).map fun r => { r with deliveries := none } :=
  Tab.get_map s.sheets (fun r => { r with deliveries := none }) n

theorem get_of_bareSheets (h : bareSheets t = bareSheets s) {n : Nat} {q : Sheet} (hq : t.sheets.get n = some q) :
    ∃ r, s.sheets.get n = some r ∧ q = { r with deliveries := q.deliveries } := by
  have hget := congrArg (fun u => Tab.get u n) h
  simp only [get_bareSheets, hq, Option.map_some] at hget
  obtain ⟨r, hr, hrq⟩ := Option.map_eq_some_iff.1 hget.symm
  refine ⟨r, hr, ?_⟩
  calc q = { ({ q with deliveries := none } : Sheet) with deliveries := q.deliveries } := rfl
    _ = { r with deliveries := q.deliveries } := by rw [← hrq]

theorem bareSheets_modSheet (n : Nat) (f : Sheet → Sheet) (s : State)
    (hf : ∀ r, { f r with deliveries := none } = { r with deliveries := none } := by exact fun _ => rfl) :
    bareSheets (modSheet n f s) = bareSheets s := by
  simp only [bareSheets, modSheet_sheets, Tab.modify, List.map_map]
  refine List.map_congr_left fun p _ => ?_
  simp only [Function.comp_apply]
  split
  · exact congrArg _ (hf p.2)
  · rfl

/-- From `s` to `t` only uploads, lanes, ports and delivery entries change. -/
structure OnlyImages (s t : State) : Prop where
  frame : t = { s with uploads := t.uploads, lanes := t.lanes, ports := t.ports, sheets := t.sheets }
  bare : bareSheets t = bareSheets s

theorem OnlyImages.refl (s : State) : OnlyImages s s := ⟨rfl, rfl⟩

theorem OnlyImages.trans {u : State} (h : OnlyImages s t) (k : OnlyImages t u) : OnlyImages s u where
  frame := k.frame.trans (congrArg (fun x : State =>
    { x with uploads := u.uploads, lanes := u.lanes, ports := u.ports, sheets := u.sheets }) h.frame)
  bare := k.bare.trans h.bare

theorem onlyImages_foldl {α : Type} {f : State → α → State} (hf : ∀ t a, OnlyImages t (f t a)) (l : List α)
    (s : State) : OnlyImages s (l.foldl f s) := by
  induction l generalizing s with
  | nil => exact .refl s
  | cons a l ih => exact (hf s a).trans (ih _)

theorem onlyImages_modDelivery (n : Nat) (sd : Side) (ro : Role) (f : Delivery → Delivery) (s : State) :
    OnlyImages s (modDelivery n sd ro f s) := ⟨rfl, bareSheets_modSheet _ _ _⟩

theorem onlyImages_onQueues (e : Nat) (f : Queues → Queues) (s : State) : OnlyImages s (onQueues e f s) := by
  unfold onQueues
  split
  · exact ⟨rfl, rfl⟩
  · exact .refl s

theorem onlyImages_abandonOn (d : Delivery) (s : State) : OnlyImages s (abandonOn d s) := by
  unfold abandonOn
  split
  · exact ⟨rfl, rfl⟩
  · exact .refl s

theorem onlyImages_withdrawDeliveries (n : Nat) (s : State) : OnlyImages s (withdrawDeliveries n s) := by
  unfold withdrawDeliveries
  split
  · exact .refl s
  · exact (onlyImages_foldl (fun t d => onlyImages_abandonOn d t) _ s).trans ⟨rfl, bareSheets_modSheet _ _ _⟩

theorem onlyImages_abandonDest (n : Nat) (sd : Side) (s : State) (x : Fin 4 × Role) :
    OnlyImages s (abandonDest n sd s x) := by
  unfold abandonDest
  split
  · exact .refl s
  · exact (onlyImages_abandonOn _ s).trans (onlyImages_modDelivery _ _ _ _ _)

theorem onlyImages_endUpload (e : Nat) (s : State) : OnlyImages s (endUpload e s) :=
  OnlyImages.trans (t := { s with uploads := s.uploads.del e }) ⟨rfl, rfl⟩ (onlyImages_onQueues _ _ _)

theorem onlyImages_abandonUpload (e : Nat) (s : State) : OnlyImages s (abandonUpload e s) := by
  unfold abandonUpload
  split
  · exact .refl s
  · exact (onlyImages_foldl (fun t x => onlyImages_abandonDest _ _ t x) _ s).trans (onlyImages_endUpload _ _)

theorem onlyImages_abandonUploadOf (n : Nat) (r : Sheet) (s : State) : OnlyImages s (abandonUploadOf n r s) := by
  unfold abandonUploadOf
  split
  · exact .refl s
  · split
    · exact onlyImages_abandonUpload _ s
    · exact .refl s

/-! Faults -/

theorem keeps_faultRecord {n : Nat} {r : Sheet} (c : FaultCause) (hr : s.sheets.get n = some r)
    (hstate : r.state ≠ .picking) : Keeps s (faultRecord n r c s) := by
  have hbare : bareSheets (withdrawDeliveries n (abandonUploadOf n r s)) = bareSheets s :=
    ((onlyImages_abandonUploadOf n r s).trans (onlyImages_withdrawDeliveries n _)).bare
  have hrecord : Keeps s (modSheet n (Sheet.toFault c) (withdrawDeliveries n (abandonUploadOf n r s))) := by
    refine (keeps_abandonUploadOf n r s).trans ((keeps_withdrawDeliveries n _).trans
      (keeps_modSheet n fun _ q hq => ⟨rfl, rfl, ?_⟩))
    obtain ⟨r', hr', hq'⟩ := get_of_bareSheets hbare hq
    cases hr.symm.trans hr'
    have hqs : q.state = r.state := by rw [hq']
    simp [Sheet.toFault, hqs, hstate]
  unfold faultRecord
  dsimp only
  have hcount : Keeps s (if r.state = .routing then modBatch r.batch (fun b => { b with openSuspects := b.openSuspects + 1 })
      (modSheet n (Sheet.toFault c) (withdrawDeliveries n (abandonUploadOf n r s)))
      else modSheet n (Sheet.toFault c) (withdrawDeliveries n (abandonUploadOf n r s))) := by
    split
    · exact hrecord.trans (keeps_modBatch _)
    · exact hrecord
  split
  · exact hcount
  · exact hcount.trans (keeps_raise _ _ _)

theorem keeps_enterFault (n : Nat) (c : FaultCause) (s : State) : Keeps s (enterFault n c s) := by
  unfold enterFault
  split
  · exact .refl s
  · next r hr =>
    split
    · next h => exact keeps_faultRecord c hr (by rw [h]; decide)
    · next h => exact keeps_faultRecord c hr (by rw [h]; decide)
    · next h => exact keeps_faultRecord c hr (by rw [h]; decide)
    · exact .refl s
    · exact .refl s

theorem keeps_countFailure (n : Nat) (s : State) : Keeps s (countFailure n s) := by
  unfold countFailure
  split
  · exact .refl s
  · dsimp only
    split
    · exact Keeps.trans (keeps_modSheet n) (keeps_enterFault _ _ _)
    · exact keeps_modSheet n

theorem keeps_failUpload (e : Nat) (s : State) : Keeps s (failUpload e s) := by
  unfold failUpload
  split
  · exact .refl s
  · exact (keeps_abandonUpload e s).trans (keeps_countFailure _ _)

/-! Failing lanes -/

theorem keeps_judgeGo (e : Nat) (s : State) : Keeps s (judgeGo e s) := by
  unfold judgeGo
  split
  · exact .refl s
  · split
    · exact (keeps_modUpload e s).trans (keeps_onQueues _ _ _)
    · exact .refl s

theorem keeps_loseDest (l : Fin 4) (s : State) : Keeps s (loseDest l s) := by
  unfold loseDest
  split
  · exact .refl s
  · next e _ =>
    have hdests : Keeps s (modUpload e (fun u => { u with dests := u.dests.filter fun d => decide (d.1 ≠ l) }) s) :=
      keeps_modUpload e s fun u => List.filter_sublist
    dsimp only
    split
    · exact hdests
    · split
      · exact hdests.trans (keeps_endUpload _ _)
      · exact hdests.trans (keeps_judgeGo _ _)

theorem keeps_giveBack (l : Fin 4) (w : WindowEntry) (s : State) : Keeps s (giveBack l s w) := by
  unfold giveBack
  dsimp only
  split
  · exact (keeps_modDelivery _ _ _ _ s).trans (keeps_loseDest _ _)
  · exact keeps_modDelivery _ _ _ _ s

theorem laneOk_emptied {x : Lane} (h : LaneOk x) : LaneOk x.emptied :=
  laneOk_of_shrunk h rfl (List.nil_sublist _) (Nat.zero_le _) fun _ => .inr rfl

theorem keeps_failureEffects (l : Fin 4) (s : State) : Keeps s (failureEffects l s) :=
  (keeps_foldl _ (fun w _ t => keeps_giveBack l w t) s).trans (keeps_modLane _ _ _ fun _ => laneOk_emptied)

/-- A lane whose failure effects have been applied has an empty window. -/
theorem window_failureEffects (l : Fin 4) (s : State) : (failureEffects l s).lanes[l].window = [] := by
  simp [failureEffects, modLane, Lane.emptied]

theorem keeps_failLane (l : Fin 4) (s : State) : Keeps s (failLane l s) := by
  refine (keeps_failureEffects l s).trans ((keeps_modLane _ _ _ fun _ h => ?_).trans (keeps_raise _ _ _))
  exact laneOk_of_shrunk (y := Lane.toFailed _) h rfl (.refl _) le_rfl fun _ => .inr (window_failureEffects l s)

theorem laneOk_toDown {x : Lane} (h : LaneOk x) : LaneOk x.toDown :=
  laneOk_of_shrunk h rfl (List.nil_sublist _) (Nat.zero_le _) fun _ => .inr rfl

theorem keeps_loseLine (l : Fin 4) (s : State) : Keeps s (loseLine l s) := by
  have hdown : Keeps s (modLane l Lane.toDown s) := keeps_modLane _ _ s fun _ => laneOk_toDown
  unfold loseLine
  split
  · exact hdown
  · exact hdown
  · split
    · exact hdown
    · exact keeps_failLane l s
  · exact .refl s
  · exact .refl s
  · exact .refl s

/-! Offers and the upload arbiter -/

theorem held_freeNumberFrom {held : DelivNo → Bool} (n : Nat) (d : DelivNo)
    (h : ∃ i < n, held (d + BitVec.ofNat 12 i) = false) : held (freeNumberFrom held n d) = false := by
  induction n generalizing d with
  | zero => simp at h
  | succ n ih =>
    unfold freeNumberFrom
    split
    · next hd =>
      refine ih (d + 1) ?_
      obtain ⟨i, hi, hfree⟩ := h
      cases i with
      | zero => simp [hd] at hfree
      | succ i =>
        refine ⟨i, by omega, ?_⟩
        rw [← hfree]
        congr 1
        rw [BitVec.add_assoc, show (1 : DelivNo) = BitVec.ofNat 12 1 from rfl, ← BitVec.ofNat_add, Nat.add_comm]
    · next hd => simpa using hd

/-- With fewer deliveries in the window than there are numbers, the next number taken is free (R147). -/
theorem entry_takeNumber {x : Lane} (h : x.window.length < 4096) : x.takeNumber ∉ x.window.map (·.number) := by
  have hfree : ∃ i < 4096, (x.entry (x.nextNo + BitVec.ofNat 12 i)).isSome = false := by
    by_contra hall
    push Not at hall
    have hsub : (List.range 4096).map (fun i => x.nextNo + BitVec.ofNat 12 i) ⊆ x.window.map (·.number) := by
      intro d hd
      obtain ⟨i, hi, rfl⟩ := List.mem_map.1 hd
      have := hall i (List.mem_range.1 hi)
      simp only [ne_eq, Bool.not_eq_false, Lane.entry, List.find?_isSome, decide_eq_true_eq] at this
      obtain ⟨w, hw, hwd⟩ := this
      exact List.mem_map.2 ⟨w, hw, hwd⟩
    have hnodup : ((List.range 4096).map fun i => x.nextNo + BitVec.ofNat 12 i).Nodup := by
      refine List.Nodup.map_on (fun i hi j hj hij => ?_) List.nodup_range
      have := congrArg BitVec.toNat (BitVec.add_right_inj x.nextNo |>.1 hij)
      simp only [List.mem_range, BitVec.toNat_ofNat] at hi hj this
      omega
    have := (List.subperm_of_subset hnodup hsub).length_le
    simp only [List.length_map, List.length_range] at this
    omega
  have := held_freeNumberFrom (held := fun d => (x.entry d).isSome) Config.deliveryCount x.nextNo hfree
  intro hm
  obtain ⟨w, hw, hwd⟩ := List.mem_map.1 hm
  change (x.entry x.takeNumber).isSome = false at this
  simp only [Lane.entry, Option.isSome_eq_false_iff, Option.isNone_iff_eq_none, List.find?_eq_none,
    decide_eq_true_eq] at this
  exact this w hw hwd

theorem laneOk_offer {x : Lane} (n : Nat) (sr : Serial) (sd : Side) (ro : Role) (sec : Bool)
    (hopen : x.gateOpen = true) (hp : LaneParamsOk x.params) (h : LaneOk x) : LaneOk (x.offer n sr sd ro sec) := by
  simp only [Lane.gateOpen, Bool.and_eq_true, decide_eq_true_eq] at hopen
  obtain ⟨⟨⟨hcarries, -⟩, hroom⟩, -⟩ := hopen
  obtain ⟨hwin, -⟩ := hp
  obtain ⟨h1, h2, h3, h4⟩ := h
  have hle : x.params.window ≤ 32 := by
    simp only [Config.windowOk, Config.within, Bool.and_eq_true, decide_eq_true_eq] at hwin
    exact hwin.2
  unfold Lane.offer
  refine laneOk_addCtrl _ ⟨?_, ?_, fun hc => ?_, h4⟩
  · dsimp only
    rw [List.length_append]
    exact hroom
  · dsimp only
    rw [List.map_append, List.nodup_append]
    refine ⟨h2, by simp, fun a ha b hb => ?_⟩
    rintro rfl
    simp only [List.map_cons, List.map_nil, List.mem_singleton] at hb
    exact entry_takeNumber (by omega) (hb ▸ ha)
  · simp [hcarries] at hc

theorem keeps_offerEntry {d : Delivery} (n : Nat) (x : Serial) (sec : Bool) (hopen : s.lanes[d.lane].gateOpen = true) :
    Keeps s (offerEntry n x sec s d) := by
  refine Keeps.trans (keeps_modLane _ _ s (fun hp h => ?_) ?_) (keeps_modDelivery _ _ _ _ _)
  · exact laneOk_offer _ _ _ _ _ hopen hp h
  · exact Lane.addCtrl_params _ _

theorem lanes_offerEntry_of_ne {d : Delivery} {l : Fin 4} (n : Nat) (x : Serial) (sec : Bool) (hl : l ≠ d.lane) :
    (offerEntry n x sec s d).lanes[l] = s.lanes[l] := by
  have hne : d.lane.val ≠ l.val := fun h => hl (Fin.ext h.symm)
  simp [offerEntry, modDelivery, modLane, hne]

/-- The entries an upload takes are offered on different lanes with their gates open (R135). -/
theorem keeps_offers (n : Nat) (x : Serial) (sec : Bool) (l : List Delivery) (s : State)
    (hnodup : (l.map (·.lane)).Nodup) (hopen : ∀ d ∈ l, s.lanes[d.lane].gateOpen = true) :
    Keeps s (l.foldl (offerEntry n x sec) s) := by
  induction l generalizing s with
  | nil => exact .refl s
  | cons d l ih =>
    rw [List.map_cons, List.nodup_cons] at hnodup
    obtain ⟨hd, hl⟩ := hnodup
    refine (keeps_offerEntry n x sec (hopen d List.mem_cons_self)).trans (ih _ hl fun c hc => ?_)
    rw [lanes_offerEntry_of_ne n x sec fun h => hd (List.mem_map.2 ⟨c, hc, h⟩)]
    exact hopen c (List.mem_cons_of_mem d hc)

theorem nodup_sideTakes (ds : List Delivery) (sd : Side) : ((sideTakes ds sd).map (·.lane)).Nodup := by
  unfold sideTakes
  split
  · exact List.nodup_nil
  · next a l _ =>
    cases hf : l.find? fun d => decide (d.lane ≠ a.lane) with
    | none => simp
    | some c =>
      have := List.find?_some hf
      simp only [ne_eq, decide_eq_true_eq] at this
      simp [Ne.symm this]

theorem takes_of_sideEligible {r : Sheet} {sd : Side} {w : List Delivery} (h : sideEligible s r sd = some w) :
    (w.map (·.lane)).Nodup ∧ ∀ d ∈ w, laneFree s d.lane = true := by
  unfold sideEligible at h
  split at h
  · dsimp only at h
    split at h
    · next hc =>
      cases h
      simp only [Bool.and_eq_true, List.all_eq_true] at hc
      exact ⟨nodup_sideTakes _ _, hc.2⟩
    · cases h
  · cases h

theorem mem_of_leastSide {l : List Eligible} {c : Eligible} (h : leastSide l = some c) : c ∈ l := by
  induction l generalizing c with
  | nil => cases h
  | cons a l ih =>
    unfold leastSide at h
    split at h
    · cases h; exact List.mem_cons_self
    · next d hd =>
      split at h <;> cases h
      · exact List.mem_cons_of_mem a (ih hd)
      · exact List.mem_cons_self

theorem mem_eligibleSides {e : Nat} {c : Eligible} (h : c ∈ eligibleSides s e) :
    sideEligible s c.record c.side = some c.takes ∧ (c.slot, c.record) ∈ s.sheets ∧ c.record.station = e ∧
      c.key = sideKey c.record c.side := by
  unfold eligibleSides at h
  obtain ⟨p, hp, hc⟩ := List.mem_flatMap.1 h
  obtain ⟨sd, -, hsd⟩ := List.mem_filterMap.1 hc
  obtain ⟨w, hw, rfl⟩ := Option.map_eq_some_iff.1 hsd
  obtain ⟨hp, hst⟩ := List.mem_filter.1 hp
  exact ⟨hw, hp, of_decide_eq_true hst, rfl⟩

theorem mem_of_stationChoice {e : Nat} {c : Eligible} (h : stationChoice s e = some c) :
    c ∈ eligibleSides s e ∧ present s e = true ∧ s.uploads.get e = none := by
  unfold stationChoice at h
  split at h
  · next hc =>
    simp only [Bool.and_eq_true, Option.isNone_iff_eq_none] at hc
    exact ⟨mem_of_leastSide h, hc⟩
  · cases h

theorem firstChoice_spec {l : List Nat} {e : Nat} {c : Eligible} (h : firstChoice s l = some (e, c)) :
    e ∈ l ∧ stationChoice s e = some c := by
  induction l with
  | nil => cases h
  | cons j l ih =>
    unfold firstChoice at h
    split at h
    · next hc => cases h; exact ⟨List.mem_cons_self, hc⟩
    · obtain ⟨hm, hc⟩ := ih h
      exact ⟨List.mem_cons_of_mem j hm, hc⟩

theorem lt_of_mem_roundOrder {n start e : Nat} (h : e ∈ roundOrder n start) : e < n := by
  obtain ⟨i, hi, rfl⟩ := List.mem_map.1 h
  exact Nat.mod_lt _ (Nat.zero_lt_of_lt (List.mem_range.1 hi))

theorem keeps_startUpload {e : Nat} {c : Eligible} (he : e < 24) (hc : sideEligible s c.record c.side = some c.takes) :
    Keeps s (startUpload e c s) := by
  obtain ⟨hnodup, hfree⟩ := takes_of_sideEligible hc
  refine (keeps_offers _ _ _ c.takes s hnodup fun d hd => ?_).trans
    (Keeps.trans (Keeps.trans (keeps_putUpload he ?_ _) .outer) (keeps_onQueues _ _ _))
  · have := hfree d hd
    rw [laneFree, Bool.and_eq_true] at this
    exact this.1
  · simpa only [List.map_map, Function.comp_def] using hnodup

theorem keeps_arbitrateN (n : Nat) (s : State) : Keeps s (arbitrateN n s) := by
  induction n generalizing s with
  | zero => exact .refl s
  | succ n ih =>
    unfold arbitrateN
    split
    · next e c h =>
      obtain ⟨he, hc⟩ := firstChoice_spec h
      exact (keeps_startUpload (lt_of_mem_roundOrder he) (mem_eligibleSides (mem_of_stationChoice hc).1).1).trans (ih _)
    · exact .refl s

theorem keeps_arbitrate (s : State) : Keeps s (arbitrate s) := keeps_arbitrateN _ s

/-! The ends of deliveries -/

theorem keeps_deliveryDone (l : Fin 4) (w : WindowEntry) (s : State) : Keeps s (deliveryDone l w s) := by
  refine (keeps_modLane l (Lane.finish w.number) s (fun _ h => ?_) (Lane.settleSuspend_params _)).trans
    ((keeps_modDelivery _ _ _ _ _).trans (keeps_completeIfDone _ _))
  exact laneOk_settleSuspend (laneOk_of_shrunk h rfl List.filter_sublist le_rfl .inl)

theorem keeps_loopbackDone (l : Fin 4) (w : WindowEntry) (s : State) : Keeps s (loopbackDone l w s) :=
  (keeps_modBatch _).trans (keeps_deliveryDone _ _ _)

theorem keeps_closeDelivery (l : Fin 4) (d : DelivNo) (s : State) : Keeps s (closeDelivery l d s) := by
  unfold closeDelivery
  dsimp only
  split
  · exact .refl s
  · split
    · split
      · exact .refl s
      · split
        · exact keeps_loopbackDone _ _ s
        · exact keeps_modLane _ _ s (fun _ => laneOk_addCtrl _) (Lane.addCtrl_params _ _)
    · exact .refl s

end Sys2Proof.Machine
end

section
/-! The operations of feed ports, the directory and verdicts keep every invariant, and so does the clock. -/

set_option Elab.async false

namespace Sys2Proof.Machine

variable {s : State}

/-! Reservations and re-query -/

theorem keeps_reserveEntry {i : Nat} (hi : TablesOk s → i < 24)
    (hfree : TablesOk s → ReservedFree s → s.entries.get i = none) : Keeps s (reserveEntry i s) := by
  unfold reserveEntry
  split
  · exact (keeps_putReservation _ hi hfree).trans (keeps_modPort _ _ _)
  · exact keeps_delReservation i s

theorem mem_of_reservedFor {p : Fin 16} {i : Nat} (h : reservedFor s p = some i) : (i, p.val) ∈ s.reservations := by
  unfold reservedFor at h
  obtain ⟨q, hq, rfl⟩ := Option.map_eq_some_iff.1 h
  obtain ⟨hm, hp⟩ := Tab.find_spec hq
  rwa [← of_decide_eq_true hp]

theorem lt_of_reservedFor {p : Fin 16} {i : Nat} (h : reservedFor s p = some i) (ht : TablesOk s) : i < 24 :=
  ht.2.1.2 i (List.mem_map_of_mem (f := Prod.fst) (mem_of_reservedFor h))

theorem keeps_releaseReservation (p : Fin 16) (s : State) : Keeps s (releaseReservation p s) := by
  unfold releaseReservation
  split
  · next i hi => exact keeps_reserveEntry (lt_of_reservedFor hi) fun _ hr => hr _ (mem_of_reservedFor hi)
  · exact .refl s

theorem keeps_requeryDuplicate (i : StationId) (s : State) : Keeps s (requeryDuplicate i s) := by
  unfold requeryDuplicate
  split
  · exact keeps_modPort _ _ s
  · exact .refl s

theorem keeps_passRequery (f : Option StationId) (s : State) : Keeps s (passRequery f s) := by
  unfold passRequery
  split
  · exact .refl s
  · split
    · split
      · exact keeps_requeryDuplicate _ s
      · exact .refl s
    · exact .refl s

/-! Losing a station -/

theorem keeps_stopTimer (e : Nat) (s : State) : Keeps s (stopTimer e s) := keeps_modEntry_of_same _ _ _

theorem keeps_freePickingOf (e : Nat) (s : State) : Keeps s (freePickingOf e s).1 := by
  unfold freePickingOf
  split
  · next n r h =>
    refine (keeps_freePicking fun ht q hq => ?_).trans (keeps_stopTimer _ _)
    cases (get_of_pickingOf ht h).symm.trans hq
    exact (mem_of_pickingOf h).2.2
  · exact .refl s

theorem keeps_detach (e : Nat) (p : Fin 16) (s : State) : Keeps s (detach e p s) := by
  unfold detach
  split
  · exact keeps_modPort _ _ s
  · have hlost := ((keeps_abandonUpload e s).trans (keeps_emptyPath (fun v => { v with linkLost := true }) e _)).trans
      (keeps_freePickingOf e _)
    have hentry := hlost.trans ((keeps_modPort p (fun _ => {}) _).trans
      (keeps_modEntry_of_same e (Entry.detached s.ports[p].unsentReleases) _))
    have hquery := fun i => (hentry.trans (keeps_halt e .linkLost _)).trans (keeps_requeryDuplicate i _)
    dsimp only
    split
    · exact ((hquery _).trans (keeps_offerSlot _)).trans ((keeps_settle _ _ _ _).trans (keeps_arbitrate _))
    · exact (hquery _).trans ((keeps_settle _ _ _ _).trans (keeps_arbitrate _))

theorem keeps_portDown (p : Fin 16) (s : State) : Keeps s (portDown p s) := by
  unfold portDown
  dsimp only
  split
  · exact .refl s
  · exact keeps_detach _ _ s
  · exact (keeps_modPort _ _ s).trans ((keeps_releaseReservation _ _).trans (keeps_passRequery _ _))
  · exact keeps_modPort _ _ s

/-! Words on a port -/

theorem keeps_takeWord {k : Nat → State → State} (p : Fin 16) (hk : ∀ e t, Keeps t (k e t)) (s : State) :
    Keeps s (takeWord p k s) := by
  unfold takeWord
  dsimp only
  split
  · exact (keeps_modPort _ _ s).trans (hk _ _)
  · exact keeps_modPort _ _ s

theorem keeps_takeMalformed (p : Fin 16) (s : State) : Keeps s (takeMalformed p s) := by
  unfold takeMalformed
  split
  · exact .refl s
  · exact keeps_modPort _ _ s
  · split
    · exact keeps_portDown p s
    · exact keeps_modPort _ _ s

/-! Identification and attach -/

theorem keeps_attach (e : Nat) (p : Fin 16) (w : Ident) (s : State) : Keeps s (attach e p w s) := by
  unfold attach
  split
  · exact .refl s
  · exact (keeps_foldl _ (fun n _ t => keeps_enterFault n _ t) s).trans ((keeps_modPort _ _ _).trans
      ((keeps_modEntry_of_same _ _ _).trans ((keeps_settle _ _ _ _).trans (keeps_arbitrate _))))

theorem availableEntry_spec {p : Fin 16} {i : Nat} (h : availableEntry s p = some i) :
    (TablesOk s → i < 24) ∧ (TablesOk s → ReservedFree s → s.entries.get i = none) := by
  unfold availableEntry at h
  split at h
  · next j hj =>
    cases h
    exact ⟨lt_of_reservedFor hj, fun _ hr => hr _ (mem_of_reservedFor hj)⟩
  · have hm := List.mem_of_find?_eq_some h
    have hfree := List.find?_some h
    simp only [Bool.and_eq_true, Option.isNone_iff_eq_none] at hfree
    exact ⟨fun _ => List.mem_range.1 hm, fun _ _ => hfree.1⟩

theorem tripleOk_of_valid {w : Ident} (h : Ident.valid w = true) : TripleOk w.id [] := by
  simp only [Ident.valid, Bool.and_eq_true, decide_eq_true_eq] at h
  obtain ⟨⟨⟨⟨⟨hmaker, hserial⟩, -⟩, -⟩, -⟩, -⟩ := h
  exact ⟨hmaker, hserial, rfl⟩

theorem keeps_identify {w : Ident} (p : Fin 16) (hw : Ident.valid w = true) (s : State) : Keeps s (identify p w s) := by
  unfold identify
  dsimp only
  split
  · split
    · exact (keeps_attach _ _ _ s).trans ((keeps_releaseReservation _ _).trans (keeps_passRequery _ _))
    · exact (keeps_modPort _ _ s).trans ((keeps_raise _ _ _).trans ((keeps_releaseReservation _ _).trans
        (keeps_passRequery _ _)))
  · split
    · next i hi =>
      obtain ⟨hlt, hfree⟩ := availableEntry_spec hi
      exact (keeps_newEntry (tripleOk_of_valid hw) hlt hfree).trans ((keeps_attach _ _ _ _).trans
        ((keeps_raise _ _ _).trans (keeps_passRequery _ _)))
    · exact (keeps_modPort _ _ s).trans ((keeps_raise _ _ _).trans (keeps_passRequery _ _))

/-! Verdicts -/

theorem keeps_modPlace (e n : Nat) (f : Place → Place) (s : State) : Keeps s (modPlace e n f s) :=
  keeps_modEntry e (fun _ => ⟨rfl, .inl rfl⟩) fun _ _ => ⟨rfl, (List.length_map _).le, .inl⟩

theorem keeps_orderDivert (e n : Nat) (t : Tag) (s : State) : Keeps s (orderDivert e n t s) :=
  (keeps_onQueues _ _ s).trans (keeps_modPlace _ _ _ _)

theorem keeps_dispose (e n : Nat) (s : State) : Keeps s (dispose e n s) := by
  unfold dispose
  split
  · split
    · split
      · exact .refl s
      · split
        · exact keeps_halt _ _ s
        · dsimp only
          split
          · exact (keeps_orderDivert _ _ _ s).trans (keeps_halt _ _ _)
          · exact keeps_orderDivert _ _ _ s
    · exact .refl s
  · exact .refl s

theorem Batch.sameAccounts_beginDocument (b : Batch) : b.SameAccounts b.beginDocument := by
  unfold Batch.beginDocument
  split <;> exact .rfl

theorem keeps_actDocument (h n : Nat) (s : State) : Keeps s (actDocument h n s) := by
  have hbatch : Keeps s (modBatch h Batch.beginDocument s) := keeps_modBatch h fun b _ => b.sameAccounts_beginDocument
  unfold actDocument
  dsimp only
  split
  · exact hbatch.trans (keeps_modSheet n)
  · exact hbatch

theorem keeps_gainBeyondEnd (e n : Nat) (s : State) : Keeps s (gainBeyondEnd e s n) := by
  unfold gainBeyondEnd
  split
  · exact .refl s
  · dsimp only
    split
    · exact (keeps_gainEvidence _ _ s).trans (keeps_dispose _ _ _)
    · exact keeps_gainEvidence _ _ s

theorem keeps_actBatchEnd (e h n : Nat) (s : State) : Keeps s (actBatchEnd e h n s) := by
  have hbatch : Keeps s (modBatch h (fun b =>
      { (if b.state = .open then b.toClosing else b) with documentOpen := false }) s) := by
    refine keeps_modBatch h fun b _ => ?_
    split
    · next hopen => exact ⟨rfl, rfl, rfl, rfl, rfl, rfl, rfl, by simp [Batch.toClosing, hopen]⟩
    · exact .rfl
  unfold actBatchEnd
  dsimp only
  split
  · exact hbatch.trans (keeps_foldl _ (fun m _ t => keeps_gainBeyondEnd e m t) _)
  · exact hbatch

theorem Batch.sameAccounts_mark (q : Nat) (b : Batch) : b.SameAccounts (b.mark q) := by
  unfold Batch.mark
  split <;> exact .rfl

theorem keeps_actMark (h : Nat) (q : Option Nat) (s : State) : Keeps s (actMark h q s) := by
  unfold actMark
  split
  · exact keeps_modBatch h fun b _ => b.sameAccounts_mark _
  · exact .refl s

theorem keeps_actKind (e n : Nat) (r : Sheet) (k : ClassKind) (s : State) : Keeps s (actKind e n r k s) := by
  cases k with
  | document => exact keeps_actDocument _ _ s
  | separator => exact keeps_modBatch _
  | batchEnd => exact keeps_actBatchEnd _ _ _ s
  | checkpointMark => exact keeps_actMark _ _ s

theorem keeps_formVerdict (e n : Nat) (s : State) : Keeps s (formVerdict e n s) := by
  unfold formVerdict
  split
  · exact .refl s
  · next r hr =>
    split
    · exact .refl s
    · next b hb =>
      have hcapture : Keeps s (modPlan b.plan (fun p => { p with captures := p.captures + 1 })
          (modSheet n (fun _ => r.judged b.capture s.classes) s)) := by
        refine (keeps_modSheet n fun _ q hq => ?_).trans (keeps_modPlan _ _ _)
        cases hr.symm.trans hq
        exact ⟨rfl, rfl, .rfl⟩
      have hsheets : (modPlan b.plan (fun p => { p with captures := p.captures + 1 })
          (modSheet n (fun _ => r.judged b.capture s.classes) s)).sheets.get n = some (r.judged b.capture s.classes) := by
        unfold modPlan
        split <;> simp [hr]
      dsimp only
      generalize modPlan b.plan _ _ = s1 at hcapture hsheets ⊢
      have hsuspect : Keeps s (if (r.judged b.capture s.classes).verdict = .suspect ∧ r.state = .inPath
          then newSuspect n s1 else s1) := by
        split
        · next hc =>
          refine hcapture.trans (keeps_newSuspect fun _ q hq => ?_)
          cases hsheets.symm.trans hq
          change r.state ≠ .picking
          rw [hc.2]; decide
        · exact hcapture
      generalize (if (r.judged b.capture s.classes).verdict = .suspect ∧ r.state = .inPath
          then newSuspect n s1 else s1) = s2 at hsuspect ⊢
      have hdispose : Keeps s (if (r.judged b.capture s.classes).verdict = .suspect ∨ r.state = .suspect
          then dispose e n s2 else s2) := by
        split
        · exact hsuspect.trans (keeps_dispose _ _ _)
        · exact hsuspect
      split
      · exact hdispose.trans (keeps_actKind _ _ _ _ _)
      · exact hdispose

theorem keeps_judgeInputs (e n : Nat) (s : State) : Keeps s (judgeInputs e n s) := by
  unfold judgeInputs
  split
  · split
    · exact keeps_formVerdict _ _ s
    · exact .refl s
  · exact .refl s

/-! The clock -/

/-- One millisecond of the entries' pick timers (R82). -/
theorem keeps_mapEntries {f : Entry → Entry} (hf : ∀ x, (f x).id = x.id ∧ (f x).name = x.name ∧
    (f x).bound = x.bound ∧ (f x).path = x.path ∧ (f x).feed = x.feed) (s : State) :
    Keeps s { s with entries := s.entries.map fun p => (p.1, f p.2) } := by
  have htables : TablesOk s → TablesOk { s with entries := s.entries.map fun p => (p.1, f p.2) } :=
    fun ht => ⟨Tab.wf_map ht.1 f, ht.2⟩
  have hback : ∀ e y, Tab.get (s.entries.map fun p => (p.1, f p.2)) e = some y →
      ∃ x, s.entries.get e = some x ∧ y = f x := fun e y hy => by
    rw [Tab.get_map] at hy
    obtain ⟨x, hx, rfl⟩ := Option.map_eq_some_iff.1 hy
    exact ⟨x, hx, rfl⟩
  refine ⟨⟨htables, fun _ hr q hq => ?_, id, fun ⟨h1, h2, h3, h4, hentries, h6⟩ => ⟨h1, h2, h3, h4, fun p hp => ?_, h6⟩,
    fun _ => id, fun ht hg => ?_⟩, fun skip _ _ ⟨⟨h1, h2, h3, h4⟩, hacc⟩ => ⟨⟨fun e y h hy hbd => ?_,
      fun h b e hb hbd => ?_, fun e y hy hidle => ?_, h4⟩, hacc⟩, rfl⟩
  · rw [Tab.get_map, hr q hq]; rfl
  · obtain ⟨q, hq, rfl⟩ := List.mem_map.1 hp
    obtain ⟨hi, hn, -⟩ := hf q.2
    rw [hi, hn]
    exact hentries q hq
  · obtain ⟨h1, h2⟩ := (grantsOk_iff ht).1 hg
    refine (grantsOk_iff (htables ht)).2 ⟨h1, fun e y hy => ?_⟩
    obtain ⟨x, hx, rfl⟩ := hback e y hy
    rw [(hf x).2.2.2.1]
    exact h2 e x hx
  · obtain ⟨x, hx, rfl⟩ := hback e y hy
    exact h1 e x h hx ((hf x).2.2.1 ▸ hbd)
  · obtain ⟨x, hx, hxh⟩ := h2 h b e hb hbd
    exact ⟨f x, by rw [Tab.get_map, hx]; rfl, (hf x).2.2.1.trans hxh⟩
  · obtain ⟨x, hx, rfl⟩ := hback e y hy
    obtain ⟨-, -, hbound, -, hfeed⟩ := hf x
    exact hbound.trans (h3 e x hx (hfeed ▸ hidle))

theorem laneOk_tick {x : Lane} (h : LaneOk x) : LaneOk x.tick := by
  obtain ⟨h1, h2, h3, h4⟩ := h
  refine ⟨by simpa [Lane.tick] using h1, ?_, fun hc => ?_, h4⟩
  · simpa [Lane.tick, Function.comp_def] using h2
  · simp [Lane.tick, h3 hc]

theorem keeps_mapLanes (s : State) : Keeps s { s with lanes := s.lanes.map Lane.tick } := by
  have hback : ∀ x ∈ (s.lanes.map Lane.tick).toList, ∃ y ∈ s.lanes.toList, x = y.tick := fun x hx => by
    obtain ⟨y, hy, rfl⟩ := Vector.mem_map.1 (Vector.mem_toList_iff.1 hx)
    exact ⟨y, Vector.mem_toList_iff.2 hy, rfl⟩
  refine .ofLanes rfl (fun ⟨h1, hlanes, h3⟩ => ⟨h1, fun x hx => ?_, h3⟩) fun _ ⟨hok, hup⟩ => ⟨fun x hx => ?_, hup⟩ <;>
    obtain ⟨y, hy, rfl⟩ := hback x hx
  · exact hlanes y hy
  · exact laneOk_tick (hok y hy)

theorem keeps_tick (s : State) : Keeps s (tick s) := by
  unfold tick
  split
  · exact .refl s
  · have hentries := keeps_mapEntries (f := fun x => { x with timer := x.timer.tick }) (fun _ => ⟨rfl, rfl, rfl, rfl, rfl⟩) s
    have huploads : ∀ t : State, Keeps t { t with uploads := t.uploads.map fun p => (p.1, { p.2 with stall := p.2.stall.tick }) } :=
      fun t => .ofUploads rfl (fun h => Tab.wf_map h fun u : Upload => { u with stall := u.stall.tick }) fun h u hu => by
        obtain ⟨v, hv, rfl⟩ := List.mem_map.1 hu
        exact h v hv
    exact (hentries.trans (huploads _)).trans ((keeps_mapLanes _).trans .outer)

end Sys2Proof.Machine
end

section
/-! The events of links, lanes and timers keep every invariant. -/

set_option Elab.async false

namespace Sys2Proof.Machine

variable {s : State}

/-! Feed links -/

theorem keeps_onEntry {f : Entry → State → State} (e : Nat)
    (hf : ∀ x, s.entries.get e = some x → Keeps s (f x s)) : Keeps s (onEntry e f s) := by
  unfold onEntry
  split
  · next x hx => exact hf x hx
  · exact .refl s

theorem keeps_lineActivity (p : Fin 16) (s : State) : Keeps s (lineActivity p s) := by
  unfold lineActivity
  split
  · exact keeps_modPort _ _ s
  · exact .refl s

theorem keeps_queryExpiry (p : Fin 16) (s : State) : Keeps s (queryExpiry p s) := by
  unfold queryExpiry
  split
  · exact keeps_modPort _ _ s
  · exact .refl s

theorem keeps_refreshFacts (e : Nat) (w : Ident) (s : State) : Keeps s (refreshFacts e w s) :=
  (keeps_modEntry_of_same _ _ s).trans (keeps_settle _ _ _ _)

theorem keeps_identUp {w : Ident} (p : Fin 16) (e : Nat) (hw : Ident.valid w = true) (s : State) :
    Keeps s (identUp p e w s) := by
  unfold identUp
  split
  · exact .refl s
  · split
    · exact keeps_refreshFacts e w s
    · exact (keeps_detach e p s).trans ((keeps_modPort _ _ _).trans (keeps_identify p hw _))

theorem keeps_identTaken {w : Ident} (p : Fin 16) (hw : Ident.valid w = true) (s : State) :
    Keeps s (identTaken p w s) := by
  unfold identTaken
  dsimp only
  split
  · exact (keeps_modPort _ _ s).trans (keeps_identify p hw _)
  · exact (keeps_modPort _ _ s).trans (keeps_identUp p _ hw _)
  · exact keeps_modPort _ _ s

theorem keeps_ident (p : Fin 16) (w : Ident) (s : State) :
    Keeps s (if Ident.valid w then identTaken p w s else takeMalformed p s) := by
  split
  · next hw => exact keeps_identTaken p hw s
  · exact keeps_takeMalformed p s

theorem keeps_silenceTimeout (p : Fin 16) (s : State) :
    Keeps s (if s.ports[p].silence.isSome then portDown p s else s) := by
  split
  · exact keeps_portDown p s
  · exact .refl s

theorem keeps_takeCall (e : Nat) (p : Fin 16) (call : Bool) (s : State) : Keeps s (takeCall e p call s) := by
  have hport : Keeps s (modPort p (fun x => { x with lastCall := call }) s) := keeps_modPort _ _ s
  unfold takeCall
  dsimp only
  split
  · have hcall := hport.trans (keeps_raise .stationCall e _)
    split
    · split
      · exact hcall.trans ((keeps_modEntry_of_same _ _ _).trans (keeps_onQueues _ _ _))
      · exact hcall
    · exact hcall
  · exact hport

theorem keeps_judgeCover (e : Nat) (x : Entry) (s : State) : Keeps s (judgeCover e x s) := by
  unfold judgeCover
  split
  · split
    · split
      · exact .refl s
      · exact keeps_halt _ _ s
    · split
      · exact .refl s
      · exact keeps_halt _ _ s
    · exact keeps_modEntry e (fun _ => ⟨rfl, .inl rfl⟩) fun _ _ => ⟨rfl, le_rfl, nofun⟩
    · exact .refl s
    · exact .refl s
  · exact .refl s

theorem keeps_judgeReverse (e : Nat) (x : Entry) (s : State) : Keeps s (judgeReverse e x s) := by
  unfold judgeReverse
  split
  · exact keeps_halt _ _ s
  · exact .refl s

theorem keeps_judgeJam (e : Nat) (x : Entry) (s : State) : Keeps s (judgeJam e x s) := by
  unfold judgeJam
  split
  · exact keeps_halt _ _ s
  · exact .refl s

theorem keeps_endClearing (e : Nat) (s : State) : Keeps s (endClearing e s) := by
  refine (keeps_emptyPath _ e s).trans (keeps_modEntry e (fun _ => ⟨rfl, .inl rfl⟩) fun x _ => ⟨rfl, le_rfl, fun h => ?_⟩)
  dsimp only at h
  split_ifs at h with hb
  exact .inr (by simpa using hb)

theorem keeps_judgeClearing (e : Nat) (x : Entry) (s : State) : Keeps s (judgeClearing e x s) := by
  unfold judgeClearing
  split
  · exact keeps_endClearing e s
  · exact .refl s

theorem keeps_statusTaken (p : Fin 16) (w : StatusWord) (e : Nat) (s : State) : Keeps s (statusTaken p w e s) := by
  have hview : Keeps s (fillView e w (takeCall e p w.call s)) :=
    (keeps_takeCall _ _ _ s).trans (keeps_modEntry_of_same _ _ _)
  have hstop := hview.trans ((keeps_onEntry e fun x _ => keeps_judgeCover e x _).trans
    (keeps_onEntry e fun x _ => keeps_judgeReverse e x _))
  exact (hstop.trans ((keeps_onEntry e fun x _ => keeps_judgeJam e x _).trans
    (keeps_onEntry e fun x _ => keeps_judgeClearing e x _))).trans (keeps_settle _ _ _ _)

/-! Downstream words -/

theorem keeps_grantLeft (e : Nat) (t : Tag) (s : State) : Keeps s (grantLeft e t s) := by
  unfold grantLeft
  split
  · split
    · exact keeps_modEntry_of_same _ _ s
    · exact .refl s
  · exact .refl s

theorem keeps_uploadLeft (e : Nat) (t : Tag) (sd : Side) (s : State) : Keeps s (uploadLeft e t sd s) := by
  refine keeps_modUpload e s fun u => ?_
  split <;> exact .refl _

theorem keeps_wordLeft (p : Fin 16) (w : DownWord) (s : State) : Keeps s (wordLeft p w s) := by
  unfold wordLeft
  dsimp only
  split
  · split
    · exact keeps_modPort _ _ s
    · exact .refl s
  · split
    · exact .refl s
    · exact keeps_grantLeft _ _ s
  · split
    · exact .refl s
    · exact keeps_uploadLeft _ _ _ s
  · exact .refl s

theorem keeps_wordLeaves (p : Fin 16) (s : State) : Keeps s (wordLeaves p s) := by
  unfold wordLeaves
  dsimp only
  split
  · exact .refl s
  · have hword : Keeps s (match s.ports[p].line with | some w => wordLeft p w s | none => s) := by
      split
      · exact keeps_wordLeft _ _ s
      · exact .refl s
    have hnext : Keeps s (nextWord p (match s.ports[p].line with | some w => wordLeft p w s | none => s)) :=
      hword.trans (keeps_modPort _ _ _)
    split
    · exact hnext.trans (keeps_rejudge _ _)
    · exact hnext

/-! The paper path -/

theorem keeps_edgeDropped (e : Nat) (x : Entry) (s : State) : Keeps s (edgeDropped e x s) := by
  unfold edgeDropped
  split
  · exact keeps_halt _ _ s
  · exact .refl s

theorem keeps_applyGaugeLead (e : Nat) (x : Entry) (n : Nat) (pos : Pos) (s : State) :
    Keeps s (applyGaugeLead e x n pos s) := by
  unfold applyGaugeLead captureGap
  refine (keeps_modPlace e n (fun c => { c with gaugeLead := some pos }) s).trans ?_
  split
  · exact keeps_modSheet n
  · exact .refl _

theorem keeps_applyGaugeTrail (e : Nat) (c : Place) (n : Nat) (pos : Pos) (s : State) :
    Keeps s (applyGaugeTrail e c n pos s) := by
  have hrecord : Keeps s (modSheet c.slot (fun r => { r with length := some n })
      (modEntry e (fun x => { x with lastGaugeTrail := some pos })
        (modPlace e c.slot (fun c => { c with gaugeTrail := some pos }) s))) :=
    (keeps_modPlace _ _ _ s).trans ((keeps_modEntry_of_same _ _ _).trans (keeps_modSheet _))
  unfold applyGaugeTrail
  dsimp only
  split
  · split
    · exact hrecord.trans (keeps_formVerdict _ _ _)
    · exact hrecord.trans (keeps_judgeInputs _ _ _)
  · exact hrecord

theorem keeps_applyExitLead (e : Nat) (c : Place) (s : State) : Keeps s (applyExitLead e c s) := by
  have hplace : Keeps s (modPlace e c.slot (fun c => { c with exitLead := true }) s) := keeps_modPlace _ _ _ s
  unfold applyExitLead
  dsimp only
  split
  · split
    · exact hplace.trans (keeps_formVerdict _ _ _)
    · exact hplace
  · exact hplace

theorem keeps_checkTray (e : Nat) (t : Tray) (s : State) : Keeps s (checkTray e t s) := by
  cases t with
  | output => exact .refl s
  | reject => exact keeps_halt _ _ s

theorem keeps_exitClear {n : Nat} {r : Sheet} (e : Nat) (t : Tray) (hr : s.sheets.get n = some r)
    (hstate : r.state = .inPath) : Keeps s (exitClear e n t s) := by
  refine (keeps_modSheet n (f := fun r => { r with state := .routing }) fun _ q hq => ⟨rfl, rfl, ?_⟩).trans ((keeps_checkTray e t _).trans
    ((keeps_buildEntries n _).trans (keeps_completeIfDone n _)))
  cases hr.symm.trans hq
  simp [hstate]

theorem keeps_exitSuspect (e n : Nat) (t : Tray) (s : State) : Keeps s (exitSuspect e n t s) := by
  cases t with
  | output => exact Keeps.trans (keeps_modSheet n) (keeps_halt _ _ _)
  | reject => exact .refl s

theorem keeps_applyExitTrail (e n : Nat) (t : Tray) (s : State) : Keeps s (applyExitTrail e n t s) := by
  have hleft : Keeps s (leavePath e n (modSheet n (fun r => { r with tray := some t }) s)) :=
    Keeps.trans (keeps_modSheet n) (keeps_leavePath e n _)
  unfold applyExitTrail
  dsimp only
  split
  · exact hleft
  · next r hr =>
    split
    · next hstate => exact hleft.trans (keeps_exitClear e t hr hstate)
    · exact hleft.trans (keeps_exitSuspect _ _ _ _)
    · exact hleft
    · exact hleft
    · exact hleft

theorem keeps_matchEdge (e : Nat) (t : Tag) (k : EdgeKind) (pos : Pos) (x : Entry) (s : State) :
    Keeps s (matchEdge e t k pos x s) := by
  unfold matchEdge
  split
  · exact keeps_edgeDropped _ _ s
  · split
    · exact .refl s
    · exact keeps_modPlace _ _ _ s
    · exact keeps_applyGaugeLead _ _ _ _ s
    · dsimp only
      split
      · exact keeps_applyGaugeTrail _ _ _ _ s
      · exact keeps_edgeDropped _ _ s
    · exact keeps_applyExitLead _ _ s
    · exact keeps_applyExitTrail _ _ _ s

theorem keeps_takePick {e n : Nat} {r : Sheet} {x : Entry} (pos : Pos) (hp : pickingOf s e = some (n, r))
    (hx : s.entries.get e = some x) : Keeps s (takePick e n r x pos s) := by
  have hpicked : Keeps s (onQueues e (Queues.dropGrant r.tag) (modEntry e (Entry.pick n pos)
      (modBatch r.batch Batch.pick
        (modSheet n (fun r => { r with state := .inPath, seq := (s.batches.get r.batch).map (·.nextSeq) }) s)))) :=
    (keeps_pick (f := fun r => { r with state := .inPath, seq := (s.batches.get r.batch).map (·.nextSeq) }) hp hx
      fun _ => ⟨rfl, rfl, rfl⟩).trans (keeps_onQueues _ _ _)
  unfold takePick
  dsimp only
  split
  · exact hpicked.trans (keeps_gainEvidence _ _ _)
  · exact hpicked

theorem keeps_takeEdge {e : Nat} {x : Entry} (t : Tag) (k : EdgeKind) (pos : Pos) (hx : s.entries.get e = some x) :
    Keeps s (takeEdge e t k pos x s) := by
  have hlead : Keeps s (pickLeadTaken e t pos x s) := by
    unfold pickLeadTaken
    split
    · next n r hp =>
      split
      · exact keeps_takePick pos hp hx
      · exact .refl s
    · exact .refl s
  have hmove : Keeps s (match k with
      | .pickLead => pickLeadTaken e t pos x s
      | .pickTrail | .gaugeLead | .gaugeTrail | .exitLead | .exitTrail _ => matchEdge e t k pos x s) := by
    cases k with
    | pickLead => exact hlead
    | _ => exact keeps_matchEdge _ _ _ _ _ s
  unfold takeEdge
  cases x.feed with
  | idle => exact .refl s
  | clearing => exact .refl s
  | _ => exact hmove

theorem keeps_edgeTaken (t : Tag) (k : EdgeKind) (pos : Pos) (e : Nat) (s : State) : Keeps s (edgeTaken t k pos e s) := by
  have hpos : Keeps s (modEntry e (fun x => { x with lastPos := some pos }) s) := keeps_modEntry_of_same _ _ s
  exact (hpos.trans ((keeps_onEntry e fun _ hx => keeps_takeEdge t k pos hx).trans
    (keeps_onEntry e fun x _ => keeps_judgeJam e x _))).trans ((keeps_arbitrate _).trans (keeps_settle _ _ _ _))

theorem keeps_reportTaken (t : Tag) {f : Sheet → Sheet} (hf : ∀ r : Sheet, r.SameHolder (f r)) (e : Nat) (s : State) :
    Keeps s (reportTaken t f e s) := by
  unfold reportTaken
  split
  · exact .refl s
  · exact (keeps_modSheet _ fun _ r _ => hf r).trans ((keeps_judgeInputs _ _ _).trans (keeps_settle _ _ _ _))

theorem keeps_countMisfeed (e : Nat) (x : Entry) (h : Nat) (s : State) : Keeps s (countMisfeed e x h s) := by
  have hcount : Keeps s (modEntry e (fun x => { x with misfeeds := x.misfeeds + 1 })
      (modBatch h (fun b => { b with misfeeds := bump b.misfeeds }) s)) :=
    Keeps.trans (keeps_modBatch h) (keeps_modEntry_of_same _ _ _)
  unfold countMisfeed
  dsimp only
  split
  · split
    · exact hcount.trans (keeps_halt _ _ _)
    · exact hcount
  · exact hcount

theorem keeps_pickExpiry (e : Nat) (x : Entry) (s : State) : Keeps s (pickExpiry e x s) := by
  unfold pickExpiry
  split
  · next n r _ hp =>
    have hfree : Keeps s (modEntry e (fun x => { x with timer := .stopped, traySeenEmpty := false }) (freePicking n s)) := by
      refine (keeps_freePicking fun ht q hq => ?_).trans (keeps_modEntry_of_same _ _ _)
      cases (get_of_pickingOf ht hp).symm.trans hq
      exact (mem_of_pickingOf hp).2.2
    dsimp only
    split
    · exact hfree.trans ((keeps_offerSlot _).trans (keeps_settle _ _ _ _))
    · exact hfree.trans ((keeps_countMisfeed _ _ _ _).trans ((keeps_offerSlot _).trans (keeps_settle _ _ _ _)))
  · exact .refl s

/-! The image path -/

theorem keeps_readyRecord (n : Nat) (r : Sheet) (sd : Side) (s : State) : Keeps s (readyRecord n r sd s) := by
  have hready : Keeps s (markReady n sd s) := keeps_modSheet n
  unfold readyRecord
  split
  · exact .refl s
  · split
    · exact .refl s
    · exact .refl s
    · exact hready
    · exact hready
    · exact (hready.trans (keeps_buildEntries n _)).trans
        ((keeps_completeIfDone n _).trans ((keeps_arbitrate _).trans (keeps_settle _ _ _ _)))

theorem keeps_readyTaken (t : Tag) (sides e : Nat) (s : State) : Keeps s (readyTaken t sides e s) := by
  unfold readyTaken
  split
  · split
    · exact keeps_readyRecord _ _ _ s
    · exact .refl s
  · exact .refl s

theorem keeps_uploadFails (e : Nat) (u : Upload) (s : State) : Keeps s (uploadFails e u s) :=
  (keeps_failUpload e s).trans ((keeps_arbitrate _).trans (keeps_settle _ _ _ _))

theorem keeps_imageStartTaken (t : Tag) (sd : Side) (n e : Nat) (s : State) : Keeps s (imageStartTaken t sd n e s) := by
  unfold imageStartTaken
  split
  · exact .refl s
  · split
    · exact keeps_modUpload e s
    · exact keeps_uploadFails _ _ s

/-- A lane with more in its FIFO and nothing else changed. -/
def Lane.WithMore (n : Nat) (x y : Lane) : Prop :=
  ∃ q : List FifoBlock, y = { x with fifo := q } ∧ q.length ≤ x.fifo.length + n

/-- What copying a block to some destinations leaves: lanes with at most one more block for each time they are named. -/
theorem copyBlocks_spec (u : Upload) (data : List Byte) (l : List (Fin 4 × Role)) (s : State) :
    l.foldl (copyBlock u data) s = { s with lanes := (l.foldl (copyBlock u data) s).lanes } ∧
    ∀ i : Fin 4, Lane.WithMore ((l.map Prod.fst).count i) s.lanes[i] (l.foldl (copyBlock u data) s).lanes[i] := by
  induction l generalizing s with
  | nil => exact ⟨rfl, fun i => ⟨s.lanes[i].fifo, rfl, le_rfl⟩⟩
  | cons d l ih =>
    have hone : copyBlock u data s d = { s with lanes := (copyBlock u data s d).lanes } ∧
        ∀ i : Fin 4, Lane.WithMore (if d.1 = i then 1 else 0) s.lanes[i] (copyBlock u data s d).lanes[i] := by
      unfold copyBlock
      split
      · next n _ =>
        refine ⟨rfl, fun i => ?_⟩
        by_cases hi : d.1 = i
        · subst hi
          exact ⟨s.lanes[d.1].fifo ++ [(n, data)], by simp [modLane], by simp⟩
        · have hne : d.1.val ≠ i.val := fun h => hi (Fin.ext h)
          exact ⟨s.lanes[i].fifo, by simp [modLane, hne], by simp⟩
      · exact ⟨rfl, fun i => ⟨s.lanes[i].fifo, rfl, Nat.le_add_right _ _⟩⟩
    obtain ⟨h1, h2⟩ := hone
    obtain ⟨k1, k2⟩ := ih (copyBlock u data s d)
    refine ⟨k1.trans (congrArg (fun x : State =>
      { x with lanes := (l.foldl (copyBlock u data) (copyBlock u data s d)).lanes }) h1), fun i => ?_⟩
    obtain ⟨q, hq, hlen⟩ := h2 i
    obtain ⟨q', hq', hlen'⟩ := k2 i
    rw [hq] at hq' hlen'
    refine ⟨q', hq', hlen'.trans ?_⟩
    rw [List.map_cons, List.count_cons]
    simp only [beq_iff_eq]
    omega

theorem keeps_copyBlocks {u : Upload} (data : List Byte) (hfull : someFifoFull s u = false)
    (hnodup : LanesOk s → (u.dests.map Prod.fst).Nodup) : Keeps s (u.dests.foldl (copyBlock u data) s) := by
  obtain ⟨hstate, hlanes⟩ := copyBlocks_spec u data u.dests s
  have hmem : ∀ x ∈ (u.dests.foldl (copyBlock u data) s).lanes.toList, ∃ i : Fin 4,
      Lane.WithMore ((u.dests.map Prod.fst).count i) s.lanes[i] x := fun x hx => by
    obtain ⟨i, hi, rfl⟩ := Vector.mem_iff_getElem.1 (Vector.mem_toList_iff.1 hx)
    exact ⟨⟨i, hi⟩, hlanes ⟨i, hi⟩⟩
  have hget : ∀ i : Fin 4, s.lanes[i] ∈ s.lanes.toList := fun i => Vector.mem_toList_iff.2 (Vector.getElem_mem _)
  refine .ofLanes hstate (fun h => ?_) fun _ hok => ?_
  · rw [hstate]
    obtain ⟨hroom, hparams, hrest⟩ := h
    refine ⟨hroom, fun x hx => ?_, hrest⟩
    obtain ⟨i, q, rfl, -⟩ := hmem x hx
    have hi : LaneParamsOk s.lanes[i].params := hparams _ (hget i)
    exact hi
  · rw [hstate]
    refine ⟨fun x hx => ?_, hok.2⟩
    obtain ⟨i, q, rfl, hlen⟩ := hmem x hx
    obtain ⟨h1, h2, h3, h4⟩ := hok.1 _ (hget i)
    refine ⟨h1, h2, h3, hlen.trans ?_⟩
    have hcount : (u.dests.map Prod.fst).count i ≤ 1 := List.nodup_iff_count_le_one.1 (hnodup hok) i
    by_cases hi : i ∈ u.dests.map Prod.fst
    · obtain ⟨d, hd, rfl⟩ := List.mem_map.1 hi
      have := (List.any_eq_false.1 hfull) d hd
      simp only [decide_eq_true_eq, not_le] at this
      omega
    · rw [List.count_eq_zero.2 hi]
      exact h4

theorem keeps_flowAfterBlock (e : Nat) (u : Upload) (s : State) : Keeps s (flowAfterBlock e u s) := by
  unfold flowAfterBlock
  split
  · exact .refl s
  · split
    · exact (keeps_modUpload e s).trans (keeps_onQueues _ _ _)
    · exact keeps_modUpload e s

theorem keeps_blockTaken (data : List Byte) (e : Nat) (s : State) : Keeps s (blockTaken data e s) := by
  unfold blockTaken
  split
  · exact .refl s
  · next u hu =>
    split
    · exact .refl s
    · split
      · exact keeps_uploadFails _ _ s
      · next hroom =>
        rw [not_or] at hroom
        obtain ⟨-, hfull⟩ := hroom
        rw [Bool.not_eq_true] at hfull
        refine (keeps_modUpload e s).trans ((keeps_copyBlocks data ?_ fun hok => ?_).trans (keeps_flowAfterBlock _ _ _))
        · exact hfull
        · have hmem : (e, u.take data) ∈ s.uploads.modify e (Upload.take data) :=
            Tab.mem_of_get (by rw [Tab.get_modify_self, hu]; rfl)
          exact hok.2 _ hmem

theorem keeps_block (p : Fin 16) (data : List Byte) (s : State) :
    Keeps s (if data.length = Config.blockBytes then takeWord p (blockTaken data) s else takeMalformed p s) := by
  split
  · exact keeps_takeWord p (keeps_blockTaken data) s
  · exact keeps_takeMalformed p s

theorem laneOk_mapWindow {x : Lane} {f : WindowEntry → WindowEntry} (hf : ∀ w, (f w).number = w.number) (h : LaneOk x) :
    LaneOk { x with window := x.window.map f } := by
  obtain ⟨h1, h2, h3, h4⟩ := h
  refine ⟨by simpa using h1, ?_, fun hc => by simp [h3 hc], h4⟩
  simpa [Function.comp_def, hf] using h2

theorem keeps_endDest (u : Upload) (k : Check) (d : Fin 4 × Role) (s : State) : Keeps s (endDest u k s d) := by
  unfold endDest
  split
  · exact .refl s
  · exact (keeps_modDelivery _ _ _ _ s).trans ((keeps_modLane _ _ _ fun _ => laneOk_mapWindow fun w => by split <;> rfl).trans
      (keeps_closeDelivery _ _ _))

theorem keeps_imageEndTaken (k : Check) (e : Nat) (s : State) : Keeps s (imageEndTaken k e s) := by
  unfold imageEndTaken
  split
  · exact .refl s
  · split
    · exact .refl s
    · split
      · exact (keeps_endUpload e s).trans ((keeps_foldl _ (fun d _ t => keeps_endDest _ _ d t) _).trans
          ((keeps_arbitrate _).trans (keeps_settle _ _ _ _)))
      · exact keeps_uploadFails _ _ s

theorem keeps_stallExpiry (e : Nat) (s : State) : Keeps s (stallExpiry e s) := by
  unfold stallExpiry
  split
  · split
    · exact keeps_uploadFails _ _ s
    · exact .refl s
  · exact .refl s

/-! Lanes -/

theorem Lane.activity_params (x : Lane) : x.activity.params = x.params := by
  unfold Lane.activity
  split <;> rfl

theorem laneOk_activity {x : Lane} (h : LaneOk x) : LaneOk x.activity := by
  unfold Lane.activity
  split
  · next hd => exact laneOk_of_shrunk h rfl (.refl _) le_rfl fun _ => .inl (by rw [hd]; rfl)
  · exact h

theorem Lane.wellFormed_params (x : Lane) : x.wellFormed.params = x.params := by
  unfold Lane.wellFormed
  (repeat' split) <;> rfl

theorem laneOk_wellFormed {x : Lane} (h : LaneOk x) : LaneOk x.wellFormed := by
  unfold Lane.wellFormed
  split
  · dsimp only
    split
    · next ha =>
      split
      · exact h
      · exact laneOk_of_shrunk h rfl (.refl _) le_rfl nofun
    · exact h
  · exact h

theorem keeps_laneCounted (l : Fin 4) (s : State) : Keeps s (modLane l Lane.wellFormed s) :=
  keeps_modLane l _ s (fun _ => laneOk_wellFormed) (Lane.wellFormed_params _)

theorem keeps_takeLaneWord {k : State → State} (l : Fin 4) (hk : ∀ t, Keeps t (k t)) (s : State) :
    Keeps s (takeLaneWord l k s) := by
  unfold takeLaneWord
  dsimp only
  split
  · exact (keeps_laneCounted l s).trans (hk _)
  · exact (keeps_laneCounted l s).trans (hk _)
  · exact (keeps_laneCounted l s).trans (keeps_arbitrate _)
  · exact .refl s
  · exact .refl s
  · exact .refl s

theorem keeps_laneMalformed (l : Fin 4) (s : State) : Keeps s (laneMalformed l s) := by
  unfold laneMalformed
  dsimp only
  split
  · exact .refl s
  · split
    · exact (keeps_loseLine l s).trans (keeps_arbitrate _)
    · exact keeps_modLane l _ s

theorem keeps_laneSilence (l : Fin 4) (s : State) : Keeps s (laneSilence l s) := by
  unfold laneSilence
  split
  · exact (keeps_loseLine l s).trans (keeps_arbitrate _)
  · exact .refl s

theorem keeps_strayed (l : Fin 4) (s : State) : Keeps s (modLane l Lane.strayed s) := keeps_modLane l _ s

theorem keeps_awaitSecure (l : Fin 4) (w : WindowEntry) (s : State) : Keeps s (awaitSecure l w s) := by
  refine (keeps_modLane l _ s fun _ => laneOk_mapWindow fun v => ?_).trans (keeps_modDelivery _ _ _ _ _)
  split <;> rfl

theorem keeps_endDone (l : Fin 4) (w : WindowEntry) (s : State) : Keeps s (endDone l w s) :=
  (keeps_deliveryDone l w s).trans ((keeps_arbitrate _).trans (keeps_settle _ _ _ _))

theorem keeps_acceptTaken (l : Fin 4) (d : DelivNo) (s : State) : Keeps s (acceptTaken l d s) := by
  unfold acceptTaken
  split
  · exact keeps_strayed l s
  · split
    · exact keeps_endDone _ _ s
    · exact keeps_awaitSecure _ _ s
    · exact keeps_strayed l s

theorem keeps_securedTaken (l : Fin 4) (d : DelivNo) (s : State) : Keeps s (securedTaken l d s) := by
  unfold securedTaken
  split
  · exact keeps_strayed l s
  · split
    · exact keeps_endDone _ _ s
    · exact keeps_strayed l s
    · exact keeps_strayed l s
    · exact keeps_strayed l s

theorem keeps_refuseEntry (l : Fin 4) (w : WindowEntry) (r : RefuseReason) (s : State) :
    Keeps s (refuseEntry l w r s) := by
  have hlane : Keeps s (modDelivery w.slot w.side w.role Delivery.back (modLane l (Lane.refuse w.number r) s)) :=
    (keeps_modLane l (Lane.refuse w.number r) s (fun _ h => laneOk_settleSuspend
      (laneOk_of_shrunk h rfl List.filter_sublist (List.length_filter_le _ _) .inl))
      (Lane.settleSuspend_params _)).trans (keeps_modDelivery _ _ _ _ _)
  have hdest : Keeps s (if w.phase = .transmitting then
      loseDest l (modDelivery w.slot w.side w.role Delivery.back (modLane l (Lane.refuse w.number r) s))
      else modDelivery w.slot w.side w.role Delivery.back (modLane l (Lane.refuse w.number r) s)) := by
    split
    · exact hlane.trans (keeps_loseDest _ _)
    · exact hlane
  cases r with
  | check => exact hdest.trans (keeps_countFailure _ _)
  | format => exact hdest.trans (keeps_countFailure _ _)
  | full => exact hdest.trans (keeps_raise _ _ _)

theorem keeps_refuseTaken (l : Fin 4) (d : DelivNo) (r : RefuseReason) (s : State) : Keeps s (refuseTaken l d r s) := by
  unfold refuseTaken
  split
  · exact keeps_strayed l s
  · exact (keeps_refuseEntry _ _ _ s).trans ((keeps_arbitrate _).trans (keeps_settle _ _ _ _))

theorem keeps_takeAnswer {k : State → State} (l : Fin 4) (hk : ∀ t, Keeps t (k t)) (s : State) :
    Keeps s (takeAnswer l k s) := by
  unfold takeAnswer
  split
  · exact keeps_takeLaneWord l hk s
  · exact keeps_takeLaneWord l hk s
  · exact keeps_takeLaneWord l hk s
  · exact (keeps_strayed l s).trans (keeps_takeLaneWord l .refl _)
  · exact keeps_strayed l s
  · exact keeps_strayed l s

theorem keeps_deliveryExpiry (l : Fin 4) (d : DelivNo) (ph : WindowPhase) (s : State) :
    Keeps s (deliveryExpiry l d ph s) := by
  unfold deliveryExpiry
  split
  · exact .refl s
  · split
    · exact (keeps_failLane l s).trans (keeps_arbitrate _)
    · exact .refl s

theorem Lane.popBlock_params (d : DelivNo) (x : Lane) : (x.popBlock d).params = x.params := by
  unfold Lane.popBlock
  (repeat' split) <;> rfl

theorem laneOk_popBlock {x : Lane} (d : DelivNo) (h : LaneOk x) : LaneOk (x.popBlock d) := by
  unfold Lane.popBlock
  split
  · exact h
  · next b q hq =>
    split
    · exact laneOk_of_shrunk h rfl (.refl _) (by rw [hq]; exact Nat.le_succ _) .inl
    · exact h

theorem keeps_blockLeft (l : Fin 4) (d : DelivNo) (s : State) : Keeps s (blockLeft l d s) := by
  have hpop : Keeps s (modLane l (Lane.popBlock d) s) :=
    keeps_modLane l _ s (fun _ => laneOk_popBlock d) (Lane.popBlock_params _ _)
  have hflow : Keeps s (match uploaderOf (modLane l (Lane.popBlock d) s) l with
      | some e => judgeGo e (modLane l (Lane.popBlock d) s)
      | none => modLane l (Lane.popBlock d) s) := by
    split
    · exact hpop.trans (keeps_judgeGo _ _)
    · exact hpop
  unfold blockLeft
  dsimp only
  split
  · exact hflow.trans (keeps_arbitrate _)
  · exact hflow.trans ((keeps_closeDelivery _ _ _).trans ((keeps_arbitrate _).trans (keeps_settle _ _ _ _)))

theorem keeps_laneWordLeft (l : Fin 4) (w : LaneLine) (s : State) : Keeps s (laneWordLeft l w s) := by
  unfold laneWordLeft
  split
  · exact keeps_modLane l _ s fun _ => laneOk_mapWindow fun w => by split <;> rfl
  · exact keeps_blockLeft _ _ s
  · exact keeps_blockLeft _ _ s
  · exact .refl s
  · exact .refl s
  · exact .refl s
  · exact .refl s

theorem Lane.nextWord_eq (x : Lane) : x.nextWord = { x with line := x.nextWord.line, ctrl := x.nextWord.ctrl } := by
  unfold Lane.nextWord
  split <;> rfl

theorem keeps_laneLeaves (l : Fin 4) (s : State) : Keeps s (laneLeaves l s) := by
  unfold laneLeaves
  split
  · exact .refl s
  · refine (keeps_laneWordLeft _ _ s).trans (keeps_modLane l _ _ (fun _ h => ?_) ?_) <;> rw [Lane.nextWord_eq]
    exact h

end Sys2Proof.Machine
end

section
/-! The requests on batches, stations, sheets, tables and lanes keep every invariant, ABORT apart. -/

set_option Elab.async false

namespace Sys2Proof.Machine

variable {s : State}

/-- An answer leaves a state in which every invariant of `s` is kept. -/
def AnswerKeeps (s : State) : Answer → Prop
  | .refuse _ => True
  | .done t _ => Keeps s t

theorem answerKeeps_refuse (r : Result) : AnswerKeeps s (.refuse r) := trivial

theorem answerKeeps_read (d : ReplyData) : AnswerKeeps s (.done s d) := Keeps.refl s

theorem get_of_batchAt {h : Nat} {b : Batch} (hb : batchAt s h = some b) : h < 48 ∧ s.batches.get h = some b := by
  unfold batchAt at hb
  split at hb
  · next hh => exact ⟨hh, hb⟩
  · cases hb

theorem get_of_entryAt {e : Nat} {x : Entry} (hx : entryAt s e = some x) : e < 24 ∧ s.entries.get e = some x := by
  unfold entryAt at hx
  split at hx
  · next he => exact ⟨he, hx⟩
  · cases hx

theorem answerKeeps_withBatch {h : Nat} {k : Batch → Answer}
    (hk : ∀ b, s.batches.get h = some b → AnswerKeeps s (k b)) : AnswerKeeps s (withBatch h s k) := by
  unfold withBatch
  split
  · exact answerKeeps_refuse _
  · next b hb => exact hk b (get_of_batchAt hb).2

theorem answerKeeps_withEntry {e : Nat} {k : Entry → Answer}
    (hk : ∀ x, e < 24 → s.entries.get e = some x → AnswerKeeps s (k x)) : AnswerKeeps s (withEntry e s k) := by
  unfold withEntry
  split
  · exact answerKeeps_refuse _
  · next x hx => exact hk x (get_of_entryAt hx).1 (get_of_entryAt hx).2

theorem answerKeeps_withLane {n : Nat} {k : Fin 4 → Answer} (hk : ∀ l, AnswerKeeps s (k l)) :
    AnswerKeeps s (withLane n k) := by
  unfold withLane
  split
  · exact answerKeeps_refuse _
  · exact hk _

/-- An owner that answers where a condition holds, and refuses elsewhere. -/
theorem answerKeeps_ite {p : Prop} [Decidable p] {a : Answer} (r : Result) (ha : p → AnswerKeeps s a) :
    AnswerKeeps s (if p then a else .refuse r) := by
  split
  · next hp => exact ha hp
  · exact answerKeeps_refuse r

/-! The Command Port's own requests -/

theorem keeps_ownReadAttention (k : KeyArgs) (s : State) : AnswerKeeps s (ownReadAttention k s) := by
  unfold ownReadAttention
  split
  · exact answerKeeps_refuse _
  · exact answerKeeps_read _

theorem keeps_ownClearAttention (k : KeyArgs) (s : State) : AnswerKeeps s (ownClearAttention k s) := by
  unfold ownClearAttention
  split
  · exact answerKeeps_refuse _
  · exact keeps_dropAttention _ s

theorem keeps_ownSetAttentionMask (n : Nat) (s : State) : AnswerKeeps s (ownSetAttentionMask n s) := by
  unfold ownSetAttentionMask
  split
  · exact answerKeeps_refuse _
  · exact Keeps.outer

theorem optOk_getD {q : Nat → Bool} {o : Option Nat} {d : Nat} (ho : optOk q o = true) (hd : q d = true) :
    q (o.getD d) = true := by
  cases o with
  | none => exact hd
  | some v => exact ho

theorem roomOk_set {a : RoomArgs} {r : RoomParams} (ha : roomArgsOk a = true) (hr : RoomOk r) : RoomOk (r.set a) := by
  simp only [roomArgsOk, Bool.and_eq_true] at ha
  obtain ⟨⟨⟨⟨-, h1⟩, h2⟩, h3⟩, h4⟩ := ha
  obtain ⟨k1, k2, k3, k4⟩ := hr
  exact ⟨optOk_getD h1 k1, optOk_getD h2 k2, optOk_getD h3 k3, optOk_getD h4 k4⟩

theorem keeps_ownSetRoom (a : RoomArgs) (s : State) : AnswerKeeps s (ownSetRoom a s) := by
  refine answerKeeps_ite _ fun ha => ?_
  have hroom : Keeps s { s with room := s.room.set a } := .outer rfl fun ⟨h1, h⟩ => ⟨roomOk_set ha h1, h⟩
  exact hroom.trans (keeps_rejudgeAll _ _ _)

/-! Stations -/

theorem keeps_ownNameStation (a : NameArgs) (s : State) : AnswerKeeps s (ownNameStation a s) :=
  answerKeeps_ite _ fun ha => answerKeeps_withEntry fun _ _ _ =>
    keeps_modEntry a.index (fun _ => ⟨rfl, .inr ha⟩) fun _ _ => ⟨rfl, le_rfl, .inl⟩

theorem keeps_requeryAll (i : StationId) (s : State) : Keeps s (requeryAll i s) := .outer

theorem keeps_forgetEntry {e : Nat} {x : Entry} (he : e < 24) (hx : s.entries.get e = some x) (hb : x.bound = none) :
    Keeps s (forgetEntry e x s) := by
  have hdel : Keeps s { s with entries := s.entries.del e } := keeps_delEntry fun y hy => by
    cases hx.symm.trans hy
    exact hb
  refine Keeps.trans (Keeps.trans hdel .outer) ((keeps_dropAttention (namesStation e) _).trans
    ((keeps_reserveEntry (fun _ => he) fun _ _ => ?_).trans (keeps_requeryAll x.id _)))
  exact Tab.get_del_self _ _

theorem keeps_ownForgetStation (e : Nat) (s : State) : AnswerKeeps s (ownForgetStation e s) := by
  refine answerKeeps_withEntry fun x he hx => ?_
  split
  · exact answerKeeps_refuse _
  · next hc =>
    simp only [Bool.or_eq_true, not_or, Option.isSome_iff_ne_none, ne_eq, not_not] at hc
    exact keeps_forgetEntry he hx hc.1.2

theorem keeps_ownIdentify (a : IdentifyArgs) (s : State) : AnswerKeeps s (ownIdentify a s) :=
  answerKeeps_ite _ fun _ =>
    keeps_foldl _ (fun _ _ t => (keeps_modEntry_of_same _ _ t).trans (keeps_onQueues _ _ _)) s

theorem keeps_ownHold (on : Bool) (a : StationId) (s : State) : AnswerKeeps s (ownHold on a s) :=
  answerKeeps_ite _ fun _ => (keeps_foldl _ (fun _ _ t => keeps_modEntry_of_same _ _ t) s).trans (keeps_rejudgeAll _ _ _)

theorem keeps_ownResetPort (n : Nat) (s : State) : AnswerKeeps s (ownResetPort n s) := by
  unfold ownResetPort
  split
  · exact keeps_portDown _ s
  · exact answerKeeps_refuse _

/-! Feed states -/

theorem keeps_feed (e : Nat) (f : Entry → Entry) (s : State) (hf : ∀ x, (f x).id = x.id ∧ (f x).name = x.name ∧
    (f x).bound = x.bound ∧ (f x).path = x.path ∧ (f x).feed ≠ .idle := by
      exact fun _ => ⟨rfl, rfl, rfl, rfl, nofun⟩) : Keeps s (modEntry e f s) := by
  refine keeps_modEntry e (fun x => ?_) fun x _ => ?_ <;> obtain ⟨hi, hn, hb, hp, hfd⟩ := hf x
  · exact ⟨hi, .inl hn⟩
  · exact ⟨hb, by rw [hp], fun h => absurd h hfd⟩

theorem keeps_ownStart (e : Nat) (s : State) : AnswerKeeps s (ownStart e s) := by
  refine answerKeeps_withEntry fun x _ _ => ?_
  split
  · exact (keeps_feed _ _ s).trans (keeps_settle _ _ _ _)
  · exact answerKeeps_read _
  · exact answerKeeps_refuse _
  · exact answerKeeps_refuse _
  · exact answerKeeps_refuse _

theorem keeps_ownStandby (e : Nat) (s : State) : AnswerKeeps s (ownStandby e s) := by
  refine answerKeeps_withEntry fun x _ _ => ?_
  split
  · exact (keeps_feed _ _ s).trans (keeps_settle _ _ _ _)
  · exact answerKeeps_read _
  · exact answerKeeps_refuse _
  · exact answerKeeps_refuse _
  · exact answerKeeps_refuse _

theorem keeps_ownHaltStation (e : Nat) (s : State) : AnswerKeeps s (ownHaltStation e s) := by
  refine answerKeeps_withEntry fun x _ _ => ?_
  split
  · exact (keeps_halt _ _ s).trans (keeps_settle _ _ _ _)
  · exact (keeps_halt _ _ s).trans (keeps_settle _ _ _ _)
  · exact answerKeeps_read _
  · exact answerKeeps_read _
  · exact answerKeeps_refuse _

theorem keeps_runOut (e : Nat) (x : Entry) (s : State) : Keeps s (runOut e x s) := by
  exact (keeps_foldl _ (fun p _ t => keeps_orderDivert e p.1 p.2 t) s).trans
    (((keeps_onQueues e Queues.addResume _).trans (keeps_feed _ _ _)).trans (keeps_settle _ _ _ _))

theorem entries_onQueues (e : Nat) (f : Queues → Queues) (s : State) : (onQueues e f s).entries = s.entries := by
  unfold onQueues
  split <;> rfl

theorem keeps_runOutUnbound {e : Nat} {x : Entry} (hx : s.entries.get e = some x) (hb : x.bound = none) :
    Keeps s (runOutUnbound e s) := by
  refine (keeps_onQueues e Queues.addResume s).trans ((keeps_modEntry e
    (f := fun x => { x with feed := .idle, cause := none, misfeeds := 0 }) (fun _ => ⟨rfl, .inl rfl⟩) fun y hy => ?_).trans
    (keeps_settle _ _ _ _))
  rw [entries_onQueues] at hy
  cases hx.symm.trans hy
  exact ⟨rfl, le_rfl, fun _ => .inr hb⟩

theorem keeps_ownResume (e : Nat) (s : State) : AnswerKeeps s (ownResume e s) := by
  refine answerKeeps_withEntry fun x _ hx => answerKeeps_ite _ fun _ => ?_
  split
  · exact keeps_runOut e x s
  · next hb => exact keeps_runOutUnbound hx (by simpa using hb)

/-! Batches -/

theorem Batch.accounts_openedBatch (a : OpenArgs) : (openedBatch a).bound = none ∧
    (openedBatch a).fed = (openedBatch a).completed + (openedBatch a).discarded + (openedBatch a).rescanned +
      (openedBatch a).live ∧ (openedBatch a).live = 0 ∧ (openedBatch a).picking = 0 := ⟨rfl, rfl, rfl, rfl⟩

theorem keeps_ownOpenBatch (a : OpenArgs) (s : State) : AnswerKeeps s (ownOpenBatch a s) := by
  unfold ownOpenBatch
  split
  · exact answerKeeps_refuse _
  · split
    · exact answerKeeps_refuse _
    · split
      · exact answerKeeps_refuse _
      · split
        · exact answerKeeps_refuse _
        · next h hfree =>
          obtain ⟨hh, hnone⟩ := Tab.firstFree_spec hfree
          obtain ⟨hbound, hfed, hlive, hpick⟩ := Batch.accounts_openedBatch a
          exact keeps_putBatch hh hnone hbound hfed hlive hpick

theorem keeps_ownFindBatch (l : Text) (s : State) : AnswerKeeps s (ownFindBatch l s) := by
  refine answerKeeps_ite _ fun _ => ?_
  split
  · exact answerKeeps_read _
  · exact answerKeeps_refuse _

theorem Batch.sameAccounts_amend (a : AmendNowArgs) (b : Batch) : b.SameAccounts ((b.amendFields a).amendTarget a) := by
  unfold Batch.amendTarget
  split <;> exact .rfl

theorem keeps_ownAmendNow (a : AmendNowArgs) (s : State) : AnswerKeeps s (ownAmendNow a s) := by
  refine answerKeeps_ite _ fun _ => answerKeeps_withBatch fun b _ => ?_
  split
  · exact answerKeeps_refuse _
  · split
    · exact answerKeeps_refuse _
    · split
      · exact answerKeeps_refuse _
      · exact (keeps_modBatch a.handle fun b _ => b.sameAccounts_amend a).trans (keeps_settle _ _ _ _)

theorem keeps_ownAmendLater (a : AmendLaterArgs) (s : State) : AnswerKeeps s (ownAmendLater a s) := by
  refine answerKeeps_ite _ fun _ => answerKeeps_withBatch fun b _ => ?_
  split
  · exact answerKeeps_refuse _
  · split
    · exact answerKeeps_refuse _
    · exact keeps_modBatch a.handle (s := s)

theorem keeps_ownBind (a : BindArgs) (s : State) : AnswerKeeps s (ownBind a s) := by
  refine answerKeeps_withBatch fun b hb => answerKeeps_withEntry fun x _ hx => answerKeeps_ite _ fun hc => ?_
  obtain ⟨hopen, hbound, hidle⟩ := hc
  refine (keeps_join (f := fun x => { x with bound := some a.handle, feed := .ready, misfeeds := 0 }) hb hbound
    (by rw [hopen]; decide) hx hidle fun _ => ?_).trans (keeps_settle _ _ _ _)
  exact ⟨rfl, rfl, rfl, rfl, nofun⟩

theorem keeps_ownUnbind (h : Nat) (s : State) : AnswerKeeps s (ownUnbind h s) := by
  refine answerKeeps_withBatch fun b hb => ?_
  split
  · next e _ hbe =>
    split
    · split
      · exact (keeps_unbindPair hb hbe).trans (keeps_settle _ _ _ _)
      · exact answerKeeps_refuse _
    · exact answerKeeps_refuse _
  · exact answerKeeps_refuse _

theorem keeps_ownPause (on : Bool) (h : Nat) (s : State) : AnswerKeeps s (ownPause on h s) :=
  answerKeeps_withBatch fun _ _ => answerKeeps_ite _ fun _ => Keeps.trans (keeps_modBatch h) (keeps_settle _ _ _ _)

theorem keeps_ownCheckpoint (h : Nat) (s : State) : AnswerKeeps s (ownCheckpoint h s) :=
  answerKeeps_withBatch fun _ _ => answerKeeps_ite _ fun _ => Keeps.trans (keeps_modBatch h) (keeps_settle _ _ _ _)

theorem keeps_ownClose (h : Nat) (s : State) : AnswerKeeps s (ownClose h s) := by
  refine answerKeeps_withBatch fun b hb => answerKeeps_ite _ fun hopen => ?_
  refine (keeps_modBatch h (f := Batch.toClosing) fun c hc => ?_).trans (keeps_settle _ _ _ _)
  cases hb.symm.trans hc
  exact ⟨rfl, rfl, rfl, rfl, rfl, rfl, rfl, by simp [Batch.toClosing, hopen]⟩

theorem keeps_ownRetire (h : Nat) (s : State) : AnswerKeeps s (ownRetire h s) := by
  refine answerKeeps_withBatch fun b hb => answerKeeps_ite _ fun hclosed => ?_
  refine (keeps_delBatch fun c hc => ?_).trans (keeps_dropAttention _ _)
  cases hb.symm.trans hc
  exact hclosed

/-! Sheets -/

theorem keeps_ownFindSheet (x : Serial) (s : State) : AnswerKeeps s (ownFindSheet x s) := by
  unfold ownFindSheet
  split
  · exact answerKeeps_refuse _
  · split
    · exact answerKeeps_read _
    · exact answerKeeps_refuse _

theorem keeps_ownReadSheet (a : SheetRef) (s : State) : AnswerKeeps s (ownReadSheet a s) := by
  unfold ownReadSheet
  split
  · split
    · exact answerKeeps_refuse _
    · split
      · exact answerKeeps_read _
      · exact answerKeeps_refuse _
  · split
    · exact answerKeeps_refuse _
    · split
      · exact answerKeeps_read _
      · exact answerKeeps_refuse _

theorem keeps_ownListSuspects (a : ListArgs) (s : State) : AnswerKeeps s (ownListSuspects a s) := by
  unfold ownListSuspects
  split
  · exact answerKeeps_refuse _
  · exact answerKeeps_withBatch fun _ _ => answerKeeps_read _

theorem mem_of_serialAt {x : Serial} {n : Nat} {r : Sheet} (h : serialAt s x = some (n, r)) :
    (n, r) ∈ s.sheets ∧ r.batch = x.batch ∧ r.seq = some x.seq := by
  unfold serialAt at h
  split at h
  · obtain ⟨hm, hq⟩ := Tab.find_spec h
    simp only [Bool.and_eq_true, decide_eq_true_eq] at hq
    exact ⟨hm, hq⟩
  · cases h

/-- A record that may be resolved is past PICKING. -/
theorem state_of_mayResolve {o : Resolution} {n : Nat} {r : Sheet} (h : mayResolve s o n r = true) :
    r.state ≠ .picking := by
  simp only [mayResolve, Sheet.isOpenSuspect, Bool.and_eq_true, Bool.or_eq_true, decide_eq_true_eq] at h
  obtain ⟨-, (h | h) | ⟨⟨-, h⟩, -⟩⟩ := h <;> rw [h] <;> decide

theorem keeps_afterResolve (n : Nat) (r : Sheet) (start : Nat) (s : State) : Keeps s (afterResolve n r start s) :=
  ((keeps_buildEntries n s).trans (keeps_completeIfDone n _)).trans ((keeps_arbitrate _).trans (keeps_settle _ _ _ _))

theorem keeps_toRouting {n : Nat} {r : Sheet} {f : Sheet → Sheet} (hm : (n, r) ∈ s.sheets) (hstate : r.state ≠ .picking)
    (hf : ∀ q : Sheet, (f q).batch = q.batch ∧ (f q).station = q.station ∧ (f q).state = q.state) :
    Keeps s (toRouting n r f s) := by
  refine (keeps_modSheet n (f := fun r => f { r with state := .routing }) fun ht q hq => ?_).trans (keeps_modBatch _)
  cases (Tab.get_of_mem (sheetsWf ht) hm).symm.trans hq
  obtain ⟨hb, hst, hs⟩ := hf { r with state := .routing }
  refine ⟨hb, hst, ?_⟩
  rw [hs]
  simp [hstate]

theorem portPart_of_fixed {t : State} (h : fixed t = fixed s) : portPart t = portPart s := by
  simp only [fixed, portPart, Prod.mk.injEq] at h ⊢
  obtain ⟨hq, hr, hl, -, hcp, -, -, -, hs, -⟩ := h
  exact ⟨hq, hr, hl, hcp, hs⟩

/-- Without canonical tables the accounts ask nothing. -/
theorem Keeps.of_shape {t : State} (h : KeepsShape s t) (ht : ¬ TablesOk s) (hp : portPart t = portPart s) : Keeps s t :=
  ⟨h, fun _ h => absurd h ht, hp⟩

theorem keepsShape_removeRecord (n : Nat) (due : Option ReleaseOutcome) (s : State) :
    KeepsShape s (removeRecord n due s) := by
  cases hr : s.sheets.get n with
  | none =>
    unfold removeRecord
    rw [hr]
    exact .refl s
  | some r =>
    rw [removeRecord_of_get hr]
    exact (keepsShape_delSheet n s).trans ((keepsShape_modBatch _ _ _).trans (keeps_afterRemoval _ _ _).toKeepsShape)

theorem keeps_endSheet {n : Nat} {r : Sheet} {f : Batch → Batch} (hm : (n, r) ∈ s.sheets) (hstate : r.state ≠ .picking)
    (hf : Batch.CountsOne f) : Keeps s (endSheet n r f s) := by
  refine Keeps.trans ?_ ((keeps_offerSlot _).trans (keeps_settle _ _ _ _))
  by_cases ht : TablesOk s
  · exact keeps_removeRecord (Tab.get_of_mem (sheetsWf ht) hm) (fun _ => hstate) hf _
  · exact .of_shape ((keepsShape_modBatch _ _ _).trans (keepsShape_removeRecord _ _ _)) ht
      (portPart_of_fixed (fixed_removeRecord _ _ _))

theorem keeps_resolve {o : Resolution} {act : Nat → Sheet → State → State} (x : Serial) (s : State)
    (hact : ∀ n r, (n, r) ∈ s.sheets → r.state ≠ .picking → Keeps s (act n r s)) : AnswerKeeps s (resolve o act x s) := by
  unfold resolve
  split
  · exact answerKeeps_refuse _
  · split
    · exact answerKeeps_refuse _
    · next n r hr =>
      refine answerKeeps_ite _ fun hc => ?_
      rw [Bool.and_eq_true] at hc
      exact hact n r (mem_of_serialAt hr).1 (state_of_mayResolve hc.1)

theorem Sheet.accepted_holder (r : Sheet) : r.accepted.batch = r.batch ∧ r.accepted.station = r.station ∧
    r.accepted.state = r.state := by
  unfold Sheet.accepted
  split <;> exact ⟨rfl, rfl, rfl⟩

theorem keeps_resolveAccept (x : Serial) (s : State) : AnswerKeeps s (resolve .accept acceptSheet x s) :=
  keeps_resolve x s fun _ _ hm hstate => (keeps_toRouting hm hstate Sheet.accepted_holder).trans (keeps_afterResolve _ _ _ _)

theorem keeps_resolveRetry (x : Serial) (s : State) : AnswerKeeps s (resolve .retry retrySheet x s) := by
  refine keeps_resolve x s fun n r hm hstate => (keeps_toRouting hm hstate ?_).trans (keeps_afterResolve _ _ _ _)
  exact fun _ => ⟨rfl, rfl, rfl⟩

theorem countsOne_rescanned : Batch.CountsOne fun b => { b with rescanned := b.rescanned + 1 } :=
  fun b => ⟨rfl, by dsimp only; omega, rfl, rfl, rfl, rfl⟩

theorem countsOne_discarded : Batch.CountsOne fun b => { b with discarded := b.discarded + 1 } :=
  fun b => ⟨rfl, by dsimp only; omega, rfl, rfl, rfl, rfl⟩

theorem keeps_resolveRescan (x : Serial) (s : State) : AnswerKeeps s (resolve .rescan
    (fun n r => endSheet n r fun b => { b with rescanned := b.rescanned + 1 }) x s) :=
  keeps_resolve x s fun _ _ hm hstate => keeps_endSheet hm hstate countsOne_rescanned

theorem keeps_resolveDiscard (x : Serial) (s : State) : AnswerKeeps s (resolve .discard
    (fun n r => endSheet n r fun b => { b with discarded := b.discarded + 1 }) x s) :=
  keeps_resolve x s fun _ _ hm hstate => keeps_endSheet hm hstate countsOne_discarded

/-! Tables -/

theorem keeps_ownSetClass (a : ClassArgs) (s : State) : AnswerKeeps s (ownSetClass a s) := by
  unfold ownSetClass
  split
  · exact answerKeeps_refuse _
  · split
    · exact answerKeeps_refuse _
    · next hcat =>
      split
      · next hi =>
        refine Keeps.outer rfl fun ⟨h1, h2, hclasses, h4⟩ => ⟨h1, h2, fun k hk => ?_, h4⟩
        rcases Vector.mem_or_eq_of_mem_set (hi := hi) (Vector.mem_toList_iff.1 hk) with hk | rfl
        · exact hclasses k (Vector.mem_toList_iff.2 hk)
        · exact Nat.le_of_not_lt hcat
      · exact answerKeeps_refuse _

theorem keeps_ownReadPlan (n : Nat) (s : State) : AnswerKeeps s (ownReadPlan n s) := by
  unfold ownReadPlan
  split
  · exact answerKeeps_read _
  · exact answerKeeps_refuse _

theorem rowOk_of_rowOf {w : RowArgs} {r : Row} (h : rowOf w = some r) : rowOk r = true := by
  unfold rowOf at h
  split at h
  · dsimp only at h
    split at h
    · next hr => cases h; exact hr
    · cases h
  · cases h

theorem rowOk_of_rowsOf {l : List RowArgs} {v : Vector Row 8} (h : rowsOf l = some v) :
    ∀ w ∈ v.toList, rowOk w = true := by
  unfold rowsOf at h
  split at h
  · split at h
    · next h1 h2 h3 h4 h5 h6 h7 h8 =>
      cases h
      simp [rowOk_of_rowOf h1, rowOk_of_rowOf h2, rowOk_of_rowOf h3, rowOk_of_rowOf h4, rowOk_of_rowOf h5,
        rowOk_of_rowOf h6, rowOk_of_rowOf h7, rowOk_of_rowOf h8]
    · cases h
  · cases h

theorem keeps_ownSetPlan (a : PlanArgs) (s : State) : AnswerKeeps s (ownSetPlan a s) := by
  refine answerKeeps_ite _ fun hname => ?_
  split
  · exact answerKeeps_refuse _
  · next rows hrows =>
    split
    · split
      · exact answerKeeps_refuse _
      · exact keeps_modPlan _ _ s fun _ _ => ⟨hname, rowOk_of_rowsOf hrows⟩
    · exact answerKeeps_refuse _

/-! Lanes -/

theorem laneParamsOk_set {a : LaneArgs} {p : LaneParams} (ha : laneArgsOk a = true) (hp : LaneParamsOk p) :
    LaneParamsOk (p.set a) := by
  simp only [laneArgsOk, Bool.and_eq_true] at ha
  obtain ⟨⟨⟨⟨⟨⟨-, h1⟩, h2⟩, h3⟩, h4⟩, h5⟩, h6⟩ := ha
  obtain ⟨k1, k2, k3, k4, k5, k6⟩ := hp
  exact ⟨optOk_getD h1 k1, optOk_getD h2 k2, optOk_getD h3 k3, optOk_getD h4 k4, optOk_getD h5 k5, optOk_getD h6 k6⟩

/-- Parameters that a lane's state does not bar leave its window within its size (R157). -/
theorem laneOk_setParams {a : LaneArgs} {x : Lane} (hbar : laneArgsBarred a x = false) (h : LaneOk x) :
    LaneOk { x with params := x.params.set a } := by
  obtain ⟨h1, h2, h3, h4⟩ := h
  refine ⟨?_, h2, h3, h4⟩
  simp only [laneArgsBarred, Bool.or_eq_false_iff, Bool.and_eq_false_iff, decide_eq_false_iff_not] at hbar
  obtain ⟨hup, hloop⟩ := hbar
  change x.window.length ≤ a.window.getD x.params.window
  cases ha : a.window with
  | none => exact h1
  | some n =>
    rcases hloop with hloop | hsmall
    · have hcarries : x.state.carries = false := by
        cases hx : x.state <;> simp_all [LaneState.carries]
      rw [h3 hcarries]
      exact Nat.zero_le _
    · simpa [windowTooSmall, ha] using hsmall

theorem keeps_setParams {a : LaneArgs} {l : Fin 4} (ha : laneArgsOk a = true)
    (hbar : laneArgsBarred a s.lanes[l] = false) :
    Keeps s (modLane l (fun x => { x with params := x.params.set a }) s) := by
  have hmem : s.lanes[l] ∈ s.lanes.toList := Vector.mem_toList_iff.2 (Vector.getElem_mem _)
  refine .ofLanes rfl (fun ⟨hroom, hlanes, hrest⟩ => ⟨hroom, fun x hx => ?_, hrest⟩)
    fun _ ⟨hok, hup⟩ => ⟨fun x hx => ?_, hup⟩ <;>
  rcases Vector.mem_or_eq_of_mem_set (hi := l.isLt) (Vector.mem_toList_iff.1 hx) with hx | rfl
  · exact hlanes x (Vector.mem_toList_iff.2 hx)
  · exact laneParamsOk_set ha (hlanes _ hmem)
  · exact hok x (Vector.mem_toList_iff.2 hx)
  · exact laneOk_setParams hbar (hok _ hmem)

theorem keeps_ownSetLane (a : LaneArgs) (s : State) : AnswerKeeps s (ownSetLane a s) := by
  refine answerKeeps_ite _ fun ha => answerKeeps_withLane fun l => ?_
  split
  · exact answerKeeps_refuse _
  · next hbar => exact (keeps_setParams ha (by simpa using hbar)).trans (keeps_arbitrate _)

theorem keeps_ownSuspendLane (n : Nat) (s : State) : AnswerKeeps s (ownSuspendLane n s) := by
  have hsuspend : ∀ l, Keeps s (modLane l Lane.suspend s) := fun l =>
    keeps_modLane l _ s (fun _ h => laneOk_settleSuspend h) (Lane.settleSuspend_params _)
  refine answerKeeps_withLane fun l => ?_
  split
  · exact hsuspend l
  · exact hsuspend l
  · exact answerKeeps_read _
  · exact answerKeeps_refuse _
  · exact answerKeeps_refuse _
  · exact answerKeeps_refuse _

theorem Lane.resume_params (x : Lane) : x.resume.params = x.params := by
  unfold Lane.resume
  split <;> rfl

theorem laneOk_resume {x : Lane} (h : LaneOk x) : LaneOk x.resume := by
  unfold Lane.resume
  split
  · exact laneOk_of_shrunk h rfl (.refl _) le_rfl nofun
  · exact h

theorem keeps_ownResumeLane (n : Nat) (s : State) : AnswerKeeps s (ownResumeLane n s) :=
  answerKeeps_withLane fun l => answerKeeps_ite _ fun _ =>
    (keeps_modLane l _ s (fun _ => laneOk_resume) (Lane.resume_params _)).trans (keeps_arbitrate _)

theorem laneOk_toLoopback {x : Lane} (h : LaneOk x) : LaneOk x.toLoopback :=
  laneOk_of_shrunk h rfl (.refl _) le_rfl nofun

theorem keeps_ownLoopbackLane (n : Nat) (s : State) : AnswerKeeps s (ownLoopbackLane n s) :=
  answerKeeps_withLane fun l => answerKeeps_ite _ fun _ =>
    (keeps_modLane l Lane.toLoopback s fun _ => laneOk_toLoopback).trans (keeps_arbitrate _)

theorem keeps_replaceWaiting (l : Fin 4) (n : Nat) (s : State) : Keeps s (replaceWaiting l s n) := by
  unfold replaceWaiting
  split
  · exact keeps_modSheet n
  · exact .refl s

theorem keeps_resetLane (l : Fin 4) (s : State) : Keeps s (resetLane l s) :=
  (keeps_failureEffects l s).trans ((keeps_foldl _ (fun n _ t => keeps_replaceWaiting l n t) _).trans
    ((keeps_modLane l Lane.toDown _ fun _ => laneOk_toDown).trans (keeps_arbitrate _)))

end Sys2Proof.Machine
end

section
/-! ABORT keeps every invariant: the accounts of its batch are open while its records go, and balance when they are counted. -/

set_option Elab.async false

namespace Sys2Proof.Machine

variable {s t : State} {skip : Nat → Prop}

/-! What the events of a station change -/

/-- From `s` to `t` only entries, ports and the attention set change. -/
def OnlyStations (s t : State) : Prop :=
  t = { s with entries := t.entries, ports := t.ports, attention := t.attention }

theorem OnlyStations.refl (s : State) : OnlyStations s s := rfl

theorem OnlyStations.trans {u : State} (h : OnlyStations s t) (k : OnlyStations t u) : OnlyStations s u :=
  Eq.trans k (congrArg (fun x : State =>
    { x with entries := u.entries, ports := u.ports, attention := u.attention }) h)

theorem onlyStations_foldl {α : Type} {f : State → α → State} (hf : ∀ t a, OnlyStations t (f t a)) (l : List α)
    (s : State) : OnlyStations s (l.foldl f s) := by
  induction l generalizing s with
  | nil => exact .refl s
  | cons a l ih => exact (hf s a).trans (ih _)

theorem onlyStations_modEntry (e : Nat) (f : Entry → Entry) (s : State) : OnlyStations s (modEntry e f s) := rfl

theorem onlyStations_onQueues (e : Nat) (f : Queues → Queues) (s : State) : OnlyStations s (onQueues e f s) := by
  unfold onQueues
  split
  · rfl
  · exact .refl s

theorem onlyStations_raise (k : AttnKind) (i : Nat) (s : State) : OnlyStations s (raise k i s) := by
  unfold raise
  split
  · exact .refl s
  · rfl

theorem onlyStations_halt (e : Nat) (c : HaltCause) (s : State) : OnlyStations s (halt e c s) := by
  unfold halt
  split
  · exact .refl s
  · next x _ =>
    have hqueue : OnlyStations s (if x.feed.moving then onQueues e Queues.addHalt (modEntry e (Entry.halted c) s)
        else modEntry e (Entry.halted c) s) := by
      split
      · exact (onlyStations_modEntry _ _ s).trans (onlyStations_onQueues _ _ _)
      · exact onlyStations_modEntry _ _ s
    dsimp only
    split
    · exact hqueue.trans (onlyStations_raise _ _ _)
    · exact hqueue

theorem onlyStations_leavePath (e n : Nat) (s : State) : OnlyStations s (leavePath e n s) := by
  unfold leavePath
  dsimp only
  split
  · exact (onlyStations_modEntry _ _ s).trans (onlyStations_onQueues _ _ _)
  · exact onlyStations_modEntry _ _ s

theorem OnlyStations.sheets (h : OnlyStations s t) : t.sheets = s.sheets := by rw [h]

theorem OnlyStations.batches (h : OnlyStations s t) : t.batches = s.batches := by rw [h]

/-! The batches without the counts of their records -/

/-- A batch record without its counts of records. -/
def Batch.bare (b : Batch) : Batch := { b with picking := 0, live := 0, openSuspects := 0 }

def bareBatches (s : State) : Tab Batch := s.batches.map fun p => (p.1, p.2.bare)

theorem get_of_bareBatches (h : bareBatches t = bareBatches s) {j : Nat} {c : Batch} (hc : t.batches.get j = some c) :
    ∃ b, s.batches.get j = some b ∧ c = { b with picking := c.picking, live := c.live, openSuspects := c.openSuspects } := by
  have hget := congrArg (fun u => Tab.get u j) h
  simp only [bareBatches, Tab.get_map, hc, Option.map_some] at hget
  obtain ⟨b, hb, hbc⟩ := Option.map_eq_some_iff.1 hget.symm
  refine ⟨b, hb, ?_⟩
  calc c = { c.bare with picking := c.picking, live := c.live, openSuspects := c.openSuspects } := rfl
    _ = { b with picking := c.picking, live := c.live, openSuspects := c.openSuspects } := by rw [← hbc]; rfl

theorem bareBatches_modBatch (h : Nat) (f : Batch → Batch) (s : State)
    (hf : ∀ b, (f b).bare = b.bare := by exact fun _ => rfl) : bareBatches (modBatch h f s) = bareBatches s := by
  simp only [bareBatches, modBatch_batches, Tab.modify, List.map_map]
  refine List.map_congr_left fun p _ => ?_
  simp only [Function.comp_apply]
  split
  · exact congrArg _ (hf p.2)
  · rfl

/-! One record of the batch ends -/

/-- From `s` to `t` the records in the slots `l` have left the table; other records keep all but their delivery entries, and
batches all but their counts of records. -/
structure Gone (l : List Nat) (s t : State) : Prop where
  sheets : bareSheets t = l.foldl Tab.del (bareSheets s)
  batches : bareBatches t = bareBatches s

theorem Gone.cons {n : Nat} {l : List Nat} {u : State} (h : Gone [n] s t) (k : Gone l t u) : Gone (n :: l) s u :=
  ⟨k.sheets.trans (by rw [h.sheets]; rfl), k.batches.trans h.batches⟩

theorem gone_foldl {f : State → Nat → State} (hf : ∀ n t, Gone [n] t (f t n)) (l : List Nat) (s : State) :
    Gone l s (l.foldl f s) := by
  induction l generalizing s with
  | nil => exact ⟨rfl, rfl⟩
  | cons n l ih => exact (hf n s).cons (ih _)

theorem get_foldl_del {α : Type} (l : List Nat) (u : Tab α) (n : Nat) :
    (l.foldl Tab.del u).get n = if n ∈ l then none else u.get n := by
  induction l generalizing u with
  | nil => rfl
  | cons m l ih =>
    rw [List.foldl_cons, ih, Tab.get_del]
    by_cases hm : n = m
    · simp [hm]
    · simp [hm]

/-- A record still in the table was there before, in no slot of the list. -/
theorem Gone.get_sheets {l : List Nat} (h : Gone l s t) {n : Nat} {q : Sheet} (hq : t.sheets.get n = some q) :
    n ∉ l ∧ ∃ r, s.sheets.get n = some r ∧ q = { r with deliveries := q.deliveries } := by
  have hget := congrArg (fun u => Tab.get u n) h.sheets
  simp only [get_foldl_del, get_bareSheets, hq, Option.map_some] at hget
  split_ifs at hget with hn
  obtain ⟨r, hr, hrq⟩ := Option.map_eq_some_iff.1 hget.symm
  refine ⟨hn, r, hr, ?_⟩
  calc q = { ({ q with deliveries := none } : Sheet) with deliveries := q.deliveries } := rfl
    _ = { r with deliveries := q.deliveries } := by rw [← hrq]

theorem bareSheets_del (n : Nat) (s : State) : bareSheets { s with sheets := s.sheets.del n } = (bareSheets s).del n := by
  simp [bareSheets, Tab.del, List.filter_map, Function.comp_def]

theorem bareSheets_del_of_none {n : Nat} (h : s.sheets.get n = none) : (bareSheets s).del n = bareSheets s :=
  Tab.del_eq_self (by rw [get_bareSheets, h]; rfl)

theorem gone_freePicking (n : Nat) (s : State) : Gone [n] s (freePicking n s) := by
  unfold freePicking
  split
  · next hn => exact ⟨(bareSheets_del_of_none hn).symm, rfl⟩
  · next r _ =>
    have hqueue := onlyStations_onQueues r.station (Queues.dropGrant r.tag)
      (modEntry r.station (fun x => { x with liveCount := x.liveCount - 1 })
        (modBatch r.batch (fun b => { b with picking := b.picking - 1 }) { s with sheets := s.sheets.del n }))
    constructor
    · rw [bareSheets, hqueue.sheets]
      exact bareSheets_del n s
    · rw [bareBatches, hqueue.batches]
      exact bareBatches_modBatch r.batch (fun b => { b with picking := b.picking - 1 }) { s with sheets := s.sheets.del n }

theorem gone_abortPicking (n : Nat) (s : State) : Gone [n] s (abortPicking s n) := by
  unfold abortPicking
  split
  · next hn => exact ⟨(bareSheets_del_of_none hn).symm, rfl⟩
  · exact ⟨(gone_freePicking n s).sheets, (gone_freePicking n s).batches⟩

theorem afterRemoval_tables (r : Sheet) (due : Option ReleaseOutcome) (s : State) :
    (afterRemoval r due s).sheets = s.sheets ∧ (afterRemoval r due s).batches = s.batches := by
  have hplan : ∀ u : State, (dropCapture r u).sheets = u.sheets ∧ (dropCapture r u).batches = u.batches := fun u => by
    unfold dropCapture modPlan
    (repeat' split) <;> exact ⟨rfl, rfl⟩
  obtain ⟨hs, hb⟩ := hplan (modEntry r.station (fun x => { x with liveCount := x.liveCount - 1 }) s)
  unfold afterRemoval releaseDue
  split
  · dsimp only
    split
    · have hqueue := fun f => onlyStations_onQueues r.station f
        (dropCapture r (modEntry r.station (fun x => { x with liveCount := x.liveCount - 1 }) s))
      exact ⟨(hqueue _).sheets.trans hs, (hqueue _).batches.trans hb⟩
    · exact ⟨hs, hb⟩
  · exact ⟨hs, hb⟩

theorem gone_removeRecord (n : Nat) (due : Option ReleaseOutcome) (s : State) : Gone [n] s (removeRecord n due s) := by
  cases hr : s.sheets.get n with
  | none =>
    unfold removeRecord
    rw [hr]
    exact ⟨(bareSheets_del_of_none hr).symm, rfl⟩
  | some r =>
    rw [removeRecord_of_get hr]
    obtain ⟨hs, hb⟩ := afterRemoval_tables r due (modBatch r.batch (Batch.loseRecord r) { s with sheets := s.sheets.del n })
    constructor
    · rw [bareSheets, hs]
      exact bareSheets_del n s
    · rw [bareBatches, hb]
      exact bareBatches_modBatch r.batch (Batch.loseRecord r) { s with sheets := s.sheets.del n }

theorem onlyImages_abortRecord (n : Nat) (r : Sheet) (s : State) :
    OnlyImages s (withdrawDeliveries n (abandonUploadOf n r s)) :=
  (onlyImages_abandonUploadOf n r s).trans (onlyImages_withdrawDeliveries n _)

theorem gone_abortRecord (n : Nat) (s : State) : Gone [n] s (abortRecord s n) := by
  unfold abortRecord
  split
  · next hn => exact ⟨(bareSheets_del_of_none hn).symm, rfl⟩
  · next r _ =>
    have himages := onlyImages_abortRecord n r s
    have hgone := gone_removeRecord n (if r.fault = some .imagesLost then none else some .dropped)
      (withdrawDeliveries n (abandonUploadOf n r s))
    refine ⟨by rw [hgone.sheets, himages.bare], hgone.batches.trans ?_⟩
    rw [bareBatches, himages.frame]
    rfl

/-! The invariants while the records end -/

theorem keepsShape_freePicking (n : Nat) (s : State) : KeepsShape s (freePicking n s) := by
  unfold freePicking
  split
  · exact .refl s
  · exact ((keepsShape_delSheet n s).trans (keepsShape_modBatch _ _ _)).trans
      ((keeps_modEntry_of_same _ _ _).trans (keeps_onQueues _ _ _)).toKeepsShape

theorem keepsShape_abortPicking (n : Nat) (s : State) : KeepsShape s (abortPicking s n) := by
  unfold abortPicking
  split
  · exact .refl s
  · exact (keepsShape_freePicking n s).trans (keeps_stopTimer _ _).toKeepsShape

theorem keepsShape_abortRecord (n : Nat) (s : State) : KeepsShape s (abortRecord s n) := by
  unfold abortRecord
  split
  · exact .refl s
  · exact ((keeps_abandonUploadOf _ _ s).trans (keeps_withdrawDeliveries _ _)).toKeepsShape.trans
      (keepsShape_removeRecord _ _ _)

/-- The tables and the books, with the balance of the batches that meet `skip` left open. -/
def Sound (skip : Nat → Prop) (s : State) : Prop := TablesOk s ∧ ReservedFree s ∧ Books skip s

theorem Keeps.sound (h : Keeps s t) (hs : Sound skip s) : Sound skip t := by
  obtain ⟨ht, hr, hb⟩ := hs
  exact ⟨h.tables ht, h.reserved ht hr, h.books skip ht hr hb⟩

theorem sound_abortPicking {n : Nat} (hn : ∀ r, s.sheets.get n = some r → r.state = .picking) (hs : Sound skip s) :
    Sound skip (abortPicking s n) := by
  have hkeeps : Keeps s (abortPicking s n) := by
    unfold abortPicking
    split
    · exact .refl s
    · exact (keeps_freePicking fun _ => hn).trans (keeps_stopTimer _ _)
  exact hkeeps.sound hs

theorem sound_abortRecord {n : Nat} (hn : ∀ r, s.sheets.get n = some r → r.state ≠ .picking ∧ skip r.batch)
    (hs : Sound skip s) : Sound skip (abortRecord s n) := by
  have ⟨ht, hr, _⟩ := hs
  refine ⟨(keepsShape_abortRecord n s).tables ht, (keepsShape_abortRecord n s).reserved ht hr, ?_⟩
  unfold abortRecord
  split
  · exact hs.2.2
  · next r _ =>
    have himages := onlyImages_abortRecord n r s
    have hsound := ((keeps_abandonUploadOf n r s).trans (keeps_withdrawDeliveries n _)).sound hs
    generalize withdrawDeliveries n (abandonUploadOf n r s) = u at himages hsound
    obtain ⟨hut, hur, hub⟩ := hsound
    cases hq : u.sheets.get n with
    | none =>
      unfold removeRecord
      rw [hq]
      exact hub
    | some q =>
      obtain ⟨r', hr', hqr⟩ := get_of_bareSheets himages.bare hq
      obtain ⟨hstate, hskip⟩ := hn r' hr'
      have hqs : q.state = r'.state := by rw [hqr]
      have hqb : q.batch = r'.batch := by rw [hqr]
      rw [removeRecord_of_get hq]
      refine (keeps_afterRemoval _ _ _).books skip ?_ ?_
        (books_delSheet hut hq (hqs ▸ hstate) hub fun b => ⟨fun h => absurd (hqb ▸ hskip) h, rfl, rfl, rfl, rfl⟩)
      · exact tablesOk_modBatch (tablesOk_delSheet n hut)
      · exact hur

theorem sound_abortPicks (l : List Nat) (s : State) (hs : Sound skip s)
    (hl : ∀ n ∈ l, ∀ r, s.sheets.get n = some r → r.state = .picking) : Sound skip (l.foldl abortPicking s) := by
  induction l generalizing s with
  | nil => exact hs
  | cons n l ih =>
    refine ih _ (sound_abortPicking (hl n List.mem_cons_self) hs) fun m hm q hq => ?_
    obtain ⟨-, r, hr, hqr⟩ := (gone_abortPicking n s).get_sheets hq
    rw [hqr]
    exact hl m (List.mem_cons_of_mem n hm) r hr

theorem sound_abortRecords (l : List Nat) (s : State) (hs : Sound skip s)
    (hl : ∀ n ∈ l, ∀ r, s.sheets.get n = some r → r.state ≠ .picking ∧ skip r.batch) :
    Sound skip (l.foldl abortRecord s) := by
  induction l generalizing s with
  | nil => exact hs
  | cons n l ih =>
    refine ih _ (sound_abortRecord (hl n List.mem_cons_self) hs) fun m hm q hq => ?_
    obtain ⟨-, r, hr, hqr⟩ := (gone_abortRecord n s).get_sheets hq
    rw [hqr]
    exact hl m (List.mem_cons_of_mem n hm) r hr

/-! The station of an aborting batch -/

/-- The station of an aborting batch once the binding is parted: IDLE with an empty path, halted and rid of sheets
otherwise (R24 step 1). -/
theorem keeps_abortStation {h e : Nat} {b : Batch} (hb : s.batches.get h = some b) (hbe : b.bound = some e) :
    Keeps s (abortStation h e s) := by
  unfold abortStation
  split
  · exact .refl s
  · next x hx =>
    have hpart : Keeps s (modEntry e (fun x => { x with bound := none })
        (modBatch h (fun b => { b with bound := none }) s)) := keeps_part hb hbe fun _ => ⟨rfl, rfl, rfl, rfl⟩
    have hidle : Keeps s (if x.path.isEmpty then modEntry e (fun x => { x with feed := .idle, cause := none })
        (modEntry e (fun x => { x with bound := none }) (modBatch h (fun b => { b with bound := none }) s))
        else halt e .abort (modEntry e (fun x => { x with bound := none })
          (modBatch h (fun b => { b with bound := none }) s))) := by
      split
      · refine hpart.trans (keeps_modEntry e (fun _ => ⟨rfl, .inl rfl⟩) fun y hy => ⟨rfl, le_rfl, fun _ => .inr ?_⟩)
        simp only [modEntry_entries, modBatch_entries, Tab.get_modify_self, hx, Option.map_some] at hy
        cases hy
        rfl
      · exact hpart.trans (keeps_halt _ _ _)
    exact hidle.trans (keeps_foldl _ (fun c _ t => keeps_leavePath e c.slot t) _)

theorem onlyStations_abortStation {h e : Nat} {x : Entry} (hx : s.entries.get e = some x) :
    OnlyStations (modBatch h (fun b => { b with bound := none }) s) (abortStation h e s) := by
  have hleave := fun (l : List Place) t => onlyStations_foldl (fun t (c : Place) => onlyStations_leavePath e c.slot t) l t
  unfold abortStation
  rw [hx]
  dsimp only
  split
  · exact ((onlyStations_modEntry _ _ _).trans (onlyStations_modEntry _ _ _)).trans (hleave _ _)
  · exact ((onlyStations_modEntry _ _ _).trans (onlyStations_halt _ _ _)).trans (hleave _ _)

/-! The batch closes -/

/-- A batch without records closes, `n` more counted as discarded (R24). -/
theorem books_discardAll {h n : Nat} {o : BatchOutcome} (hs : Books (fun j => skip j ∨ j = h) s)
    (hnone : ∀ m q, s.sheets.get m = some q → q.batch ≠ h) (ht : TablesOk s)
    (hb : ∀ b, s.batches.get h = some b → b.bound = none ∧
      (¬ skip h → b.fed = b.completed + (b.discarded + n) + b.rescanned)) :
    Books skip (modBatch h (Batch.toClosed o) (modBatch h (Batch.discardAll n) s)) := by
  obtain ⟨hbind, hacc, hopen⟩ := hs
  rw [modBatch_modBatch]
  refine ⟨bindingsFound_of_modify (g := Batch.toClosed o ∘ Batch.discardAll n) hbind rfl rfl fun b hget => ?_, ?_, ?_⟩
  · obtain ⟨hbound, -⟩ := hb b hget
    exact ⟨hbound.symm, fun _ => hbound⟩
  · intro j c hc
    rcases get_batches_modBatch hc with ⟨hj, hc⟩ | ⟨rfl, b, hget, rfl⟩
    · obtain ⟨e1, e2⟩ := hacc j c hc
      exact ⟨fun hskip => e1 (by simp [hskip, hj]), e2⟩
    · obtain ⟨-, hsum⟩ := hb b hget
      refine ⟨fun hskip => hsum hskip, Eq.symm ?_, Eq.symm ?_⟩ <;>
        exact (Tab.count_eq_zero (sheetsWf ht)).2 fun m q hq => by simp [hnone m q hq]
  · intro m q hq
    obtain ⟨b, hget, hst⟩ := hopen m q hq
    exact ⟨b, by simp [Tab.get_modify, hnone m q hq, hget], hst⟩

theorem mem_batchSlots {h n : Nat} {p : Bool} :
    n ∈ batchSlots s h p ↔ ∃ r, (n, r) ∈ s.sheets ∧ r.batch = h ∧ decide (r.state = .picking) = p := by
  simp [batchSlots]

theorem length_batchSlots (s : State) (h : Nat) : (batchSlots s h false).length = liveCount s h := by
  simp only [batchSlots, List.length_map, liveCount, Tab.count]
  congr 2
  funext p
  by_cases hp : p.2.state = .picking <;> simp [hp]

/-- The state of an ABORT once the station has been parted. -/
def abortParted (h : Nat) (b : Batch) (s : State) : State :=
  match b.bound with | some e => abortStation h e s | none => s

/-- The state of an ABORT once the records of its batch have ended. -/
def abortEnded (h : Nat) (b : Batch) (s : State) : State :=
  (batchSlots s h false).foldl abortRecord ((batchSlots s h true).foldl abortPicking (abortParted h b s))

theorem keeps_abortParted {h : Nat} {b : Batch} (hb : s.batches.get h = some b) : Keeps s (abortParted h b s) := by
  unfold abortParted
  split
  · next e hbe => exact keeps_abortStation hb hbe
  · exact .refl s

/-- Parting the station touches no sheet, and of the batches only the binding. -/
theorem abortParted_spec {h : Nat} {b : Batch} (hs : BindingsFound s) (hb : s.batches.get h = some b) :
    (abortParted h b s).sheets = s.sheets ∧
      (abortParted h b s).batches.get h = some { b with bound := none } := by
  unfold abortParted
  split
  · next e hbe =>
    obtain ⟨x, hx, -⟩ := hs.2.1 h b e hb hbe
    have hframe := onlyStations_abortStation (h := h) hx
    refine ⟨hframe.sheets, ?_⟩
    rw [hframe.batches]
    simp [hb]
  · next hbn => exact ⟨rfl, hb.trans (by rw [← hbn])⟩

theorem fixed_abortEnded (h : Nat) (b : Batch) (s : State) : fixed (abortEnded h b s) = fixed s := by
  unfold abortEnded abortParted
  rw [fixed_foldl _ (fun s n => fixed_abortRecord n s), fixed_foldl _ (fun s n => fixed_abortPicking n s)]
  split
  · exact fixed_abortStation _ _ _
  · rfl

theorem keepsShape_foldl {f : State → Nat → State} (hf : ∀ n t, KeepsShape t (f t n)) (l : List Nat) (s : State) :
    KeepsShape s (l.foldl f s) := by
  induction l generalizing s with
  | nil => exact .refl s
  | cons n l ih => exact (hf n s).trans (ih _)

theorem keepsShape_abortEnded {h : Nat} {b : Batch} (hb : s.batches.get h = some b) : KeepsShape s (abortEnded h b s) := by
  exact (keeps_abortParted hb).toKeepsShape.trans ((keepsShape_foldl keepsShape_abortPicking _ _).trans
    (keepsShape_foldl keepsShape_abortRecord _ _))

/-- With the records of its batch ended, an ABORT has all books in order but that batch's balance, which the records it
ended make good. -/
theorem abortEnded_spec {h : Nat} {b : Batch} (hs : Sound skip s) (hb : s.batches.get h = some b) :
    Sound (fun j => skip j ∨ j = h) (abortEnded h b s) ∧
    (∀ m q, (abortEnded h b s).sheets.get m = some q → q.batch ≠ h) ∧
    ∀ c, (abortEnded h b s).batches.get h = some c → c.bound = none ∧
      (¬ skip h → c.fed = c.completed + (c.discarded + (batchSlots s h false).length) + c.rescanned) := by
  obtain ⟨ht, hr, hbind, hacc, hopen⟩ := hs
  obtain ⟨hsheets, hbatch⟩ := abortParted_spec hbind hb
  have hsound : Sound (fun j => skip j ∨ j = h) (abortParted h b s) := by
    refine (keeps_abortParted hb).sound ⟨ht, hr, hbind, fun j c hc => ?_, hopen⟩
    exact ⟨fun hj => (hacc j c hc).1 fun h => hj (.inl h), (hacc j c hc).2⟩
  have hget : ∀ {n p r}, n ∈ batchSlots s h p → (abortParted h b s).sheets.get n = some r →
      r.batch = h ∧ decide (r.state = .picking) = p := fun hn hq => by
    obtain ⟨r', hr', hspec⟩ := mem_batchSlots.1 hn
    rw [hsheets, Tab.get_of_mem (sheetsWf ht) hr'] at hq
    cases hq
    exact hspec
  have hpicks := gone_foldl gone_abortPicking (batchSlots s h true) (abortParted h b s)
  have hlives := gone_foldl gone_abortRecord (batchSlots s h false)
    ((batchSlots s h true).foldl abortPicking (abortParted h b s))
  have hsound1 := sound_abortPicks (batchSlots s h true) _ hsound fun n hn r hr => by simpa using (hget hn hr).2
  refine ⟨sound_abortRecords _ _ hsound1 fun n hn q hq => ?_, fun m q hq hqh => ?_, fun c hc => ?_⟩
  · obtain ⟨-, r, hr, hqr⟩ := hpicks.get_sheets hq
    obtain ⟨hbatch, hstate⟩ := hget hn hr
    rw [hqr]
    exact ⟨by simpa using hstate, .inr hbatch⟩
  · obtain ⟨hm, q', hq', hqq⟩ := hlives.get_sheets hq
    obtain ⟨hm', r, hr, hqr⟩ := hpicks.get_sheets hq'
    have hrh : r.batch = h := by
      rw [hqq, hqr] at hqh
      exact hqh
    have hmem := Tab.mem_of_get (hsheets ▸ hr)
    by_cases hp : r.state = .picking
    · exact hm' (mem_batchSlots.2 ⟨r, hmem, hrh, by simp [hp]⟩)
    · exact hm (mem_batchSlots.2 ⟨r, hmem, hrh, by simp [hp]⟩)
  · obtain ⟨c1, hc1, hcc⟩ := get_of_bareBatches (hlives.batches.trans hpicks.batches) hc
    cases hbatch.symm.trans hc1
    obtain ⟨e1, e2, -⟩ := hacc h b hb
    rw [hcc]
    refine ⟨rfl, fun hskip => ?_⟩
    have := e1 hskip
    rw [length_batchSlots, ← e2]
    dsimp only
    omega

theorem keeps_abortBatch {h : Nat} {b : Batch} (hb : s.batches.get h = some b) : Keeps s (abortBatch h b s) := by
  have hclose : Keeps s (modBatch h (Batch.toClosed .aborted)
      (modBatch h (Batch.discardAll (batchSlots s h false).length) (abortEnded h b s))) := by
    refine ⟨(keepsShape_abortEnded hb).trans ((keepsShape_modBatch _ _ _).trans (keepsShape_modBatch _ _ _)),
      fun skip ht hr hbooks => ?_, portPart_of_fixed (fixed_abortEnded h b s)⟩
    obtain ⟨hsound, hnone, hcount⟩ := abortEnded_spec ⟨ht, hr, hbooks⟩ hb
    exact books_discardAll hsound.2.2 hnone hsound.1 hcount
  exact hclose.trans ((keeps_raise .batchClosed h _).trans ((keeps_offerSlots _ _).trans ((keeps_arbitrate _).trans
    (keeps_settle _ _ _ _))))

theorem keeps_ownAbort (h : Nat) (s : State) : AnswerKeeps s (ownAbort h s) := by
  refine answerKeeps_withBatch fun b hb => ?_
  split
  · exact keeps_abortBatch hb
  · exact keeps_abortBatch hb
  · exact answerKeeps_refuse _

end Sys2Proof.Machine
end

section
/-! Every command answers, keeps every invariant and leaves the queue: starts, the store, frames and replies, and the dispatch
of all the others; and with them every step. -/

set_option Elab.async false

namespace Sys2Proof.Machine

variable {s t u : State}

/-- From `s` to `t` every invariant but the Command Port's own is kept. -/
structure KeepsRecords (s t : State) : Prop extends KeepsShape s t where
  books : ∀ skip, TablesOk s → ReservedFree s → Books skip s → Books skip t

theorem Keeps.records (h : Keeps s t) : KeepsRecords s t := ⟨h.toKeepsShape, h.books⟩

theorem KeepsRecords.trans (h : KeepsRecords s t) (k : KeepsRecords t u) : KeepsRecords s u where
  toKeepsShape := h.toKeepsShape.trans k.toKeepsShape
  books skip a b c := k.books skip (h.tables a) (h.reserved a b) (h.books skip a b c)

/-- An update of the queue, the flags of a start, the Command Port and the store needs to respect the settings' ranges
alone. -/
theorem KeepsRecords.port (ht : t = { s with
      pending := t.pending, resetLow := t.resetLow, loading := t.loading, cp := t.cp, store := t.store
      storeState := t.storeState, save := t.save } := by rfl)
    (hr : RangesOk s → RangesOk t := by exact id) : KeepsRecords s t := by
  generalize t.pending = a1, t.resetLow = a2, t.loading = a3, t.cp = a4, t.store = a5, t.storeState = a6, t.save = a7 at ht
  subst ht
  exact ⟨⟨id, fun _ => id, id, hr, fun _ => id, fun _ => id⟩, fun _ _ _ => id⟩

/-! A start -/

theorem roomOk_default : RoomOk {} := by decide

theorem laneParamsOk_default : LaneParamsOk {} := by decide

theorem settingsOk_default : SettingsOk defaultSettings := by
  refine ⟨roomOk_default, fun p hp => ?_, fun k hk => ?_, fun p hp => ?_, fun d hd x hx => ?_⟩
  · have := Vector.mem_toList_iff.1 hp
    obtain ⟨-, rfl⟩ := Vector.mem_replicate.1 this
    exact laneParamsOk_default
  · revert k
    decide
  · have := Vector.mem_toList_iff.1 hp
    obtain ⟨-, rfl⟩ := Vector.mem_replicate.1 this
    decide
  · have := Vector.mem_toList_iff.1 hd
    obtain ⟨-, rfl⟩ := Vector.mem_replicate.1 this
    cases hx

theorem settingsOk_loaded (h : SettingsOk s.store.settings) : SettingsOk (loadedSettings s.store) := by
  unfold loadedSettings
  split
  · exact h
  · exact settingsOk_default

theorem mem_rebuiltEntries {d : Vector (Option (StationId × Text)) 24} {p : Nat × Entry} :
    p ∈ rebuiltEntries d ↔ ∃ i : Fin 24, ∃ x, d[i] = some x ∧ p = (i.val, { id := x.1, name := x.2 }) := by
  simp only [rebuiltEntries, List.mem_filterMap, List.mem_finRange, true_and, Option.map_eq_some_iff]
  exact exists_congr fun i => exists_congr fun x => and_congr_right fun _ => eq_comm

/-- The rebuilt directory lists its indices in order. -/
theorem wf_rebuiltEntries (d : Vector (Option (StationId × Text)) 24) : Tab.wf 24 (rebuiltEntries d) := by
  constructor
  · have hsub : ((rebuiltEntries d).map Prod.fst).Sublist ((List.finRange 24).map Fin.val) := by
      unfold rebuiltEntries
      generalize List.finRange 24 = l
      induction l with
      | nil => exact .refl _
      | cons i l ih =>
        rw [List.filterMap_cons]
        cases d[i] with
        | none => exact ih.cons _
        | some x => exact ih.cons_cons _
    refine List.Pairwise.sublist hsub ?_
    decide
  · intro k hk
    obtain ⟨p, hp, rfl⟩ := List.mem_map.1 hk
    obtain ⟨i, x, -, rfl⟩ := mem_rebuiltEntries.1 hp
    exact i.isLt

/-- A start frees every record but the stored stations. -/
theorem startAfresh_tables (s : State) : (startAfresh s).entries = rebuiltEntries (loadedSettings s.store).directory ∧
    (startAfresh s).reservations = [] ∧ (startAfresh s).sheets = [] ∧ (startAfresh s).batches = [] ∧
    (startAfresh s).uploads = [] ∧ (startAfresh s).attention = [] := ⟨rfl, rfl, rfl, rfl, rfl, rfl⟩

/-- A start takes the loaded settings and keeps the store. -/
theorem startAfresh_settings (s : State) : (startAfresh s).room = (loadedSettings s.store).room ∧
    (startAfresh s).lanes = Vector.ofFn (fun l : Fin 4 => { params := (loadedSettings s.store).lanes[l] }) ∧
    (startAfresh s).classes = (loadedSettings s.store).classes ∧
    (startAfresh s).plans = Vector.ofFn (fun n : Fin 16 => { body := (loadedSettings s.store).plans[n], captures := 0 }) ∧
    (startAfresh s).store = s.store ∧ (startAfresh s).save = none := by
  refine ⟨rfl, ?_, rfl, rfl, rfl, rfl⟩
  refine Vector.ext fun i hi => ?_
  simp [startAfresh, startWith, takeSettings, State.reset]

/-- A state without records but unbound entries with empty paths has all its books in order. -/
theorem keepsRecords_of_free {d : Vector (Option (StationId × Text)) 24} (he : t.entries = rebuiltEntries d)
    (hres : t.reservations = []) (hsh : t.sheets = []) (hb : t.batches = []) (hu : t.uploads = [])
    (ha : t.attention = []) (hranges : RangesOk s → RangesOk t) (hlanes : ∀ x ∈ t.lanes.toList, LaneOk x) :
    KeepsRecords s t := by
  have htables : TablesOk t :=
    ⟨he ▸ wf_rebuiltEntries d, hres ▸ Tab.wf_nil _, hsh ▸ Tab.wf_nil _, hb ▸ Tab.wf_nil _, hu ▸ Tab.wf_nil _⟩
  have hentry : ∀ e x, t.entries.get e = some x → x.bound = none ∧ x.path = [] := fun e x hx => by
    obtain ⟨i, y, -, hxy⟩ := mem_rebuiltEntries.1 (Tab.mem_of_get (he ▸ hx))
    cases hxy
    exact ⟨rfl, rfl⟩
  have hsheet : ∀ n r, t.sheets.get n ≠ some r := fun n r => by simp [hsh]
  have hbatch : ∀ h b, t.batches.get h ≠ some b := fun h b => by simp [hb]
  have hzero : ∀ e, pickCount t e = 0 := fun e => by simp [pickCount, Tab.count, hsh]
  refine ⟨⟨fun _ => htables, fun _ _ q hq => ?_, fun _ => ?_, hranges, fun _ _ => ⟨hlanes, fun u hu' => ?_⟩,
    fun _ _ => (grantsOk_iff htables).2 ⟨fun n r hr => absurd hr (hsheet n r), fun e x hx => ?_⟩⟩,
    fun skip _ _ _ => ⟨⟨fun e x h hx hbd => ?_, fun h b _ hb => absurd hb (hbatch h b), fun e x hx _ => (hentry e x hx).1,
      fun h b hb => absurd hb (hbatch h b)⟩, fun h b hb => absurd hb (hbatch h b), fun n r hr => absurd hr (hsheet n r)⟩⟩
  · simp [hres] at hq
  · rw [AttentionOk, ha]
    exact List.Pairwise.nil
  · simp [hu] at hu'
  · rw [(hentry e x hx).2, hzero]
    exact Nat.zero_le _
  · cases (hentry e x hx).1.symm.trans hbd

theorem rangesOk_startAfresh (h : SettingsOk s.store.settings) : RangesOk (startAfresh s) := by
  obtain ⟨hroom, hlanes, hclasses, hplans, hstore, hsave⟩ := startAfresh_settings s
  obtain ⟨hentries, -⟩ := startAfresh_tables s
  have ⟨k1, k2, k3, k4, k5⟩ := settingsOk_loaded h
  generalize loadedSettings s.store = c at *
  refine ⟨hroom ▸ k1, fun x hx => ?_, hclasses ▸ k3, fun p hp => ?_, fun p hp => ?_, hstore ▸ h, fun v hv => ?_⟩
  · rw [hlanes] at hx
    obtain ⟨l, hl, rfl⟩ := Vector.mem_iff_getElem.1 (Vector.mem_toList_iff.1 hx)
    simp only [Vector.getElem_ofFn]
    exact k2 _ (Vector.mem_toList_iff.2 (Vector.getElem_mem _))
  · rw [hplans] at hp
    obtain ⟨n, hn, rfl⟩ := Vector.mem_iff_getElem.1 (Vector.mem_toList_iff.1 hp)
    simp only [Vector.getElem_ofFn]
    exact k4 _ (Vector.mem_toList_iff.2 (Vector.getElem_mem _))
  · rw [hentries] at hp
    obtain ⟨i, x, hx, rfl⟩ := mem_rebuiltEntries.1 hp
    exact k5 _ (Vector.mem_toList_iff.2 (Vector.getElem_mem i.isLt)) x (by simpa using hx)
  · simp [hsave] at hv

/-- A start leaves every record free but the stored stations, and every setting one of the loaded settings. -/
theorem keepsRecords_startAfresh (s : State) : KeepsRecords s (startAfresh s) := by
  obtain ⟨he, hres, hsh, hb, hu, ha⟩ := startAfresh_tables s
  obtain ⟨-, hlanes, -⟩ := startAfresh_settings s
  refine keepsRecords_of_free he hres hsh hb hu ha (fun h => rangesOk_startAfresh h.2.2.2.2.2.1) fun x hx => ?_
  rw [hlanes] at hx
  obtain ⟨l, hl, rfl⟩ := Vector.mem_iff_getElem.1 (Vector.mem_toList_iff.1 hx)
  simp only [Vector.getElem_ofFn]
  exact ⟨Nat.zero_le _, List.nodup_nil, fun _ => rfl, Nat.zero_le _⟩

theorem keepsRecords_endLoad (s : State) : KeepsRecords s (endLoad s) := by
  unfold endLoad
  dsimp only
  split
  · exact (keepsRecords_startAfresh s).trans .port
  · exact ((keepsRecords_startAfresh s).trans .port).trans (keeps_raise _ _ _).records

/-! The store -/

theorem settingsOk_working (h : RangesOk s) : SettingsOk (workingSettings s) := by
  obtain ⟨hroom, hlanes, hclasses, hplans, hentries, -⟩ := h
  refine ⟨hroom, fun p hp => ?_, hclasses, fun p hp => ?_, fun d hd x hx => ?_⟩
  · obtain ⟨l, hl, rfl⟩ := Vector.mem_iff_getElem.1 (Vector.mem_toList_iff.1 hp)
    simp only [workingSettings, Vector.getElem_ofFn]
    exact hlanes _ (Vector.mem_toList_iff.2 (Vector.getElem_mem _))
  · obtain ⟨n, hn, rfl⟩ := Vector.mem_iff_getElem.1 (Vector.mem_toList_iff.1 hp)
    simp only [workingSettings, Vector.getElem_ofFn]
    exact hplans _ (Vector.mem_toList_iff.2 (Vector.getElem_mem _))
  · obtain ⟨e, he, rfl⟩ := Vector.mem_iff_getElem.1 (Vector.mem_toList_iff.1 hd)
    simp only [workingSettings, Vector.getElem_ofFn, Option.mem_toList, Option.map_eq_some_iff] at hx
    obtain ⟨y, hy, rfl⟩ := hx
    exact hentries _ (Tab.mem_of_get hy)

theorem mem_copyAt {α : Type} {n i : Nat} {v t : Vector α n} {x : α} (h : x ∈ (copyAt i v t).toList) :
    x ∈ v.toList ∨ x ∈ t.toList := by
  unfold copyAt at h
  split at h
  · next y hy =>
    obtain ⟨j, hj, rfl⟩ := Vector.mem_iff_getElem.1 (Vector.mem_toList_iff.1 h)
    rw [Vector.getElem_setIfInBounds hj]
    split
    · obtain ⟨hi, rfl⟩ := Vector.getElem?_eq_some_iff.1 hy
      exact .inl (Vector.mem_toList_iff.2 (Vector.getElem_mem hi))
    · exact .inr (Vector.mem_toList_iff.2 (Vector.getElem_mem hj))
  · exact .inr h

theorem settingsOk_writeEntry {c d : Settings} (hc : SettingsOk c) (hd : SettingsOk d) (i : Nat) :
    SettingsOk (writeEntry c d i) := by
  obtain ⟨c1, c2, c3, c4, c5⟩ := hc
  obtain ⟨d1, d2, d3, d4, d5⟩ := hd
  unfold writeEntry
  split_ifs
  · exact ⟨c1, d2, d3, d4, d5⟩
  · exact ⟨d1, fun p hp => (mem_copyAt hp).elim (c2 p) (d2 p), d3, d4, d5⟩
  · exact ⟨d1, d2, fun p hp => (mem_copyAt hp).elim (c3 p) (d3 p), d4, d5⟩
  · exact ⟨d1, d2, d3, fun p hp => (mem_copyAt hp).elim (c4 p) (d4 p), d5⟩
  · exact ⟨d1, d2, d3, d4, fun p hp => (mem_copyAt hp).elim (c5 p) (d5 p)⟩

theorem keepsRecords_beginSave (s : State) : KeepsRecords s (beginSave s) := by
  refine .port rfl fun h => ?_
  have hwork := settingsOk_working h
  obtain ⟨h1, h2, h3, h4, h5, h6, -⟩ := h
  refine ⟨h1, h2, h3, h4, h5, h6, fun v hv => ?_⟩
  simp only [beginSave, Option.toList_some, List.mem_singleton] at hv
  rw [hv]
  exact hwork

theorem keepsRecords_writeNext (s : State) : KeepsRecords s (writeNext s) := by
  unfold writeNext
  split
  · exact .port
  · next v hv =>
    split
    · exact .port
    · next i _ _ =>
      refine .port rfl fun ⟨h1, h2, h3, h4, h5, h6, h7⟩ => ?_
      have hcopy := h7 v (by rw [hv]; exact List.mem_singleton_self v)
      refine ⟨h1, h2, h3, h4, h5, settingsOk_writeEntry hcopy h6 i, fun w hw => ?_⟩
      simp only [Option.toList_some, List.mem_singleton] at hw
      rw [hw]
      exact hcopy

theorem keepsRecords_completeSave (s : State) : KeepsRecords s (completeSave s) := by
  unfold completeSave
  split
  · exact .port
  · next v hv =>
    refine .port rfl fun ⟨h1, h2, h3, h4, h5, h6, h7⟩ => ⟨h1, h2, h3, h4, h5, ?_, nofun⟩
    exact h7 v (by rw [hv]; exact List.mem_singleton_self v)

theorem keepsRecords_failSave (s : State) : KeepsRecords s (failSave s) := by
  unfold failSave
  split
  · exact .port
  · split
    · exact .port rfl fun ⟨h1, h2, h3, h4, h5, h6, _⟩ => ⟨h1, h2, h3, h4, h5, h6, nofun⟩
    · exact .port

/-! The Command Port's own invariant (R159) -/

/-- A reply assembled while neither a load nor a save runs. -/
theorem portOk_assemble (code : Byte) (r : Result) (d : ReplyData) (hl : s.loading = false) (hs : s.save = none) :
    PortOk (assemble code r d s) :=
  ⟨⟨fun _ => rfl, fun _ => rfl⟩, fun h => (by rw [assemble, hl] at h; cases h), fun h => (by simp [assemble, hs] at h),
    fun _ => nofun, fun _ => nofun, fun _ => rfl⟩

/-- A port that takes a request holds neither a load nor a save. -/
theorem PortOk.quiet (h : PortOk s) (hp : s.cp.phase = .idle) : s.loading = false ∧ s.save = none := by
  obtain ⟨-, hload, hsave, -⟩ := h
  constructor
  · by_contra hl
    rw [Bool.not_eq_false] at hl
    cases hp.symm.trans (hload hl).1
  · by_contra hs
    cases hp.symm.trans (hsave (Option.isSome_iff_ne_none.2 hs)).1

theorem portOk_of_portPart (h : portPart t = portPart s) (hs : PortOk s) : PortOk t := by
  simp only [portPart, Prod.mk.injEq] at h
  obtain ⟨-, hr, hl, hcp, hsv⟩ := h
  simp only [PortOk, hr, hl, hcp, hsv]
  exact hs

/-! Outcomes -/

/-- The outcome is a state that keeps every invariant and the queue. -/
def Answers (s : State) (o : Host.Outcome State Fault Refusal) : Prop :=
  ∃ t, o = .next t ∧ KeepsRecords s t ∧ t.pending = s.pending ∧ (PortOk s → PortOk t)

theorem answers_keeps (h : Keeps s t) : Answers s (.next t) :=
  ⟨t, rfl, h.records, congrArg Prod.fst h.port, portOk_of_portPart h.port⟩

theorem answers_event {f : State → State} (h : Keeps s (f s)) : Answers s (event f s) := by
  rcases event_cases f s with ⟨-, he⟩ | ⟨-, he⟩ <;> rw [he]
  · exact answers_keeps h
  · exact answers_keeps (.refl s)

theorem keepsRecords_assemble (code : Byte) (r : Result) (d : ReplyData) (s : State) :
    KeepsRecords s (assemble code r d s) := .port

theorem answers_overrun (s : State) : Answers s (.next (overrun s)) := ⟨_, rfl, .port, rfl, id⟩

theorem answers_assemble (code : Byte) (r : Result) (d : ReplyData) (ht : Takes s) (h : Keeps s t) :
    Answers s (.next (assemble code r d t)) := by
  refine ⟨_, rfl, h.records.trans (keepsRecords_assemble _ _ _ _), congrArg Prod.fst h.port, fun hp => ?_⟩
  obtain ⟨hl, hs⟩ := hp.quiet ht.2
  have hport := h.port
  simp only [portPart, Prod.mk.injEq] at hport
  obtain ⟨-, -, hload, -, hsave⟩ := hport
  exact portOk_assemble _ _ _ (hload.trans hl) (hsave.trans hs)

theorem answers_request {α : Type} (code : Byte) (a : Params α) {owner : α → State → Answer}
    (h : ∀ v, AnswerKeeps s (owner v s)) : Answers s (.next (request code a owner s)) := by
  rcases request_cases code a owner s with ⟨-, he⟩ | ⟨-, -, he⟩ | ⟨ht, r, he⟩ | ⟨ht, v, t, d, -, ho, he⟩ <;> rw [he]
  · exact answers_keeps (.refl s)
  · exact answers_overrun s
  · exact answers_assemble _ _ _ ht (.refl s)
  · have hkeeps := h v
    rw [ho] at hkeeps
    exact answers_assemble _ _ _ ht hkeeps

/-- A frame that an IDLE port answers at once. -/
theorem answers_frame {f : State → State} (h : Takes s → Answers s (.next (f s))) :
    Answers s (.next (unheld (fun s => if busy s then overrun s else f s) s)) := by
  unfold unheld
  split
  · exact answers_keeps (.refl s)
  · next hr =>
    dsimp only
    split
    · exact answers_overrun s
    · next hb => exact h ⟨by simpa using hr, by simpa [busy] using hb⟩

theorem answers_resetPart (a : Params Unit) (s : State) : Answers s (exec (.resetPart a) s) := by
  have he : exec (.resetPart a) s = .next (request 0x07 a ownResetPart s) := rfl
  rw [he]
  rcases request_cases 0x07 a ownResetPart s with ⟨-, he⟩ | ⟨-, -, he⟩ | ⟨ht, r, he⟩ | ⟨ht, v, t, d, -, ho, he⟩ <;> rw [he]
  · exact answers_keeps (.refl s)
  · exact answers_overrun s
  · exact answers_assemble _ _ _ ht (.refl s)
  · cases ho
    refine ⟨_, rfl, .port, rfl, fun hp => ?_⟩
    obtain ⟨hl, hs⟩ := hp.quiet ht.2
    exact portOk_assemble _ _ _ hl hs

theorem answers_beginSave (ht : Takes s) : Answers s (.next (beginSave s)) := by
  refine ⟨_, rfl, keepsRecords_beginSave s, rfl, fun hp => ?_⟩
  obtain ⟨hl, -⟩ := hp.quiet ht.2
  obtain ⟨hreply, -, -, -, -, hdue⟩ := hp
  have hphase := ht.2
  refine ⟨?_, fun h => ?_, fun _ => ⟨rfl, rfl⟩, fun _ _ => .inr rfl, fun _ _ => rfl, fun h => ?_⟩
  · simpa [beginSave, hphase] using hreply
  · cases hl.symm.trans h
  · cases hphase.symm.trans (hdue h)

theorem answers_saveSettings (a : Params Unit) (s : State) : Answers s (exec (.saveSettings a) s) := by
  cases a with
  | malformed => exact answers_frame fun ht => answers_assemble _ _ _ ht (.refl s)
  | given _ => exact answers_frame answers_beginSave

theorem answers_event_store {f : State → State} (hk : KeepsRecords s (f s)) (hq : (f s).pending = s.pending)
    (hp : Runs s → PortOk s → PortOk (f s)) : Answers s (event f s) := by
  rcases event_cases f s with ⟨hr, he⟩ | ⟨-, he⟩ <;> rw [he]
  · exact ⟨_, rfl, hk, hq, hp hr⟩
  · exact answers_keeps (.refl s)

theorem answers_writeNext (s : State) : Answers s (exec .settingsEntryWritten s) := by
  refine answers_event_store (keepsRecords_writeNext s) ?_ fun _ hp => ?_ <;> unfold writeNext
  · split
    · rfl
    · split <;> rfl
  · split
    · exact hp
    · next v hv =>
      split
      · exact hp
      · simp only [PortOk, hv, reduceCtorEq, Option.isSome_some] at hp ⊢
        exact hp

theorem answers_completeSave (s : State) : Answers s (exec .saveSettingsCompletion s) := by
  refine answers_event_store (keepsRecords_completeSave s) ?_ fun hr hp => ?_ <;> unfold completeSave <;> split
  · rfl
  · rfl
  · exact hp
  · exact portOk_assemble _ _ _ hr.2 rfl

theorem answers_failSave (s : State) : Answers s (exec .saveSettingsWriteFailure s) := by
  refine answers_event_store (keepsRecords_failSave s) ?_ fun hr hp => ?_ <;> unfold failSave <;> split
  · rfl
  · split <;> rfl
  · exact hp
  · split
    · exact portOk_assemble _ _ _ hr.2 rfl
    · exact hp

/-! Starts, loads and reads -/

theorem portOk_startAfresh (s : State) (r : Bool) : PortOk { startAfresh s with resetLow := r } :=
  ⟨⟨nofun, nofun⟩, fun _ => ⟨rfl, rfl⟩, nofun, fun _ _ => .inl rfl, fun _ => nofun, nofun⟩

theorem answers_startAfresh (s : State) : Answers s (.next (startAfresh s)) :=
  ⟨_, rfl, keepsRecords_startAfresh s, rfl, fun _ => portOk_startAfresh s false⟩

theorem answers_powerUp (s : State) : Answers s (exec .powerUp s) :=
  ⟨_, rfl, (keepsRecords_startAfresh s).trans .port, rfl, fun _ => portOk_startAfresh s _⟩

theorem answers_resetNAssert (s : State) : Answers s (exec .resetNAssert s) := by
  refine ⟨_, rfl, .port rfl fun ⟨h1, h2, h3, h4, h5, h6, _⟩ => ⟨h1, h2, h3, h4, h5, h6, nofun⟩, rfl, fun hp => ?_⟩
  obtain ⟨hreply, hload, -, -, -, hdue⟩ := hp
  exact ⟨hreply, fun h => ⟨(hload h).1, rfl⟩, nofun, nofun, nofun, hdue⟩

theorem answers_resetNRelease (s : State) : Answers s (exec .resetNRelease s) := by
  change Answers s (.next (if s.resetLow then startAfresh s else s))
  split
  · exact answers_startAfresh s
  · exact answers_keeps (.refl s)

theorem pending_endLoad (s : State) : (endLoad s).pending = s.pending := by
  unfold endLoad
  dsimp only
  split
  · rfl
  · unfold raise
    split <;> rfl

theorem portOk_endLoad (hr : s.resetLow = false) (hl : s.loading = true) (hp : PortOk s) : PortOk (endLoad s) := by
  obtain ⟨hreply, hload, -, -, hreq, hdue⟩ := hp
  obtain ⟨hphase, hsave⟩ := hload hl
  have hstart : PortOk { startAfresh s with loading := false, cp := { s.cp with phase := .idle } } := by
    refine ⟨?_, nofun, nofun, nofun, fun _ h => ?_, fun h => ?_⟩
    · simpa [hphase] using hreply
    · have := hreq hr h
      rw [hsave] at this
      cases this
    · cases hphase.symm.trans (hdue h)
  unfold endLoad
  dsimp only
  split
  · exact hstart
  · exact portOk_of_portPart (keeps_raise .settingsDefaulted 0 _).port hstart

theorem answers_settingsLoadEnd (s : State) : Answers s (exec .settingsLoadEnd s) := by
  change Answers s (.next (unheld (fun s => if s.loading then endLoad s else s) s))
  unfold unheld
  split
  · exact answers_keeps (.refl s)
  · next hr =>
    dsimp only
    split
    · next hl =>
      exact ⟨_, rfl, keepsRecords_endLoad s, pending_endLoad s, portOk_endLoad (by simpa using hr) hl⟩
    · exact answers_keeps (.refl s)

theorem answers_replyRead (hr : s.resetLow = false) (hphase : s.cp.phase = .replyReady) :
    Answers s (.next (replyRead s)) := by
  unfold replyRead
  split
  · exact answers_startAfresh s
  · next hd =>
    refine ⟨_, rfl, .port, rfl, fun ⟨_, hload, hsave, _, hreq, _⟩ => ?_⟩
    refine ⟨⟨nofun, nofun⟩, fun h => ?_, fun h => ?_, fun _ => nofun, fun _ h => hreq hr h, fun h => absurd h hd⟩
    · cases hphase.symm.trans (hload h).1
    · cases hphase.symm.trans (hsave h).1

theorem answers_out {o : List Byte} (h : Answers s (.next t)) : Answers s (.next { t with cp := { t.cp with out := o } }) := by
  obtain ⟨t, ⟨⟩, hk, hq, hp⟩ := h
  exact ⟨_, rfl, hk.trans .port, hq, hp⟩

theorem answers_readTransaction (n : Nat) (s : State) : Answers s (exec (.readTransaction n) s) := by
  change Answers s (.next (unheld (readFrame n) s))
  unfold unheld
  split
  · exact answers_keeps (.refl s)
  · next hr =>
    refine answers_out ?_
    split
    · next hc => exact answers_replyRead (by simpa using hr) hc.1
    · exact answers_keeps (.refl s)

/-! Every command and every step -/

/-- Every command answers with a state that keeps every invariant, the Command Port's own included, and the queue. -/
theorem answers_exec (c : Instr) (s : State) : Answers s (exec c s) := by
  cases c with
  | powerUp => exact answers_powerUp s
  | resetNAssert => exact answers_resetNAssert s
  | resetNRelease => exact answers_resetNRelease s
  | settingsLoadEnd => exact answers_settingsLoadEnd s
  | frameOverrun =>
    change Answers s (.next (unheld (fun s => if busy s then overrun s else s) s))
    exact answers_frame (f := id) fun _ => answers_keeps (.refl s)
  | badFrame code => exact answers_frame fun ht => answers_assemble _ _ _ ht (.refl s)
  | unknownRequest code => exact answers_frame fun ht => answers_assemble _ _ _ ht (.refl s)
  | ignoredTransaction first => exact answers_keeps (.refl s)
  | readTransaction clocked => exact answers_readTransaction clocked s
  | readAttention a => exact answers_request _ a (keeps_ownReadAttention · s)
  | clearAttention a => exact answers_request _ a (keeps_ownClearAttention · s)
  | readRoom a => exact answers_request _ a fun _ => answerKeeps_read _
  | setRoom a => exact answers_request _ a (keeps_ownSetRoom · s)
  | setAttentionMask a => exact answers_request _ a (keeps_ownSetAttentionMask · s)
  | saveSettings a => exact answers_saveSettings a s
  | saveSettingsCompletion => exact answers_completeSave s
  | saveSettingsWriteFailure => exact answers_failSave s
  | resetPart a => exact answers_resetPart a s
  | listStations a => exact answers_request _ a fun _ => answerKeeps_read _
  | readStation a => exact answers_request _ a fun _ => answerKeeps_withEntry fun _ _ _ => answerKeeps_read _
  | nameStation a => exact answers_request _ a (keeps_ownNameStation · s)
  | forgetStation a => exact answers_request _ a (keeps_ownForgetStation · s)
  | identify a => exact answers_request _ a (keeps_ownIdentify · s)
  | holdStation a => exact answers_request _ a (keeps_ownHold true · s)
  | releaseStation a => exact answers_request _ a (keeps_ownHold false · s)
  | resetPort a => exact answers_request _ a (keeps_ownResetPort · s)
  | start a => exact answers_request _ a (keeps_ownStart · s)
  | standby a => exact answers_request _ a (keeps_ownStandby · s)
  | haltStation a => exact answers_request _ a (keeps_ownHaltStation · s)
  | resume a => exact answers_request _ a (keeps_ownResume · s)
  | openBatch a => exact answers_request _ a (keeps_ownOpenBatch · s)
  | findBatch a => exact answers_request _ a (keeps_ownFindBatch · s)
  | readBatch a => exact answers_request _ a fun _ => answerKeeps_withBatch fun _ _ => answerKeeps_read _
  | amendBatchImmediate a => exact answers_request _ a (keeps_ownAmendNow · s)
  | amendBatchAtCheckpoint a => exact answers_request _ a (keeps_ownAmendLater · s)
  | bindBatch a => exact answers_request _ a (keeps_ownBind · s)
  | unbind a => exact answers_request _ a (keeps_ownUnbind · s)
  | pause a => exact answers_request _ a (keeps_ownPause true · s)
  | resumeBatch a => exact answers_request _ a (keeps_ownPause false · s)
  | checkpoint a => exact answers_request _ a (keeps_ownCheckpoint · s)
  | close a => exact answers_request _ a (keeps_ownClose · s)
  | abort a => exact answers_request _ a (keeps_ownAbort · s)
  | retire a => exact answers_request _ a (keeps_ownRetire · s)
  | findSheet a => exact answers_request _ a (keeps_ownFindSheet · s)
  | readSheet a => exact answers_request _ a (keeps_ownReadSheet · s)
  | listSuspects a => exact answers_request _ a (keeps_ownListSuspects · s)
  | resolveAccept a => exact answers_request _ a (keeps_resolveAccept · s)
  | resolveRescan a => exact answers_request _ a (keeps_resolveRescan · s)
  | resolveDiscard a => exact answers_request _ a (keeps_resolveDiscard · s)
  | resolveRetry a => exact answers_request _ a (keeps_resolveRetry · s)
  | readClass a => exact answers_request _ a fun _ => answerKeeps_ite _ fun _ => answerKeeps_read _
  | setClass a => exact answers_request _ a (keeps_ownSetClass · s)
  | readPlan a => exact answers_request _ a (keeps_ownReadPlan · s)
  | setPlan a => exact answers_request _ a (keeps_ownSetPlan · s)
  | readLane a => exact answers_request _ a fun _ => answerKeeps_withLane fun _ => answerKeeps_read _
  | setLane a => exact answers_request _ a (keeps_ownSetLane · s)
  | suspendLane a => exact answers_request _ a (keeps_ownSuspendLane · s)
  | resumeLane a => exact answers_request _ a (keeps_ownResumeLane · s)
  | loopbackLane a => exact answers_request _ a (keeps_ownLoopbackLane · s)
  | resetLane a => exact answers_request _ a fun _ => answerKeeps_withLane fun l => keeps_resetLane l s
  | portLineActivity p => exact answers_event (keeps_lineActivity p s)
  | fill p => exact answers_event (keeps_takeWord p (fun _ t => .refl t) s)
  | malformedWord p => exact answers_event (keeps_takeMalformed p s)
  | stationSilenceTimeout p => exact answers_event (keeps_silenceTimeout p s)
  | queryTimerExpiry p => exact answers_event (keeps_queryExpiry p s)
  | ident p w =>
    exact answers_event (f := fun s => if Ident.valid w then identTaken p w s else takeMalformed p s) (keeps_ident p w s)
  | status p w => exact answers_event (keeps_takeWord p (keeps_statusTaken p w) s)
  | edge p tag k pos => exact answers_event (keeps_takeWord p (keeps_edgeTaken tag k pos) s)
  | thick p tag v level =>
    exact answers_event (keeps_takeWord p (keeps_reportTaken tag (f := fun r => { r with thick := some (v, level) })
      fun _ => ⟨rfl, rfl, .rfl⟩) s)
  | patch p tag pattern =>
    exact answers_event (keeps_takeWord p (keeps_reportTaken tag (f := fun r => { r with pattern := some pattern })
      fun _ => ⟨rfl, rfl, .rfl⟩) s)
  | pickTimerExpiry e => exact answers_event (keeps_onEntry _ fun x _ => keeps_pickExpiry e x s)
  | ready p tag sides => exact answers_event (keeps_takeWord p (keeps_readyTaken tag sides) s)
  | imageStart p tag side blocks => exact answers_event (keeps_takeWord p (keeps_imageStartTaken tag side blocks) s)
  | block p data =>
    exact answers_event (f := fun s => if data.length = Config.blockBytes then takeWord p (blockTaken data) s
      else takeMalformed p s) (keeps_block p data s)
  | imageEnd p check => exact answers_event (keeps_takeWord p (keeps_imageEndTaken check) s)
  | stallTimerExpiry e => exact answers_event (keeps_stallExpiry e s)
  | downstreamWordLeaves p => exact answers_event (keeps_wordLeaves p s)
  | laneLineActivity l =>
    exact answers_event (keeps_modLane l _ s (fun _ => laneOk_activity) (Lane.activity_params _))
  | archiveFill l => exact answers_event (keeps_takeLaneWord l .refl s)
  | laneMalformedWord l => exact answers_event (keeps_laneMalformed l s)
  | laneSilenceTimeout l => exact answers_event (keeps_laneSilence l s)
  | accept l d => exact answers_event (keeps_takeAnswer l (keeps_acceptTaken l d) s)
  | secured l d => exact answers_event (keeps_takeAnswer l (keeps_securedTaken l d) s)
  | refuse l d r => exact answers_event (keeps_takeAnswer l (keeps_refuseTaken l d r) s)
  | archiveStatus l r =>
    exact answers_event (keeps_takeLaneWord l (fun t => (keeps_modLane l _ t).trans (keeps_arbitrate _)) s)
  | ackTimeout l d => exact answers_event (keeps_deliveryExpiry l d .awaitAccept s)
  | secureTimeout l d => exact answers_event (keeps_deliveryExpiry l d .awaitSecure s)
  | laneWordLeaves l => exact answers_event (keeps_laneLeaves l s)
  | settingsEntryWritten => exact answers_writeNext s

/-- Every step keeps every invariant, the Command Port's own included. -/
theorem keeps_step (h : step s = .next t) : KeepsRecords s t ∧ (PortOk s → PortOk t) := by
  unfold step at h
  split at h
  · cases h
    exact ⟨(keeps_tick s).records, portOk_of_portPart (keeps_tick s).port⟩
  · next c rest _ =>
    obtain ⟨u, hu, hk, -, hp⟩ := answers_exec c { s with pending := rest }
    cases hu.symm.trans h
    exact ⟨.trans .port hk, hp⟩

/-! The obligations -/

/-- Settles O2: every arm of the dispatch answers with a next state, whose queue is that of the state it is taken in. -/
theorem everyCommandAnswersAndLeavesTheQueue : Obligations.EveryCommandAnswersAndLeavesTheQueue := by
  unfold Obligations.EveryCommandAnswersAndLeavesTheQueue
  intro c s
  obtain ⟨t, ht, -, hq, -⟩ := answers_exec c s
  exact ⟨t, ht, hq⟩

/-- Settles O3: the rules of the keyed collections, and the tables and reservations that every step keeps. -/
theorem tablesStayCanonical : Obligations.TablesStayCanonical := by
  unfold Obligations.TablesStayCanonical
  refine ⟨fun α t k j v f => ⟨Tab.get_put t k j v, Tab.get_modify t k j f, Tab.get_del t k j⟩,
    fun k s => ⟨fun _ => rfl, fun _ => rfl, fun _ => rfl, fun _ => rfl, fun _ _ => rfl, fun _ _ => rfl⟩,
    fun s t ht h => ?_, fun s t ⟨ht, hr⟩ h => ?_⟩ <;> obtain ⟨hk, -⟩ := keeps_step h
  · exact hk.tables ht
  · exact hk.reserved ht hr

/-- Settles O4: every update of the attention set keeps its order, and every command that moves the Command Port keeps its
buffers in agreement. -/
theorem attentionAndPortStayInOrder : Obligations.AttentionAndPortStayInOrder := by
  unfold Obligations.AttentionAndPortStayInOrder
  exact ⟨fun s t ha h => (keeps_step h).1.attention ha, fun s t hp h => (keeps_step h).2 hp⟩

/-- Settles O5: every request checks the ranges of what it sets, and a load takes stored settings in range. -/
theorem settingsStayInRange : Obligations.SettingsStayInRange := by
  unfold Obligations.SettingsStayInRange
  exact fun s t hr h => (keeps_step h).1.ranges hr

/-- Settles O6: deliveries are offered only where the gate is open, and blocks copied only where no FIFO is full. -/
theorem laneWindowsStayInOrder : Obligations.LaneWindowsStayInOrder := by
  unfold Obligations.LaneWindowsStayInOrder
  exact fun s t ⟨hr, hl⟩ h => ⟨(keeps_step h).1.ranges hr, (keeps_step h).1.lanes hr hl⟩

/-- Settles O7: a grant is issued only where its station picks nothing and has room in its path. -/
theorem grantsStaySingle : Obligations.GrantsStaySingle := by
  unfold Obligations.GrantsStaySingle
  exact fun s t ⟨ht, hg⟩ h => ⟨(keeps_step h).1.tables ht, (keeps_step h).1.grants ht hg⟩

/-- Settles O8: every record that leaves the table is counted once, and every binding made or parted on both sides. -/
theorem batchAccountsBalance : Obligations.BatchAccountsBalance := by
  unfold Obligations.BatchAccountsBalance
  rintro s t ⟨ht, hr, hb, ha⟩ h
  obtain ⟨hk, -⟩ := keeps_step h
  have ht' := hk.tables ht
  obtain ⟨hb', ha'⟩ := hk.books (fun _ => False) ht hr ⟨(bindingsFound_iff ht).2 hb, (accountsBut_all ht).2 ha⟩
  exact ⟨ht', hk.reserved ht hr, (bindingsFound_iff ht').1 hb', (accountsBut_all ht').1 ha'⟩

end Sys2Proof.Machine
end

section
/-! The step, the starts and the Command Port: what a command leaves while RESET_N is low, the frames a busy or IDLE port
judges, and the statements about them (R159–R161, R169, R171). -/

set_option Elab.async false

namespace Sys2Proof.Machine

variable {s t : State} {c : Instr} {code : Byte}

/-! How a command reaches its owner -/

/-- A request its owner refuses. -/
theorem refuses_of {α : Type} {v : α} {owner : α → State → Answer} {r : Result} (ht : Takes s) (ho : owner v s = .refuse r)
    (hc : exec c s = .next (request code (.given v) owner s) := by rfl) : Refuses c code r s := by
  rw [Refuses, hc, request_refused ht ho]

/-- A request its owner takes. -/
theorem replies_of {α : Type} {v : α} {owner : α → State → Answer} {d : ReplyData} (ht : Takes s)
    (ho : owner v s = .done t d) (hc : exec c s = .next (request code (.given v) owner s) := by rfl) :
    Replies c code d s t := by
  rw [Replies, hc, request_done ht ho]

/-- A malformed parameter area is refused, whatever the owner would do. -/
theorem refuses_malformed (ht : Takes s)
    (hc : exec c s = .next (request code .malformed (fun (_ : Unit) s => .done s .empty) s) := by rfl) :
    Refuses c code .badValue s := by
  rw [Refuses, hc, request_malformed ht]

/-- An event while links, lanes and timers run. -/
theorem leaves_of_runs {f : State → State} (hs : Runs s) (hc : exec c s = event f s := by rfl) : Leaves c s (f s) := by
  rw [Leaves, hc, event_runs f hs]

/-- Every write transaction's frame is discarded at a busy port. -/
theorem exec_of_sendsFrame (h : sendsFrame c = true) :
    ∃ f : State → State, ∀ s, exec c s = .next (unheld (fun s => if busy s then overrun s else f s) s) := by
  cases c <;> simp [sendsFrame, requestCode] at h <;> exact ⟨_, fun _ => rfl⟩

theorem leaves_overrun (h : sendsFrame c = true) (hr : s.resetLow = false) (hb : s.cp.phase ≠ .idle) :
    Leaves c s (overrun s) := by
  obtain ⟨f, hf⟩ := exec_of_sendsFrame h
  rw [Leaves, hf, unheld_of_high _ hr, if_pos (by simp [busy, hb])]

theorem refuses_of_badArea (ht : Takes s) (hc : requestCode c = some code) (hb : badArea c = true) :
    Refuses c code .badValue s := by
  unfold badArea at hb
  split at hb
  case h_50 => cases hb
  all_goals
    cases hc
    exact refuses_malformed ht

/-- A frame at an IDLE port is judged. -/
theorem frame_of_takes (f : State → State) (ht : Takes s) :
    Host.Outcome.next (unheld (fun s => if busy s then overrun s else f s) s) =
      (.next (f s) : Host.Outcome State Fault Refusal) := by
  have hb : ¬ busy s = true := fun hb => of_decide_eq_true hb ht.2
  rw [unheld_of_high _ ht.1, if_neg hb]

/-- Settles O11, by the state of the port: a busy one discards every frame, an IDLE one judges its check, its code and its
parameter area. -/
theorem portJudgesFrames : Obligations.PortJudgesFrames := by
  unfold Obligations.PortJudgesFrames
  refine ⟨fun c s hf hr hb => leaves_overrun hf hr hb, fun s ht => ⟨fun code => frame_of_takes _ ht,
    fun code => frame_of_takes _ ht, fun c code hc hb => refuses_of_badArea ht hc hb⟩, fun _ _ _ _ => rfl⟩

/-! The step -/

theorem step_of_pending (hs : s.pending = []) : step s = .next (tick s) := by
  rw [step, hs]

theorem tick_of_runs (hs : Runs s) : tick s = { s with
    clock := s.clock + 1
    ports := s.ports.map Port.tick
    entries := s.entries.map fun p => (p.1, { p.2 with timer := p.2.timer.tick })
    uploads := s.uploads.map fun p => (p.1, { p.2 with stall := p.2.stall.tick })
    lanes := s.lanes.map Lane.tick } := if_neg (by simp [hs.1, hs.2])

theorem tick_of_not_runs (hs : ¬ Runs s) : tick s = s := by
  refine if_pos ?_
  cases hr : s.resetLow with
  | true => rfl
  | false => exact Bool.eq_true_of_not_eq_false fun hl => hs ⟨hr, hl⟩

/-- Settles O1, by the front of the queue and, where it is empty, by whether links, lanes and timers run. -/
theorem stepTakesTheFront : Obligations.StepTakesTheFront := by
  unfold Obligations.StepTakesTheFront
  refine ⟨fun n x l => ⟨rfl, rfl, rfl, rfl, rfl⟩, fun c s => rfl, fun s hs => ⟨fun hr => ?_, fun hr => ?_⟩⟩
  · rw [step_of_pending hs, tick_of_runs hr]
  · rw [step_of_pending hs, tick_of_not_runs hr]

/-! Starts -/

/-- A start leaves the blocks in their reset state with the loaded settings, field by field (R169). -/
theorem startAfresh_eq (s : State) : startAfresh s = freshState s := by
  obtain ⟨-, hlanes, -⟩ := startAfresh_settings s
  calc startAfresh s = { freshState s with lanes := (startAfresh s).lanes } := rfl
    _ = freshState s := by rw [hlanes]; rfl

theorem endLoad_of_ok (h : s.store.checkOk = true) : endLoad s =
    { freshState s with loading := false, cp := { s.cp with phase := .idle }, storeState := .valid } := by
  rw [endLoad, if_pos h, startAfresh_eq]

/-- The defaults mask no condition. -/
theorem endLoad_of_not_ok (h : s.store.checkOk = false) : endLoad s =
    { freshState s with
      loading := false, cp := { s.cp with phase := .idle }, storeState := .defaulted
      attention := [(.settingsDefaulted, 0)] } := by
  have hmask : (freshState s).room.mask = [] := by simp [freshState, loaded, h, defaultSettings]
  rw [endLoad, if_neg (by simp [h]), startAfresh_eq, raise_of_unmasked 0 (by simp [hmask])]
  rfl

/-- While RESET_N is low, only a start and the line itself change anything (R169). -/
theorem leaves_of_low (hr : s.resetLow = true) (hp : c ≠ .powerUp) (hn : c ≠ .resetNRelease) (ha : c ≠ .resetNAssert) :
    Leaves c s s := by
  have hevent : ∀ f, event f s = .next s := fun f => event_quiet f (by simp [hr])
  have hframe : ∀ f, Host.Outcome.next (unheld f s) = (.next s : Host.Outcome State Fault Refusal) :=
    fun f => congrArg _ (unheld_of_low f hr)
  cases hf : sendsFrame c with
  | true =>
    obtain ⟨f, hc⟩ := exec_of_sendsFrame hf
    exact (hc s).trans (hframe _)
  | false =>
    cases c with
    | powerUp => exact absurd rfl hp
    | resetNRelease => exact absurd rfl hn
    | resetNAssert => exact absurd rfl ha
    | ignoredTransaction b => rfl
    | settingsLoadEnd | readTransaction => exact hframe _
    | ident p w => exact hevent fun s => if Ident.valid w then identTaken p w s else takeMalformed p s
    | block p d => exact hevent fun s => if d.length = Config.blockBytes then takeWord p (blockTaken d) s else takeMalformed p s
    | saveSettingsCompletion | saveSettingsWriteFailure | settingsEntryWritten | portLineActivity | fill | malformedWord
    | stationSilenceTimeout | queryTimerExpiry | status | edge | thick | patch | pickTimerExpiry | ready | imageStart
    | imageEnd | stallTimerExpiry | downstreamWordLeaves | laneLineActivity | archiveFill | laneMalformedWord
    | laneSilenceTimeout | accept | secured | refuse | archiveStatus | ackTimeout | secureTimeout | laneWordLeaves =>
      exact hevent _
    | _ => cases hf

/-- A stored triple is the ABSENT entry at its index (R57). -/
theorem get_rebuiltEntries (d : Vector (Option (StationId × Text)) 24) (e : Fin 24) :
    (rebuiltEntries d).get e = d[e].map fun x => { id := x.1, name := x.2 } := by
  have hwf := wf_rebuiltEntries d
  refine Option.ext fun x => ?_
  rw [← Tab.mem_iff_get hwf, mem_rebuiltEntries]
  constructor
  · rintro ⟨i, y, hy, hxy⟩
    obtain ⟨hie, hx⟩ := Prod.mk.inj hxy
    rw [Fin.ext hie, hy, hx]
    rfl
  · intro hx
    obtain ⟨y, hy, hyx⟩ := Option.map_eq_some_iff.1 hx
    exact ⟨e, y, hy, by rw [← hyx]⟩

/-- Settles O9, by evaluation. -/
theorem resetState : Obligations.ResetState := by
  unfold Obligations.ResetState
  refine ⟨⟨?_, ?_, ?_, ?_, ?_, ?_, ?_, ?_, ?_⟩, rfl, rfl, rfl, rfl, rfl, rfl, rfl, rfl, rfl, rfl, ?_, ?_, rfl, ?_, ?_, ?_, ?_,
    ?_, ?_⟩ 
  all_goals decide

end Sys2Proof.Machine
end

section
/-! Starts and loads, read transactions, the room requests and the Settings Store (R159, R160, R163, R167–R170). -/

set_option Elab.async false

namespace Sys2Proof.Machine

variable {s t : State} {c : Instr} {code : Byte}

theorem leaves_settingsLoadEnd (hr : s.resetLow = false) :
    Leaves .settingsLoadEnd s (if s.loading then endLoad s else s) :=
  congrArg _ (unheld_of_high (fun s => if s.loading then endLoad s else s) hr)

/-- Settles O10, by the level of RESET_N, whether the load lasts and whether the store's check agrees. -/
theorem startsHeldAndLoads : Obligations.StartsHeldAndLoads := by
  unfold Obligations.StartsHeldAndLoads
  refine ⟨⟨by decide, fun s => ⟨fun h => if_pos h, fun h => if_neg (by simp [h])⟩, fun d =>
    ⟨wf_rebuiltEntries d, get_rebuiltEntries d⟩⟩, fun s => ⟨?_, fun hr => ?_, fun hr => ?_, rfl⟩,
    fun c s hr hp hn ha => leaves_of_low hr hp hn ha, fun s hr => ⟨fun hl hc => ?_, fun hl hc => ?_, fun hl => ?_⟩⟩
  · exact congrArg (fun t => Host.Outcome.next { t with resetLow := s.resetLow }) (startAfresh_eq s)
  · exact congrArg _ ((if_pos hr).trans (startAfresh_eq s))
  · exact congrArg _ (if_neg (by simp [hr]))
  · have h := leaves_settingsLoadEnd hr
    rwa [if_pos hl, endLoad_of_ok hc] at h
  · have h := leaves_settingsLoadEnd hr
    rwa [if_pos hl, endLoad_of_not_ok hc] at h
  · have h := leaves_settingsLoadEnd hr
    rwa [if_neg (by simp [hl])] at h

/-! Read transactions -/

theorem Reply.frame_eq (r : Reply) {l : List Byte}
    (hl : l = numBytes 2 (r.data.bytes.length + 5) ++ [r.code, r.result.code, if r.overrun then 1 else 0] ++ r.data.bytes) :
    r.frame = l ++ numBytes 2 (crc16 l).toNat := by
  have hover : numBytes 1 r.overrun.toNat = [if r.overrun then 1 else 0] := by cases r.overrun <;> rfl
  have hbody : l = numBytes 2 (r.data.bytes.length + 5) ++
      (r.code :: r.result.code :: numBytes 1 r.overrun.toNat ++ r.data.bytes) := by
    rw [hl, hover]
    simp
  rw [hbody]
  rfl

theorem replyFrame_of_ready {r : Reply} (hp : s.cp.phase = .replyReady) (hr : s.cp.reply = some r) :
    replyFrame s = r.frame := by
  rw [replyFrame, hp, hr]

theorem replyFrame_of_not_ready (hp : s.cp.phase ≠ .replyReady) : replyFrame s = emptyFrame := by
  unfold replyFrame
  split
  · exact absurd ‹_› hp
  · rfl

theorem leaves_readTransaction {n : Nat} (hr : s.resetLow = false) (ht : readFrame n s = t) :
    Leaves (.readTransaction n) s t := congrArg _ ((unheld_of_high _ hr).trans ht)

theorem readFrame_of_not_ready {n : Nat} (hp : s.cp.phase ≠ .replyReady) :
    readFrame n s = { s with cp := { s.cp with out := [0, 0].take n } } := by
  rw [readFrame, replyFrame_of_not_ready hp, if_neg fun h => hp h.1, emptyFrame]

theorem readFrame_of_short {n : Nat} {r : Reply} (hp : s.cp.phase = .replyReady) (hr : s.cp.reply = some r)
    (hn : n < r.frame.length) : readFrame n s = { s with cp := { s.cp with out := r.frame.take n } } := by
  rw [readFrame, replyFrame_of_ready hp hr, if_neg fun h => Nat.not_le.2 hn h.2]

theorem readFrame_of_whole {n : Nat} {r : Reply} (hp : s.cp.phase = .replyReady) (hr : s.cp.reply = some r)
    (hn : r.frame.length ≤ n) :
    readFrame n s = { replyRead s with cp := { (replyRead s).cp with out := r.frame } } := by
  rw [readFrame, replyFrame_of_ready hp hr, if_pos ⟨hp, hn⟩, List.take_of_length_le hn]

/-- Settles O12, by how many bytes of the frame are clocked and whether a reset is due. -/
theorem readTransactionTakesTheReply : Obligations.ReadTransactionTakesTheReply := by
  unfold Obligations.ReadTransactionTakesTheReply
  refine ⟨fun r l hl => r.frame_eq hl, fun n s hl => ⟨fun hp => leaves_readTransaction hl (readFrame_of_not_ready hp),
    fun r hp hr => ⟨fun hn => leaves_readTransaction hl (readFrame_of_short hp hr hn), fun hn hd => ?_, fun hn hd => ?_⟩⟩,
    fun b s => rfl⟩
  · have hread : replyRead s = { s with cp := { s.cp with phase := .idle, reply := none } } := if_neg (by simp [hd])
    refine leaves_readTransaction hl ((readFrame_of_whole hp hr hn).trans ?_)
    rw [hread]
  · have hread : replyRead s = freshState s := (if_pos hd).trans (startAfresh_eq s)
    refine leaves_readTransaction hl ((readFrame_of_whole hp hr hn).trans ?_)
    rw [hread]
    rfl

/-! Room requests -/

theorem Config.within_iff {lo hi v : Nat} : Config.within lo hi v = true ↔ lo ≤ v ∧ v ≤ hi := by
  simp [Config.within]

theorem optOk_iff {q : Nat → Bool} {o : Option Nat} : optOk q o = true ↔ ∀ v, o = some v → q v = true := by
  cases o <;> simp [optOk]

theorem roomArgsOk_iff (a : RoomArgs) : roomArgsOk a = true ↔
    (a.share ≠ none ∨ a.silence ≠ none ∨ a.pickTimeout ≠ none ∨ a.jamSlack ≠ none) ∧
    (∀ v, a.share = some v → 4 ≤ v ∧ v ≤ 64) ∧ (∀ v, a.silence = some v → 5 ≤ v ∧ v ≤ 100) ∧
    (∀ v, a.pickTimeout = some v → 50 ≤ v ∧ v ≤ 2000) ∧ ∀ v, a.jamSlack = some v → 20 ≤ v ∧ v ≤ 2000 := by
  simp only [roomArgsOk, Bool.and_eq_true, Bool.or_eq_true, optOk_iff, Config.shareOk, Config.silenceOk,
    Config.pickTimeoutOk, Config.jamSlackOk, Config.within_iff, Option.isSome_iff_ne_none, or_assoc, and_assoc]

theorem mem_attnKinds (k : AttnKind) : k ∈ attnKinds := by cases k <;> decide

/-- Settles O17, by each request's owner. -/
theorem roomRequests : Obligations.RoomRequests := by
  unfold Obligations.RoomRequests
  refine ⟨roomArgsOk_iff, fun s ht => ⟨?_, fun a ha => ?_, fun a ha r hr => ?_, fun n hn => ?_, fun n hn => ?_⟩, fun s ht => ?_⟩
  · exact replies_of (owner := ownReadRoom) ht rfl
  · exact refuses_of (owner := ownSetRoom) ht (if_neg (Bool.eq_false_iff.1 ha))
  · have hroom : s.room.set a = r := hr.symm
    exact replies_of (owner := ownSetRoom) ht ((if_pos ha).trans (by rw [hroom]))
  · exact refuses_of (owner := ownSetAttentionMask) ht (by rw [ownSetAttentionMask, maskOfNum, if_neg (Nat.not_lt.2 hn)])
  · refine ⟨attnKinds.filter fun k => n.testBit (attnRank k), fun k => ?_, ?_⟩
    · rw [List.mem_filter, and_iff_right (mem_attnKinds k)]
    · exact replies_of (owner := ownSetAttentionMask) ht (by rw [ownSetAttentionMask, maskOfNum, if_pos hn])
  · exact replies_of (owner := ownResetPart) ht rfl

/-! Raises -/

theorem mem_attnInsert_of_mem {a x : Attn} {l : List Attn} (h : x ∈ l) : x ∈ attnInsert a l := by
  induction l with
  | nil => cases h
  | cons b l ih =>
    unfold attnInsert
    split_ifs
    · exact List.mem_cons_of_mem a h
    · exact h
    · exact List.mem_cons.2 ((List.mem_cons.1 h).imp_right ih)

/-- Settles O14, by whether the kind is masked. -/
theorem raiseEntersAnUnmaskedPair : Obligations.RaiseEntersAnUnmaskedPair := by
  unfold Obligations.RaiseEntersAnUnmaskedPair
  intro k i s hi hs
  by_cases hk : k ∈ s.room.mask
  · have hraise : raise k i s = s := if_pos hk
    rw [hraise]
    exact ⟨rfl, fun a => ⟨.inl, fun h => h.resolve_right fun hn => hn.1 hk⟩⟩
  · refine ⟨by rw [raise_of_unmasked i hk], fun a => ⟨fun h => ?_, fun h => ?_⟩⟩
    · rw [raise_of_unmasked i hk] at h
      exact (mem_of_mem_attnInsert h).elim (fun ha => .inr ⟨hk, ha⟩) .inl
    · rcases h with h | ⟨-, rfl⟩
      · rw [raise_of_unmasked i hk]
        exact mem_attnInsert_of_mem h
      · exact mem_attention_raise_self hk hi hs

/-! The Settings Store -/

theorem sameEntry_room (a b : Settings) : sameEntry a b 0 = true ↔ a.room = b.room := decide_eq_true_iff

theorem sameEntry_lane (a b : Settings) (l : Fin 4) : sameEntry a b (1 + l.val) = true ↔ a.lanes[l] = b.lanes[l] := by
  rw [sameEntry, if_neg (by omega), if_pos (by omega)]
  simp

theorem sameEntry_class (a b : Settings) (k : Fin 64) : sameEntry a b (5 + k.val) = true ↔ a.classes[k] = b.classes[k] := by
  rw [sameEntry, if_neg (by omega), if_neg (by omega), if_pos (by omega)]
  simp

theorem sameEntry_plan (a b : Settings) (n : Fin 16) : sameEntry a b (69 + n.val) = true ↔ a.plans[n] = b.plans[n] := by
  rw [sameEntry, if_neg (by omega), if_neg (by omega), if_neg (by omega), if_pos (by omega)]
  simp

theorem sameEntry_directory (a b : Settings) (e : Fin 24) :
    sameEntry a b (85 + e.val) = true ↔ a.directory[e] = b.directory[e] := by
  rw [sameEntry, if_neg (by omega), if_neg (by omega), if_neg (by omega), if_neg (by omega)]
  simp

theorem getElem?_copyAt_self {α : Type} {n i : Nat} (v t : Vector α n) : (copyAt i v t)[i]? = v[i]? := by
  unfold copyAt
  cases hv : v[i]? with
  | some x =>
    obtain ⟨hi, -⟩ := Vector.getElem?_eq_some_iff.1 hv
    simp [hi]
  | none =>
    have hi : n ≤ i := Vector.getElem?_eq_none_iff.1 hv
    simp [hi]

theorem getElem?_copyAt_ne {α : Type} {n i j : Nat} (v t : Vector α n) (h : j ≠ i) : (copyAt i v t)[j]? = t[j]? := by
  unfold copyAt
  cases v[i]? with
  | some x => exact Vector.getElem?_setIfInBounds_ne h.symm
  | none => rfl

theorem sameEntry_writeEntry_self (c t : Settings) (i : Nat) : sameEntry c (writeEntry c t i) i = true := by
  unfold sameEntry writeEntry
  split_ifs <;> simp [getElem?_copyAt_self]

/-- Two contents agree in an entry where they agree in the entry's group, at its place there. -/
theorem sameEntry_of {a b : Settings} {j : Nat} (hroom : j = 0 → a.room = b.room := by exact fun _ => rfl)
    (hlane : j ≠ 0 → j < 5 → a.lanes[j - 1]? = b.lanes[j - 1]? := by exact fun _ _ => rfl)
    (hclass : ¬ j < 5 → j < 69 → a.classes[j - 5]? = b.classes[j - 5]? := by exact fun _ _ => rfl)
    (hplan : ¬ j < 69 → j < 85 → a.plans[j - 69]? = b.plans[j - 69]? := by exact fun _ _ => rfl)
    (hentry : ¬ j < 85 → a.directory[j - 85]? = b.directory[j - 85]? := by exact fun _ => rfl) :
    sameEntry a b j = true := by
  unfold sameEntry
  split_ifs with h0 h5 h69 h85
  · exact decide_eq_true (hroom h0)
  · exact decide_eq_true (hlane h0 h5)
  · exact decide_eq_true (hclass h5 h69)
  · exact decide_eq_true (hplan h69 h85)
  · exact decide_eq_true (hentry h85)

/-- An entry written leaves every other one alone. -/
theorem sameEntry_writeEntry_ne (c t : Settings) {i j : Nat} (h : j ≠ i) : sameEntry t (writeEntry c t i) j = true := by
  unfold writeEntry
  split_ifs
  · exact sameEntry_of (hroom := fun hj => by omega)
  · exact sameEntry_of (hlane := fun _ _ => (getElem?_copyAt_ne _ _ (by omega)).symm)
  · exact sameEntry_of (hclass := fun _ _ => (getElem?_copyAt_ne _ _ (by omega)).symm)
  · exact sameEntry_of (hplan := fun _ _ => (getElem?_copyAt_ne _ _ (by omega)).symm)
  · exact sameEntry_of (hentry := fun _ => (getElem?_copyAt_ne _ _ (by omega)).symm)

theorem workingSettings_spec (s : State) : (workingSettings s).room = s.room ∧ (workingSettings s).classes = s.classes ∧
    (∀ l : Fin 4, (workingSettings s).lanes[l] = s.lanes[l].params) ∧
    (∀ n : Fin 16, (workingSettings s).plans[n] = s.plans[n].body) ∧
    ∀ e : Fin 24, (workingSettings s).directory[e] = (s.entries.get e).map fun x => (x.id, x.name) := by
  refine ⟨rfl, rfl, fun l => ?_, fun n => ?_, fun e => ?_⟩ <;> simp [workingSettings]

/-! The events of a save -/

theorem writeNext_of_differing {v : Save} {i : Nat} {l : List Nat} (hv : s.save = some v)
    (hl : differing v.copy s.store.settings = i :: l) : writeNext s = { s with
      store := { settings := writeEntry v.copy s.store.settings i, checkOk := false }
      save := some { copy := v.copy, written := v.written + 1 } } := by
  rw [writeNext, hv]
  dsimp only
  rw [hl]
  rfl

theorem completeSave_of_save {v : Save} (hv : s.save = some v) : completeSave s = assemble 0x06 .ok
    (.count (v.written + (differing v.copy s.store.settings).length))
    { s with store := { settings := v.copy, checkOk := true }, storeState := .valid, save := none } := by
  rw [completeSave, hv]

theorem failSave_of_save {v : Save} (hv : s.save = some v) : failSave s = if saveWrites v s then
    assemble 0x06 .storeFault (.count v.written)
      { s with store := { s.store with checkOk := false }, storeState := .fault, save := none }
    else s := by
  rw [failSave, hv]

theorem saveWrites_iff {v : Save} : saveWrites v s = true ↔
    differing v.copy s.store.settings ≠ [] ∨ s.store.checkOk = false := by
  simp [saveWrites]

/-- Settles O18, by the entries of the copy that differ from the store's and the stored check. -/
theorem saveSettingsWritesTheStore : Obligations.SaveSettingsWritesTheStore := by
  unfold Obligations.SaveSettingsWritesTheStore
  refine ⟨fun s c hc => hc ▸ workingSettings_spec s, fun a b => ⟨rfl, sameEntry_room a b, sameEntry_lane a b,
    sameEntry_class a b, sameEntry_plan a b, sameEntry_directory a b⟩, fun s ht => frame_of_takes beginSave ht,
    fun s v hs hv => ⟨fun i l hl => ?_, ?_, fun hw => ?_, fun hd hc => ?_⟩,
    fun c t i j _ _ => ⟨sameEntry_writeEntry_self c t i, sameEntry_writeEntry_ne c t⟩⟩
  · exact writeNext_of_differing hv hl ▸ leaves_of_runs hs
  · exact completeSave_of_save hv ▸ leaves_of_runs hs
  · have hfail := (failSave_of_save hv).trans (if_pos (saveWrites_iff.2 hw))
    exact hfail ▸ leaves_of_runs hs
  · have hquiet : ¬ saveWrites v s = true := fun hw => (saveWrites_iff.1 hw).elim (fun h => h hd) (by simp [hc])
    have hfail := (failSave_of_save hv).trans (if_neg hquiet)
    have hleaves : Leaves .saveSettingsWriteFailure s (failSave s) := leaves_of_runs hs
    rwa [hfail] at hleaves

end Sys2Proof.Machine
end

section
/-! The Class Table and the Route Plan Table, and the requests that open and amend a batch (R3, R5, R16, R17, R109, R118,
R129). -/

set_option Elab.async false

namespace Sys2Proof

/-- Two changes that agree on the record at a key change it alike. -/
theorem Tab.modify_congr {α : Type} {m : Nat} {t : Tab α} {k : Nat} {v : α} {f g : α → α} (w : Tab.wf m t)
    (hv : t.get k = some v) (h : f v = g v) : t.modify k f = t.modify k g := by
  refine List.map_congr_left fun p hp => ?_
  by_cases hk : p.1 = k
  · have hpv : p.2 = v := Option.some.inj ((Tab.get_of_mem w (k := p.1) (v := p.2) hp).symm.trans (hk ▸ hv))
    rw [if_pos hk, if_pos hk, hpv, h]
  · rw [if_neg hk, if_neg hk]

theorem Tab.firstFree_eq_some {α : Type} {m h : Nat} {t : Tab α} : t.firstFree m = some h ↔
    h < m ∧ t.get h = none ∧ ∀ j < h, t.get j ≠ none := by
  rw [Tab.firstFree, List.find?_range_eq_some]
  simp only [Option.isNone_iff_eq_none, List.mem_range, Bool.not_eq_true', Option.isNone_eq_false_iff,
    Option.isSome_iff_ne_none]
  tauto

namespace Machine

variable {s t : State} {c : Instr} {code : Byte}

/-! Texts -/

theorem nameOk_iff {n : Nat} {l : Text} : nameOk n l = true ↔ l.length ≤ n ∧ ∀ c ∈ l, 32 ≤ c.toNat ∧ c.toNat ≤ 126 := by
  simp only [nameOk, Bool.and_eq_true, decide_eq_true_eq, List.all_eq_true, Config.within_iff]

/-! The Class Table and the Route Plan Table -/

theorem kindOfCode_eq_some {n : Nat} {k : ClassKind} : kindOfCode n = some k ↔ (n = 1 ∧ k = .document) ∨
    (n = 2 ∧ k = .separator) ∨ (n = 3 ∧ k = .batchEnd) ∨ (n = 4 ∧ k = .checkpointMark) := by
  unfold kindOfCode
  split
  case h_5 h1 h2 h3 h4 => exact ⟨nofun, by rintro (⟨h, -⟩ | ⟨h, -⟩ | ⟨h, -⟩ | ⟨h, -⟩) <;> contradiction⟩
  all_goals simp [eq_comm]

theorem laneChoice_eq_some {o : Option Nat} {r : Option (Fin 4)} : laneChoice o = some r ↔ o = r.map (·.val) := by
  cases o with
  | none => cases r <;> simp [laneChoice]
  | some n =>
    by_cases hn : n < 4
    · cases r with
      | none => simp [laneChoice, hn]
      | some l => simp [laneChoice, hn, Fin.ext_iff]
    · cases r with
      | none => simp [laneChoice, hn]
      | some l =>
        have hne : n ≠ l.val := fun h => hn (h ▸ l.isLt)
        simp [laneChoice, hn, hne]

theorem rowOk_iff {w : Row} : rowOk w = true ↔
    (w.primary = none → w.copy = none ∧ w.fallback = none ∧ w.secure = false) ∧
    ∀ p, w.primary = some p → w.copy ≠ some p ∧ w.fallback ≠ some p ∧ (w.fallback = none ∨ w.fallback ≠ w.copy) := by
  unfold rowOk
  cases w.primary <;> simp [and_assoc]

theorem rowOf_eq_some {a : RowArgs} {w : Row} : rowOf a = some w ↔
    a.primary = w.primary.map (·.val) ∧ a.copy = w.copy.map (·.val) ∧ a.fallback = w.fallback.map (·.val) ∧
      a.secure = w.secure ∧ rowOk w = true := by
  simp only [← laneChoice_eq_some]
  unfold rowOf
  constructor
  · intro h
    split at h
    · next hp hc hf =>
      dsimp only at h
      split at h
      · next hok =>
        cases h
        exact ⟨hp, hc, hf, rfl, hok⟩
      · cases h
    · cases h
  · rintro ⟨hp, hc, hf, hs, hok⟩
    rw [hp, hc, hf, hs]
    exact if_pos hok

theorem rowsOf_eq_some {l : List RowArgs} {v : Vector Row 8} : rowsOf l = some v ↔
    l.length = 8 ∧ ∀ i : Fin 8, ∃ a, l[i.val]? = some a ∧ rowOf a = some v[i] := by
  constructor
  · intro h
    unfold rowsOf at h
    split at h
    · split at h
      · next h0 h1 h2 h3 h4 h5 h6 h7 =>
        cases h
        refine ⟨rfl, fun i => ?_⟩
        match i with
        | 0 => exact ⟨_, rfl, h0⟩
        | 1 => exact ⟨_, rfl, h1⟩
        | 2 => exact ⟨_, rfl, h2⟩
        | 3 => exact ⟨_, rfl, h3⟩
        | 4 => exact ⟨_, rfl, h4⟩
        | 5 => exact ⟨_, rfl, h5⟩
        | 6 => exact ⟨_, rfl, h6⟩
        | 7 => exact ⟨_, rfl, h7⟩
      · cases h
    · cases h
  · rintro ⟨hl, h⟩
    match l, hl with
    | [a, b, c, d, e, f, g, k], _ =>
      have hrow : ∀ (i : Fin 8) (x : RowArgs), [a, b, c, d, e, f, g, k][i.val]? = some x → rowOf x = some v[i] :=
        fun i x hx => by
          obtain ⟨y, hy, hrow⟩ := h i
          rwa [Option.some.inj (hx.symm.trans hy)]
      rw [rowsOf, hrow 0 a rfl, hrow 1 b rfl, hrow 2 c rfl, hrow 3 d rfl, hrow 4 e rfl, hrow 5 f rfl, hrow 6 g rfl,
        hrow 7 k rfl]
      refine congrArg some (Vector.ext fun i hi => ?_)
      match i, hi with
      | 0, _ | 1, _ | 2, _ | 3, _ | 4, _ | 5, _ | 6, _ | 7, _ => rfl

/-- The rows of SET_PLAN are well formed exactly where they name eight rows of the table (R127, R129). -/
theorem rowsOf_iff {l : List RowArgs} {v : Vector Row 8} : rowsOf l = some v ↔ l.length = 8 ∧
    ∀ i : Fin 8, ∃ a, l[i.val]? = some a ∧
      a.primary = v[i].primary.map (·.val) ∧ a.copy = v[i].copy.map (·.val) ∧ a.fallback = v[i].fallback.map (·.val) ∧
      a.secure = v[i].secure ∧
      (a.primary = none → a.copy = none ∧ a.fallback = none ∧ a.secure = false) ∧
      ∀ m, a.primary = some m → a.copy ≠ some m ∧ a.fallback ≠ some m ∧ (a.fallback = none ∨ a.fallback ≠ a.copy) := by
  have hinj : Function.Injective (Option.map fun i : Fin 4 => i.val) := Option.map_injective Fin.val_injective
  rw [rowsOf_eq_some]
  refine and_congr_right fun _ => forall_congr' fun i => exists_congr fun a => and_congr_right fun _ => ?_
  rw [rowOf_eq_some, rowOk_iff]
  refine and_congr_right fun hp => and_congr_right fun hc => and_congr_right fun hf => and_congr_right fun hs => ?_
  rw [hp, hc, hf, hs]
  cases hprimary : v[i].primary with
  | none => simp
  | some q =>
    have hcopy : v[i].copy = some q ↔ v[i].copy.map (·.val) = some q.val := (hinj.eq_iff (b := some q)).symm
    have hback : v[i].fallback = some q ↔ v[i].fallback.map (·.val) = some q.val := (hinj.eq_iff (b := some q)).symm
    simp only [Option.map_some, Option.some.injEq, reduceCtorEq, false_implies, true_and, forall_eq', ne_eq, ← hcopy,
      ← hback, Option.map_eq_none_iff, hinj.eq_iff]

theorem planInUse_iff {n : Nat} {p : Plan} : planInUse s n p = true ↔
    0 < planUsers s n ∨ 0 < planAmenders s n ∨ 0 < p.captures := by
  simp [planInUse, or_assoc]

theorem ownSetPlan_of_ok {a : PlanArgs} {rows : Vector Row 8} (hn : nameOk 8 a.name = true)
    (hr : rowsOf a.rows = some rows) : ownSetPlan a s = if h : a.plan < 16 then
      (if planInUse s a.plan s.plans[a.plan] then .refuse .inUse
        else .done (modPlan a.plan (fun p => { p with body := { name := a.name, rows := rows } }) s) .empty)
      else .refuse .notFound := by
  rw [ownSetPlan, if_pos hn, hr]

/-- Settles O36, by the checks of each owner in their order. -/
theorem setClassAndSetPlan : Obligations.SetClassAndSetPlan := by
  unfold Obligations.SetClassAndSetPlan
  refine ⟨⟨fun n k => kindOfCode_eq_some, fun l => nameOk_iff, fun l v => rowsOf_iff, fun s n =>
    ⟨planUsers_eq s n, planAmenders_eq s n⟩⟩, fun a s ht => ⟨fun hbad => ?_, fun k hk hc => ⟨fun hi => ?_, fun hi => ?_⟩⟩,
    fun a s ht => ⟨fun hbad => ?_, fun rows hn hr => ⟨fun hp => ?_, fun hp => ⟨fun hu => ?_, fun hu ha hc => ?_⟩⟩⟩⟩
  · refine refuses_of (owner := ownSetClass) ht ?_
    unfold ownSetClass
    split
    · rfl
    · next k hk =>
      have hc := hbad.resolve_left (by simp [hk])
      exact if_pos hc
  · exact refuses_of (owner := ownSetClass) ht (by
      rw [ownSetClass, hk]
      exact (if_neg (Nat.not_lt.2 hc)).trans (dif_neg (Nat.not_lt.2 hi)))
  · exact replies_of (owner := ownSetClass) ht (by
      rw [ownSetClass, hk]
      exact (if_neg (Nat.not_lt.2 hc)).trans (dif_pos hi))
  · refine refuses_of (owner := ownSetPlan) ht ?_
    unfold ownSetPlan
    split
    · next hn =>
      rw [hbad.resolve_left (by simp [hn])]
    · rfl
  · exact refuses_of (owner := ownSetPlan) ht ((ownSetPlan_of_ok hn hr).trans (dif_neg (Nat.not_lt.2 hp)))
  · exact refuses_of (owner := ownSetPlan) ht
      ((ownSetPlan_of_ok hn hr).trans ((dif_pos hp).trans (if_pos (planInUse_iff.2 hu))))
  · have hfree : ¬ planInUse s a.plan s.plans[a.plan] = true := fun h =>
      (planInUse_iff.1 h).elim (fun h => by omega) fun h => h.elim (fun h => by omega) fun h => by omega
    refine replies_of (owner := ownSetPlan) ht ((ownSetPlan_of_ok hn hr).trans ((dif_pos hp).trans ((if_neg hfree).trans ?_)))
    rw [modPlan, dif_pos hp, hc]

end Machine
end Sys2Proof
end

section
/-! The requests that open, amend, bind, pause and close a batch, and the periodic target (R3–R5, R12, R16–R19, R21, R117–R119). -/

set_option Elab.async false

namespace Sys2Proof.Machine

variable {s t : State} {h : Nat} {b : Batch}

/-! Operands -/

theorem bandOk_iff {x : Band} : bandOk x = true ↔ 250 ≤ x.min ∧ x.min ≤ 4999 ∧ 251 ≤ x.max ∧ x.max ≤ 5000 ∧ x.min < x.max := by
  simp only [bandOk, Bool.and_eq_true, Config.bandMinOk, Config.bandMaxOk, Config.within_iff, decide_eq_true_eq, and_assoc]

theorem openBandOk_iff {lo hi : Option Nat} : openBandOk lo hi = true ↔ (lo = none ∧ hi = none) ∨
    ∃ l u, lo = some l ∧ hi = some u ∧ 250 ≤ l ∧ l ≤ 4999 ∧ 251 ≤ u ∧ u ≤ 5000 ∧ l < u := by
  unfold openBandOk
  cases lo <;> cases hi <;> simp [bandOk_iff]

theorem openArgsOk_iff (a : OpenArgs) : openArgsOk a = true ↔ labelOk a.label = true ∧
    ((a.bandMin = none ∧ a.bandMax = none) ∨ ∃ lo hi, a.bandMin = some lo ∧ a.bandMax = some hi ∧
      250 ≤ lo ∧ lo ≤ 4999 ∧ 251 ≤ hi ∧ hi ≤ 5000 ∧ lo < hi) ∧
    (∀ v, a.minGap = some v → v ≤ 2000) ∧ (∀ v, a.interval = some v → v ≤ 4096) ∧
    (∀ v, a.expected = some v → 1 ≤ v ∧ v ≤ 65535) ∧ (∀ v, a.suspectLimit = some v → v ≤ 15) ∧
    ∀ v, a.retries = some v → v ≤ 3 := by
  simp only [openArgsOk, Bool.and_eq_true, openBandOk_iff, optOk_iff, Config.minGapOk, Config.intervalOk, Config.expectedOk,
    Config.suspectLimitOk, Config.retriesOk, Config.within_iff, Nat.zero_le, true_and, and_assoc]

theorem amendNowOk_iff (a : AmendNowArgs) : amendNowOk a = true ↔ a.foreign = false ∧
    (a.label ≠ none ∨ a.expected ≠ none ∨ a.suspectLimit ≠ none ∨ a.interval ≠ none ∨ a.retries ≠ none) ∧
    (∀ l, a.label = some l → labelOk l = true) ∧ (∀ v, a.expected = some (some v) → 1 ≤ v ∧ v ≤ 65535) ∧
    (∀ v, a.suspectLimit = some v → v ≤ 15) ∧ (∀ v, a.interval = some v → v ≤ 4096) ∧
    ∀ v, a.retries = some v → v ≤ 3 := by
  have hexpected : a.expected.all (optOk Config.expectedOk) = true ↔ ∀ v, a.expected = some (some v) → 1 ≤ v ∧ v ≤ 65535 := by
    rw [← forall_congr' fun v => imp_congr_right fun _ => Config.within_iff]
    cases a.expected <;> simp [optOk_iff, Config.expectedOk]
  have hlabel : a.label.all labelOk = true ↔ ∀ l, a.label = some l → labelOk l = true := by cases a.label <;> simp
  simp only [amendNowOk, Bool.and_eq_true, Bool.or_eq_true, Bool.not_eq_true', hexpected, hlabel, optOk_iff,
    Config.suspectLimitOk, Config.intervalOk, Config.retriesOk, Config.within_iff, Nat.zero_le, true_and,
    Option.isSome_iff_ne_none, or_assoc]
  tauto

theorem amendBandOk_iff {o : Option (Option Band)} : amendBandOk o = true ↔ ∀ x, o = some (some x) → bandOk x = true := by
  unfold amendBandOk
  split
  · simp
  · next hn => exact ⟨fun _ x hx => absurd hx (hn x), fun _ => rfl⟩

theorem amendLaterOk_iff (a : AmendLaterArgs) : amendLaterOk a = true ↔ a.foreign = false ∧
    (a.plan ≠ none ∨ a.policy ≠ none ∨ a.band ≠ none ∨ a.minGap ≠ none) ∧
    (∀ b, a.band = some (some b) → 250 ≤ b.min ∧ b.min ≤ 4999 ∧ 251 ≤ b.max ∧ b.max ≤ 5000 ∧ b.min < b.max) ∧
    ∀ v, a.minGap = some v → v ≤ 2000 := by
  simp only [amendLaterOk, Bool.and_eq_true, Bool.or_eq_true, Bool.not_eq_true', amendBandOk_iff, bandOk_iff, optOk_iff,
    Config.minGapOk, Config.within_iff, Nat.zero_le, true_and, Option.isSome_iff_ne_none, or_assoc]
  tauto

theorem labelTaken_iff {k : Option Text} : labelTaken s h k = true ↔
    ∃ l, k = some l ∧ ∃ p ∈ s.batches, p.2.label = l ∧ p.1 ≠ h := by
  cases k with
  | none => simp [labelTaken]
  | some l =>
    simp only [labelTaken, Tab.find, List.find?_isSome, Bool.and_eq_true, decide_eq_true_eq, Option.some.injEq, exists_eq_left']

theorem findLabel_spec {l : Text} {p : Nat × Batch} (hp : findLabel s l = some p) : p ∈ s.batches ∧ p.2.label = l := by
  obtain ⟨hm, hq⟩ := Tab.find_spec hp
  exact ⟨hm, of_decide_eq_true hq⟩

/-! The periodic target (R118) -/

/-- The next multiple of `k` above `n` is a multiple above `n`, and no larger than any other. -/
theorem next_multiple {n k : Nat} (hk : k ≠ 0) : n < (n / k + 1) * k ∧ ∀ u, n < u → k ∣ u → (n / k + 1) * k ≤ u := by
  have hpos : 0 < k := Nat.pos_of_ne_zero hk
  refine ⟨?_, fun u hu hdvd => ?_⟩
  · rw [Nat.mul_comm]
    exact Nat.lt_mul_div_succ n hpos
  · obtain ⟨m, rfl⟩ := hdvd
    have hm : n / k < m := Nat.div_lt_of_lt_mul hu
    calc (n / k + 1) * k ≤ m * k := Nat.mul_le_mul_right k hm
      _ = k * m := Nat.mul_comm m k

theorem Batch.periodicTarget_eq_some (b : Batch) (t : Nat) : b.periodicTarget = some t ↔
    b.interval ≠ 0 ∧ t ≤ 65535 ∧ b.last < t ∧ b.interval ∣ t ∧ ∀ u, b.last < u → b.interval ∣ u → t ≤ u := by
  unfold Batch.periodicTarget
  by_cases hk : b.interval = 0
  · simp [hk]
  · obtain ⟨hlt, hleast⟩ := next_multiple (n := b.last) hk
    simp only [if_neg hk]
    constructor
    · intro ht
      split at ht
      · next hle =>
        cases ht
        exact ⟨hk, hle, hlt, Nat.dvd_mul_left _ _, hleast⟩
      · cases ht
    · rintro ⟨-, hle, hlast, hdvd, hmin⟩
      have heq : (b.last / b.interval + 1) * b.interval = t :=
        le_antisymm (hleast t hlast hdvd) (hmin _ hlt (Nat.dvd_mul_left _ _))
      rw [heq]
      exact if_pos hle

theorem Batch.periodicTarget_of_last_zero (hl : b.last = 0) (hk : b.interval ≤ 65535) :
    b.periodicTarget = if b.interval = 0 then none else some b.interval := by
  unfold Batch.periodicTarget
  split
  · rfl
  · simp only [hl, Nat.zero_div, Nat.zero_add, Nat.one_mul]
    exact if_pos hk

/-! OPEN_BATCH -/

theorem ownOpenBatch_of_not_ok {a : OpenArgs} (ha : openArgsOk a = false) : ownOpenBatch a s = .refuse .badValue :=
  if_pos (by simp [ha])

theorem ownOpenBatch_of_ok {a : OpenArgs} (ha : openArgsOk a = true) : ownOpenBatch a s =
    if 16 ≤ a.plan.getD 0 then .refuse .notFound
    else if (findLabel s a.label).isSome then .refuse .duplicateLabel
    else match s.batches.firstFree 48 with
      | none => .refuse .tableFull
      | some h => .done { s with batches := s.batches.put h (openedBatch a) } (.handle h) :=
  if_neg (by simp [ha])

/-- Settles O24, by the checks of OPEN_BATCH in their order. -/
theorem openBatchMakesTheRecord : Obligations.OpenBatchMakesTheRecord := by
  unfold Obligations.OpenBatchMakesTheRecord
  refine ⟨openArgsOk_iff, fun s => ⟨fun h => Tab.firstFree_eq_some, fun l => ⟨findLabel_eq_none, fun p => findLabel_spec⟩⟩,
    fun a s h ht ha hp hl hf c hc => ?_, fun a s ht => ⟨fun ha => ?_, fun ha hp => ?_, fun ha hp hl => ?_, fun ha hp hl hf => ?_⟩⟩
  · have hband : openBand a = a.bandMin.bind fun lo => a.bandMax.map fun hi => { min := lo, max := hi } := by
      unfold openBand
      cases a.bandMin <;> cases a.bandMax <;> rfl
    have hinterval : a.interval.getD 0 ≤ 65535 := by
      obtain ⟨-, -, -, hi, -⟩ := (openArgsOk_iff a).1 ha
      cases hv : a.interval with
      | none => simp
      | some v => exact le_trans (hi v hv) (by decide)
    have htarget : (openRecord a).periodicTarget = if a.interval.getD 0 = 0 then none else some (a.interval.getD 0) :=
      Batch.periodicTarget_of_last_zero rfl hinterval
    have hopened : openedBatch a = c := by
      rw [hc, openedBatch, htarget, openRecord, hband]
      rfl
    refine replies_of (owner := ownOpenBatch) ht ?_
    rw [ownOpenBatch_of_ok ha, if_neg (Nat.not_le.2 hp), hl, if_neg (by simp), hf, hopened]
  · exact refuses_of (owner := ownOpenBatch) ht (ownOpenBatch_of_not_ok ha)
  · exact refuses_of (owner := ownOpenBatch) ht ((ownOpenBatch_of_ok ha).trans (if_pos hp))
  · exact refuses_of (owner := ownOpenBatch) ht
      ((ownOpenBatch_of_ok ha).trans ((if_neg (Nat.not_le.2 hp)).trans (if_pos hl)))
  · refine refuses_of (owner := ownOpenBatch) ht ?_
    rw [ownOpenBatch_of_ok ha, if_neg (Nat.not_le.2 hp), hl, if_neg (by simp), hf]

/-! AMEND_BATCH -/

theorem expectedTooLow_iff {a : AmendNowArgs} : expectedTooLow a b = true ↔
    ∃ n, a.expected = some (some n) ∧ n < b.fed + b.picking := by
  unfold expectedTooLow
  split
  · next m hm => simp [hm]
  · next hne => exact ⟨nofun, fun ⟨n, hn, _⟩ => absurd hn (hne n)⟩

theorem not_expectedTooLow {a : AmendNowArgs} (hfit : ∀ n, a.expected = some (some n) → b.fed + b.picking ≤ n) :
    ¬ expectedTooLow a b = true := fun h => by
  obtain ⟨n, hn, hlt⟩ := expectedTooLow_iff.1 h
  exact Nat.not_lt.2 (hfit n hn) hlt

theorem ownAmendNow_of_ok {a : AmendNowArgs} (ha : amendNowOk a = true) : ownAmendNow a s = withBatch a.handle s fun b =>
    if b.state ≠ .open then .refuse .wrongState
    else if expectedTooLow a b then .refuse .badValue
    else if labelTaken s a.handle a.label then .refuse .duplicateLabel
    else
      .done (settle [a.handle] b.bound.toList s.lastAlloc
        (modBatch a.handle (fun b => (b.amendFields a).amendTarget a) s)) .empty := if_pos ha

/-- The target an IMMEDIATE amendment leaves: the periodic one where an interval is named and none is pending (R118). -/
theorem Batch.amendTarget_eq {a : AmendNowArgs} {target : Option Nat}
    (hkeep : a.interval = none ∨ b.target ≠ none → target = b.target)
    (hnew : ∀ k, a.interval = some k → b.target = none → ∀ v, target = some v ↔
      k ≠ 0 ∧ v ≤ 65535 ∧ b.last < v ∧ k ∣ v ∧ ∀ u, b.last < u → k ∣ u → v ≤ u) :
    (b.amendFields a).amendTarget a = { b with
      label := a.label.getD b.label, expected := a.expected.getD b.expected
      suspectLimit := a.suspectLimit.getD b.suspectLimit, interval := a.interval.getD b.interval
      retries := a.retries.getD b.retries, target := target } := by
  have hfields : (b.amendFields a).target = b.target := rfl
  unfold Batch.amendTarget
  cases hi : a.interval with
  | none =>
    rw [if_neg (by simp), hkeep (.inl hi), Batch.amendFields, hi]
  | some k =>
    cases ht : b.target with
    | some v =>
      rw [if_neg (by simp [hfields, ht]), hkeep (.inr (by simp [ht])), Batch.amendFields, hi, ht]
    | none =>
      have htarget : (b.amendFields a).periodicTarget = target := by
        refine Option.ext fun v => ?_
        rw [hnew k hi ht v, Batch.periodicTarget_eq_some, Batch.amendFields, hi]
        rfl
      rw [if_pos (by simp [hfields, ht]), htarget, Batch.amendFields, hi]

theorem ownAmendLater_of_ok {a : AmendLaterArgs} (ha : amendLaterOk a = true) (hb : batchAt s a.handle = some b) :
    ownAmendLater a s = if !optOk (fun n => decide (n < Config.planCount)) a.plan then .refuse .notFound
      else if b.state ≠ .open then .refuse .wrongState
      else .done (modBatch a.handle (fun x => { x with pendingAmend := some ((b.pendingAmend.getD {}).merge a) }) s)
        (.amendment ((b.pendingAmend.getD {}).merge a)) := (if_pos ha).trans (withBatch_of_some hb)

theorem Amendment.merge_getD (a : AmendLaterArgs) (o : Option Amendment) : (o.getD {}).merge a =
    { plan := a.plan.or (o.bind (·.plan)), policy := a.policy.or (o.bind (·.policy))
      band := a.band.or (o.bind (·.band)), minGap := a.minGap.or (o.bind (·.minGap)) } := by
  cases o <;> rfl

theorem planNamed_iff {o : Option Nat} : optOk (fun n => decide (n < Config.planCount)) o = true ↔
    ∀ n, o = some n → n < 16 := by
  rw [optOk_iff]
  exact forall₂_congr fun _ _ => decide_eq_true_iff

/-- Settles O25, by the checks of each mode in their order. -/
theorem amendBatchNowOrLater : Obligations.AmendBatchNowOrLater := by
  unfold Obligations.AmendBatchNowOrLater
  refine ⟨amendNowOk_iff, amendLaterOk_iff, fun s h k => labelTaken_iff, fun a s ht => ⟨fun ha => ?_, fun ha hb => ?_,
    fun b ha hb => ⟨fun hs => ?_, fun hs hlow => ?_, fun hs hfit => ⟨fun hl => ?_, fun hl hwf target hkeep hnew => ?_⟩⟩⟩,
    fun a s ht => ⟨fun ha => ?_, fun ha hb => ?_, fun b ha hb => ⟨fun hp => ?_, fun hp hs => ?_, fun hp hs m hm => ?_⟩⟩⟩
  · exact refuses_of (owner := ownAmendNow) ht (if_neg (Bool.eq_false_iff.1 ha))
  · exact refuses_of (owner := ownAmendNow) ht ((ownAmendNow_of_ok ha).trans (withBatch_of_none hb))
  · exact refuses_of (owner := ownAmendNow) ht ((ownAmendNow_of_ok ha).trans ((withBatch_of_some hb).trans (if_pos hs)))
  · refine refuses_of (owner := ownAmendNow) ht ?_
    rw [ownAmendNow_of_ok ha, withBatch_of_some hb, if_neg (not_not.2 hs), if_pos (expectedTooLow_iff.2 hlow)]
  · refine refuses_of (owner := ownAmendNow) ht ?_
    rw [ownAmendNow_of_ok ha, withBatch_of_some hb, if_neg (not_not.2 hs), if_neg (not_expectedTooLow hfit), if_pos hl]
  · refine replies_of (owner := ownAmendNow) ht ?_
    have hmod : modBatch a.handle (fun b => (b.amendFields a).amendTarget a) s = { s with
        batches := s.batches.modify a.handle fun b => { b with
          label := a.label.getD b.label, expected := a.expected.getD b.expected
          suspectLimit := a.suspectLimit.getD b.suspectLimit, interval := a.interval.getD b.interval
          retries := a.retries.getD b.retries, target := target } } := by
      obtain ⟨-, -, -, hbatches, -⟩ := hwf
      refine congrArg (fun u => { s with batches := u }) (Tab.modify_congr hbatches (get_of_batchAt hb).2 ?_)
      exact Batch.amendTarget_eq hkeep hnew
    rw [ownAmendNow_of_ok ha, withBatch_of_some hb, if_neg (not_not.2 hs), if_neg (not_expectedTooLow hfit), if_neg (Bool.eq_false_iff.1 hl), hmod]
  · exact refuses_of (owner := ownAmendLater) ht (if_neg (Bool.eq_false_iff.1 ha))
  · exact refuses_of (owner := ownAmendLater) ht ((if_pos ha).trans (withBatch_of_none hb))
  · refine refuses_of (owner := ownAmendLater) ht ((ownAmendLater_of_ok ha hb).trans (if_pos ?_))
    obtain ⟨n, hn, hge⟩ := hp
    rw [Bool.not_eq_true']
    exact Bool.eq_false_iff.2 fun h => Nat.not_lt.2 hge (planNamed_iff.1 h n hn)
  · refine refuses_of (owner := ownAmendLater) ht ?_
    rw [ownAmendLater_of_ok ha hb, planNamed_iff.2 hp, if_neg (by simp), if_pos hs]
  · refine replies_of (owner := ownAmendLater) ht ?_
    rw [ownAmendLater_of_ok ha hb, planNamed_iff.2 hp, if_neg (by simp), if_neg (not_not.2 hs), Amendment.merge_getD, hm]
    rfl

/-! BIND and UNBIND -/

theorem withEntry_of_none {e : Nat} {k : Entry → Answer} (he : entryAt s e = none) :
    withEntry e s k = .refuse .notFound := by
  rw [withEntry, he]

theorem withEntry_of_some {e : Nat} {x : Entry} {k : Entry → Answer} (he : entryAt s e = some x) : withEntry e s k = k x := by
  rw [withEntry, he]

theorem ownBind_of_some {e : Nat} {x : Entry} (hb : batchAt s h = some b) (hx : entryAt s e = some x) :
    ownBind ⟨h, e⟩ s = if b.state = .open ∧ b.bound = none ∧ x.feed = .idle then
      .done (settle [h] [e] s.lastAlloc (bindPair h e s)) .empty else .refuse .wrongState := by
  rw [ownBind, withBatch_of_some hb, withEntry_of_some hx]

theorem mayUnbind_iff {e : Nat} {x : Entry} : mayUnbind s e x = true ↔
    x.feed ≠ .running ∧ x.feed ≠ .clearing ∧ x.path = [] ∧ pickingOf s e = none := by
  simp [mayUnbind, and_assoc]

/-- Settles O26, by the states of the batch and the station. -/
theorem bindAndUnbind : Obligations.BindAndUnbind := by
  unfold Obligations.BindAndUnbind
  refine ⟨fun h e s ht => ⟨fun hnone => ?_, fun b x hb hx => ⟨fun hbad => ?_, fun hs hbound hf => ?_⟩⟩,
    fun h s ht => ⟨fun hb => refuses_of (owner := ownUnbind) ht (withBatch_of_none hb), fun b hb => ⟨fun hbad => ?_,
      fun e x hs hbound hx => ⟨fun hbusy => ?_, fun hrun hclear hpath hpick => ?_⟩⟩⟩⟩
  · refine refuses_of (owner := ownBind) ht ?_
    cases hb : batchAt s h with
    | none => exact withBatch_of_none hb
    | some b => exact (withBatch_of_some hb).trans (withEntry_of_none (hnone.resolve_left (by simp [hb])))
  · refine refuses_of (owner := ownBind) ht ((ownBind_of_some hb hx).trans (if_neg ?_))
    rintro ⟨hs, hbound, hf⟩
    exact hbad.elim (· hs) fun h => h.elim (· hbound) (· hf)
  · exact replies_of (owner := ownBind) ht ((ownBind_of_some hb hx).trans (if_pos ⟨hs, hbound, hf⟩))
  · refine refuses_of (owner := ownUnbind) ht ((withBatch_of_some hb).trans ?_)
    split
    · next e hs hbound => exact absurd hbad (by simp [hs, hbound])
    · rfl
  · refine refuses_of (owner := ownUnbind) ht ((withBatch_of_some hb).trans ?_)
    have hno : ¬ mayUnbind s e x = true := fun h => by
      obtain ⟨hrun, hclear, hpath, hpick⟩ := mayUnbind_iff.1 h
      simp [hrun, hclear, hpath, hpick] at hbusy
    rw [hs, hbound]
    dsimp only
    rw [hx]
    exact if_neg hno
  · refine replies_of (owner := ownUnbind) ht ((withBatch_of_some hb).trans ?_)
    rw [hs, hbound]
    dsimp only
    rw [hx]
    exact if_pos (mayUnbind_iff.2 ⟨hrun, hclear, hpath, hpick⟩)

/-! PAUSE, CHECKPOINT and CLOSE -/

theorem ownPause_of_open (on : Bool) (hb : batchAt s h = some b) (hs : b.state = .open) : ownPause on h s =
    .done (settle [h] b.bound.toList s.lastAlloc (modBatch h (fun b => { b with pauses := b.pauses.withHost on }) s))
      (.pauses (b.pauses.withHost on)) := (withBatch_of_some hb).trans (if_pos hs)

theorem ownPause_of_not_open (on : Bool) (hb : batchAt s h = some b) (hs : b.state ≠ .open) :
    ownPause on h s = .refuse .wrongState := (withBatch_of_some hb).trans (if_neg hs)

/-- Settles O27, by the state of the batch the handle names. -/
theorem pauseCheckpointAndClose : Obligations.PauseCheckpointAndClose := by
  unfold Obligations.PauseCheckpointAndClose
  refine ⟨fun s h b hb => by rw [phaseOf, hb]; rfl, fun h s ht => ⟨fun hb =>
    ⟨refuses_of (owner := ownPause true) ht (withBatch_of_none hb),
      refuses_of (owner := ownPause false) ht (withBatch_of_none hb)⟩, fun b hb => ⟨fun hs =>
    ⟨refuses_of (owner := ownPause true) ht (ownPause_of_not_open true hb hs),
      refuses_of (owner := ownPause false) ht (ownPause_of_not_open false hb hs)⟩, fun hs =>
    ⟨replies_of (owner := ownPause true) ht (ownPause_of_open true hb hs),
      replies_of (owner := ownPause false) ht (ownPause_of_open false hb hs)⟩⟩⟩,
    fun h s ht => ⟨fun hb => ⟨refuses_of (owner := ownCheckpoint) ht (withBatch_of_none hb),
      refuses_of (owner := ownClose) ht (withBatch_of_none hb)⟩, fun b hb => ⟨fun hbad => ?_,
      fun hs htarget hreach t hu => ?_, fun hs => ?_, fun hs => ?_⟩⟩⟩
  · refine refuses_of (owner := ownCheckpoint) ht ((withBatch_of_some hb).trans (if_neg ?_))
    rintro ⟨hs, htarget, hreach⟩
    exact hbad.elim (· hs) fun h => h.elim (· htarget) hreach
  · subst hu
    exact replies_of (owner := ownCheckpoint) ht ((withBatch_of_some hb).trans (if_pos ⟨hs, htarget, hreach⟩))
  · exact refuses_of (owner := ownClose) ht ((withBatch_of_some hb).trans (if_neg hs))
  · exact replies_of (owner := ownClose) ht ((withBatch_of_some hb).trans (if_pos hs))

end Sys2Proof.Machine
end

section
/-! The requests that read: what LIST_STATIONS, READ_STATION, READ_BATCH, FIND_BATCH, FIND_SHEET, READ_SHEET and LIST_SUSPECTS
list and find (R3, R6, R7, R37–R39, R59). -/

set_option Elab.async false

namespace Sys2Proof.Machine

variable {s t : State} {h n : Nat} {b : Batch} {r : Sheet}

theorem labelOk_iff {l : Text} : labelOk l = true ↔ 1 ≤ l.length ∧ l.length ≤ 16 ∧
    (∀ c ∈ l, 32 ≤ c.toNat ∧ c.toNat ≤ 126) ∧ l.head? ≠ some 32 ∧ l.getLast? ≠ some 32 := by
  simp only [labelOk, Bool.and_eq_true, decide_eq_true_eq, List.all_eq_true, Config.within_iff, and_assoc]

/-! Serials -/

theorem Sheet.serial_eq_some {x : Serial} : r.serial = some x ↔ r.batch = x.batch ∧ r.seq = some x.seq := by
  obtain ⟨b, q⟩ := x
  unfold Sheet.serial
  cases r.seq <;> simp

theorem findSerial_eq_none {x : Serial} : findSerial s x = none ↔ ∀ p ∈ s.sheets, p.2.serial ≠ some x := by
  simp only [findSerial, Tab.find, List.find?_eq_none, ne_eq, Sheet.serial_eq_some, Bool.and_eq_true, decide_eq_true_eq]

theorem findSerial_spec {x : Serial} {p : Nat × Sheet} (hp : findSerial s x = some p) :
    p ∈ s.sheets ∧ p.2.serial = some x := by
  obtain ⟨hm, hq⟩ := Tab.find_spec hp
  simp only [Bool.and_eq_true, decide_eq_true_eq] at hq
  exact ⟨hm, Sheet.serial_eq_some.2 hq⟩

theorem serialAt_eq_none {x : Serial} : serialAt s x = none ↔
    batchAt s x.batch = none ∨ ∀ p ∈ s.sheets, p.2.serial ≠ some x := by
  unfold serialAt
  cases hb : batchAt s x.batch with
  | none => simp
  | some b => simpa using findSerial_eq_none

theorem serialAt_spec {x : Serial} {p : Nat × Sheet} (hp : serialAt s x = some p) : p ∈ s.sheets ∧ p.2.serial = some x := by
  unfold serialAt at hp
  split at hp
  · exact findSerial_spec hp
  · cases hp

theorem batchAt_of_lt (hh : h < 48) : batchAt s h = s.batches.get h := if_pos hh

theorem batchAt_of_ge (hh : 48 ≤ h) : batchAt s h = none := if_neg (Nat.not_lt.2 hh)

/-- The one record of a serial is what the serial finds. -/
theorem serialAt_of_unique {x : Serial} (hx : x.batch < 48) (hb : (s.batches.get x.batch).isSome = true)
    (hm : (n, r) ∈ s.sheets) (hr : r.serial = some x) (hu : ∀ p ∈ s.sheets, p.2.serial = some x → p = (n, r)) :
    serialAt s x = some (n, r) := by
  cases hs : serialAt s x with
  | some p =>
    obtain ⟨hp, hpx⟩ := serialAt_spec hs
    rw [hu p hp hpx]
  | none =>
    rcases serialAt_eq_none.1 hs with hnone | hnone
    · rw [← batchAt_of_lt hx, hnone] at hb
      cases hb
    · exact absurd hr (hnone _ hm)

/-- The one record of a label is what the label finds. -/
theorem findLabel_of_unique {l : Text} (hm : (h, b) ∈ s.batches) (hb : b.label = l)
    (hu : ∀ p ∈ s.batches, p.2.label = l → p = (h, b)) : findLabel s l = some (h, b) := by
  cases hs : findLabel s l with
  | some p =>
    obtain ⟨hp, hpl⟩ := findLabel_spec hs
    rw [hu p hp hpl]
  | none => exact absurd hb (findLabel_eq_none.1 hs _ hm)

theorem inPath_iff : inPath s n r = true ↔ ∃ x, s.entries.get r.station = some x ∧ ∃ c ∈ x.path, c.slot = n := by
  unfold inPath
  cases s.entries.get r.station <;> simp

theorem uploadOf_eq_some {u : Upload} : uploadOf s n r = some u ↔ s.uploads.get r.station = some u ∧ u.slot = n := by
  rw [uploadOf, Option.filter_eq_some_iff, decide_eq_true_eq]

theorem entryLine_of_some {i : Nat} {x : Entry} (hx : s.entries.get i = some x) :
    entryLine s i = .used i x.id x.name x.port.isSome x.feed x.bound := by
  rw [entryLine, hx]

theorem entryLine_of_none {i : Nat} (hx : s.entries.get i = none) : entryLine s i = .free i (s.reservations.get i) := by
  rw [entryLine, hx]

theorem pickingOf_spec {e : Nat} {p : Nat × Sheet} (hp : pickingOf s e = some p) :
    p ∈ s.sheets ∧ p.2.station = e ∧ p.2.state = .picking := mem_of_pickingOf hp

/-! LIST_SUSPECTS -/

theorem insertBySeq_perm (p : Nat × Sheet) (l : List (Nat × Sheet)) : (insertBySeq p l).Perm (p :: l) := by
  induction l with
  | nil => exact .refl _
  | cons q l ih =>
    unfold insertBySeq
    split
    · exact .refl _
    · exact (ih.cons q).trans (.swap p q l)

theorem insertBySeq_pairwise {p : Nat × Sheet} {l : List (Nat × Sheet)}
    (hl : l.Pairwise fun a b => a.2.seq.getD 0 ≤ b.2.seq.getD 0) :
    (insertBySeq p l).Pairwise fun a b => a.2.seq.getD 0 ≤ b.2.seq.getD 0 := by
  induction l with
  | nil => exact List.pairwise_singleton _ p
  | cons q l ih =>
    obtain ⟨hq, hl'⟩ := List.pairwise_cons.1 hl
    unfold insertBySeq
    split
    · next hpq =>
      exact List.pairwise_cons.2 ⟨fun a ha => (List.mem_cons.1 ha).elim (fun h => h ▸ hpq) fun ha => hpq.trans (hq a ha), hl⟩
    · next hpq =>
      refine List.pairwise_cons.2 ⟨fun a ha => ?_, ih hl'⟩
      rcases List.mem_cons.1 ((insertBySeq_perm p l).mem_iff.1 ha) with rfl | ha
      · exact (Nat.not_le.1 hpq).le
      · exact hq a ha

theorem suspectsFrom_perm (s : State) (h n : Nat) : (suspectsFrom s h n).Perm (s.sheets.filter fun p =>
    decide (p.2.batch = h) && p.2.isOpenSuspect && decide (n ≤ p.2.seq.getD 0)) := by
  unfold suspectsFrom
  generalize s.sheets.filter _ = l
  induction l with
  | nil => exact .refl _
  | cons p l ih => exact (insertBySeq_perm p _).trans (ih.cons p)

theorem suspectsFrom_pairwise (s : State) (h n : Nat) :
    ((suspectsFrom s h n).map fun p => p.2.seq.getD 0).Pairwise (· ≤ ·) := by
  rw [List.pairwise_map]
  unfold suspectsFrom
  generalize s.sheets.filter _ = l
  induction l with
  | nil => exact .nil
  | cons p l ih => exact insertBySeq_pairwise ih

theorem isOpenSuspect_iff : r.isOpenSuspect = true ↔ r.state = .suspect ∨ r.state = .fault := by
  simp [Sheet.isOpenSuspect]

theorem mem_suspectsFrom {p : Nat × Sheet} : p ∈ suspectsFrom s h n ↔
    p ∈ s.sheets ∧ p.2.batch = h ∧ (p.2.state = .suspect ∨ p.2.state = .fault) ∧ n ≤ p.2.seq.getD 0 := by
  rw [(suspectsFrom_perm s h n).mem_iff, List.mem_filter, Bool.and_eq_true, Bool.and_eq_true, decide_eq_true_eq,
    decide_eq_true_eq, isOpenSuspect_iff, and_assoc]

theorem nodup_suspectsFrom (ht : TablesOk s) : ((suspectsFrom s h n).map Prod.fst).Nodup := by
  have hkeys : (s.sheets.map Prod.fst).Nodup := (sheetsWf ht).1.imp Nat.ne_of_lt
  exact ((suspectsFrom_perm s h n).map Prod.fst).nodup_iff.2 (hkeys.sublist (List.filter_sublist.map _))

/-! The answers of the owners -/

theorem ownFindSheet_of_some {x : Serial} (hx : x.seq ≠ 0) (hs : serialAt s x = some (n, r)) :
    ownFindSheet x s = .done s (.sheetFound n r.state r.station r.tag (inPath s n r)) := by
  rw [ownFindSheet, if_neg hx, hs]

theorem ownFindSheet_of_none {x : Serial} (hx : x.seq ≠ 0) (hs : serialAt s x = none) :
    ownFindSheet x s = .refuse .notFound := by
  rw [ownFindSheet, if_neg hx, hs]

theorem ownReadSheet_serial_of_some {x : Serial} (hx : x.seq ≠ 0) (hs : serialAt s x = some (n, r)) :
    ownReadSheet (.serial x) s = .done s (sheetReply s n r) := by
  rw [ownReadSheet, if_neg hx, hs]

theorem ownReadSheet_serial_of_none {x : Serial} (hx : x.seq ≠ 0) (hs : serialAt s x = none) :
    ownReadSheet (.serial x) s = .refuse .notFound := by
  rw [ownReadSheet, if_neg hx, hs]

theorem ownReadSheet_slot_of_some (hn : n < 512) (hs : sheetAt s n = some r) :
    ownReadSheet (.slot n) s = .done s (sheetReply s n r) := by
  rw [ownReadSheet, if_neg (by omega), hs]

theorem ownReadSheet_slot_of_none (hn : n < 512) (hs : sheetAt s n = none) :
    ownReadSheet (.slot n) s = .refuse .notFound := by
  rw [ownReadSheet, if_neg (by omega), hs]

theorem ownFindBatch_of_some {l : Text} (hl : labelOk l = true) (hs : findLabel s l = some (h, b)) :
    ownFindBatch l s = .done s (.found h b.state b.outcome) := by
  rw [ownFindBatch, if_pos hl, hs]

theorem ownFindBatch_of_none {l : Text} (hl : labelOk l = true) (hs : findLabel s l = none) :
    ownFindBatch l s = .refuse .notFound := by
  rw [ownFindBatch, if_pos hl, hs]

theorem ownListSuspects_of_none (hn : n ≠ 0) (hb : batchAt s h = none) :
    ownListSuspects ⟨h, n⟩ s = .refuse .notFound := (if_neg hn).trans (withBatch_of_none hb)

theorem ownListSuspects_of_some (hn : n ≠ 0) (hb : (batchAt s h).isSome = true) : ownListSuspects ⟨h, n⟩ s =
    .done s (.suspects (((suspectsFrom s h n).take 64).map (suspectLine s)) (decide (64 < (suspectsFrom s h n).length))) := by
  obtain ⟨b, hb⟩ := Option.isSome_iff_exists.1 hb
  exact (if_neg hn).trans (withBatch_of_some hb)

/-- The record of a serial under a missing handle, or that no record carries, is not found. -/
theorem serialAt_of_absent {x : Serial} (hx : 48 ≤ x.batch ∨ s.batches.get x.batch = none ∨
    ∀ p ∈ s.sheets, p.2.serial ≠ some x) : serialAt s x = none := by
  refine serialAt_eq_none.2 ?_
  rcases hx with hx | hx | hx
  · exact .inl (batchAt_of_ge hx)
  · refine .inl ?_
    unfold batchAt
    split
    · exact hx
    · rfl
  · exact .inr hx

/-- Settles O19, one request after the other. -/
theorem readsChangeNothing : Obligations.ReadsChangeNothing := by
  unfold Obligations.ReadsChangeNothing
  refine ⟨⟨fun l => labelOk_iff, fun s n => ⟨rfl, rfl, rfl⟩, fun r x => Sheet.serial_eq_some, fun s x =>
      ⟨serialAt_eq_none, fun p => serialAt_spec⟩⟩,
    ⟨fun y => rfl, fun s i => ⟨fun x => entryLine_of_some, entryLine_of_none⟩, fun s x => rfl, fun s e =>
      ⟨pickingOf_eq_none, fun p => pickingOf_spec⟩, fun s n r => ⟨inPath_iff, fun u => uploadOf_eq_some, rfl⟩⟩,
    fun s ht => ⟨replies_of (owner := ownListStations) ht rfl,
      fun e he => refuses_of (owner := ownReadStation) ht (withEntry_of_none he),
      fun e x he => replies_of (owner := ownReadStation) ht (withEntry_of_some he)⟩,
    fun h s ht => ⟨fun hb => refuses_of (owner := ownReadBatch) ht (withBatch_of_none hb),
      fun b hb => replies_of (owner := ownReadBatch) ht (withBatch_of_some hb)⟩,
    fun l s ht => ⟨fun hl => refuses_of (owner := ownFindBatch) ht (if_neg (Bool.eq_false_iff.1 hl)),
      fun hl hn => refuses_of (owner := ownFindBatch) ht (ownFindBatch_of_none hl (findLabel_eq_none.2 hn)),
      fun hl h b hm hb hu => replies_of (owner := ownFindBatch) ht (ownFindBatch_of_some hl (findLabel_of_unique hm hb hu))⟩,
    fun x s ht => ⟨fun hx => refuses_of (owner := ownFindSheet) ht (if_pos hx),
      fun hx hn => refuses_of (owner := ownFindSheet) ht (ownFindSheet_of_none hx (serialAt_of_absent hn)),
      fun hx hlt hb n r hm hr hu => replies_of (owner := ownFindSheet) ht
        (ownFindSheet_of_some hx (serialAt_of_unique hlt hb hm hr hu))⟩,
    fun s ht => ⟨fun x hx => refuses_of (v := SheetRef.serial x) (owner := ownReadSheet) ht (if_pos hx),
      fun x hx hs => refuses_of (owner := ownReadSheet) ht (ownReadSheet_serial_of_none hx hs),
      fun x n r hx hs => replies_of (owner := ownReadSheet) ht (ownReadSheet_serial_of_some hx hs),
      fun n hn => refuses_of (v := SheetRef.slot n) (owner := ownReadSheet) ht (if_pos hn),
      fun n hn hs => refuses_of (owner := ownReadSheet) ht (ownReadSheet_slot_of_none hn hs),
      fun n r hn hs => replies_of (owner := ownReadSheet) ht (ownReadSheet_slot_of_some hn hs),
      fun h => refuses_of (v := ListArgs.mk h 0) (owner := ownListSuspects) ht (if_pos rfl),
      fun h n hn hb => refuses_of (owner := ownListSuspects) ht (ownListSuspects_of_none hn hb),
      fun h n hn hb => replies_of (owner := ownListSuspects) ht (ownListSuspects_of_some hn hb),
      fun h n => ⟨fun p => mem_suspectsFrom, suspectsFrom_pairwise s h n, nodup_suspectsFrom⟩⟩⟩

end Sys2Proof.Machine
end

section
/-! Well-formed words on a feed port: what a word leaves of its port, and how it reaches the owner of the attached station
(R49, R50, R56). -/

set_option Elab.async false

namespace Sys2Proof.Machine

variable {s t : State} {p : Fin 16} {e : Nat}

theorem Port.wellFormed_of_down {x : Port} (n : Nat) (hx : x.link = .down) : x.wellFormed n = x := by
  rw [Port.wellFormed, hx]

theorem Port.wellFormed_of_aligning {x : Port} (n : Nat) (hx : x.link = .aligning) (ha : x.align < 7) :
    x.wellFormed n = { x with silence := some n, malformed := 0, align := x.align + 1 } := by
  rw [Port.wellFormed, hx]
  exact if_pos (Nat.succ_lt_succ ha)

theorem Port.wellFormed_of_aligned {x : Port} (n : Nat) (hx : x.link = .aligning) (ha : 7 ≤ x.align) :
    x.wellFormed n = Port.toQuerying none { x with silence := some n, malformed := 0 } := by
  rw [Port.wellFormed, hx]
  exact if_neg (Nat.not_lt.2 (Nat.succ_le_succ ha))

theorem Port.wellFormed_of_linked {x : Port} (n : Nat) (hd : x.link ≠ .down) (ha : x.link ≠ .aligning) :
    x.wellFormed n = { x with silence := some n, malformed := 0 } := by
  unfold Port.wellFormed
  split
  · exact absurd ‹_› hd
  · exact absurd ‹_› ha
  · rfl

/-- A change of a port is what it makes of the port that stands there. -/
theorem modPort_congr {f g : Port → Port} (h : f s.ports[p] = g s.ports[p]) : modPort p f s = modPort p g s := by
  rw [modPort, modPort, h]

theorem modPort_of_fixed {f : Port → Port} (h : f s.ports[p] = s.ports[p]) : modPort p f s = s := by
  rw [modPort, h]
  have hports : s.ports.set p s.ports[p] = s.ports := Vector.set_getElem_self p.isLt
  rw [hports]

theorem counted_of_down (hs : s.ports[p].link = .down) : counted p s = s :=
  modPort_of_fixed (Port.wellFormed_of_down _ hs)

theorem counted_of_linked (hd : s.ports[p].link ≠ .down) (ha : s.ports[p].link ≠ .aligning) :
    counted p s = modPort p (fun x => { x with silence := some s.room.silence, malformed := 0 }) s :=
  modPort_congr (Port.wellFormed_of_linked _ hd ha)

theorem counted_of_up (hs : s.ports[p].link = .up) :
    counted p s = modPort p (fun x => { x with silence := some s.room.silence, malformed := 0 }) s :=
  counted_of_linked (by rw [hs]; nofun) (by rw [hs]; nofun)

theorem takeWord_of_attached {k : Nat → State → State} (ha : AttachedTo s p e) : takeWord p k s = k e (counted p s) := by
  rw [takeWord, ha.1, ha.2]
  rfl

theorem takeWord_of_not_up {k : Nat → State → State} (hs : s.ports[p].link ≠ .up) : takeWord p k s = counted p s := by
  unfold takeWord
  split
  · exact absurd ‹_› hs
  · rfl

theorem takeWord_fill : takeWord p (fun _ t => t) s = counted p s := by
  unfold takeWord
  split <;> rfl

/-- A word reaches its owner on a port in UP with an entry attached. -/
theorem leaves_of_attached {c : Instr} {k : Nat → State → State} (hs : Runs s) (ha : AttachedTo s p e)
    (hc : exec c s = event (takeWord p k) s := by rfl) : Leaves c s (k e (counted p s)) :=
  takeWord_of_attached (k := k) ha ▸ leaves_of_runs hs hc

/-- A word on a port that is not UP is counted, and handed to no owner. -/
theorem leaves_of_not_up {c : Instr} {k : Nat → State → State} (hs : Runs s) (hp : s.ports[p].link ≠ .up)
    (hc : exec c s = event (takeWord p k) s := by rfl) : Leaves c s (counted p s) :=
  takeWord_of_not_up (k := k) hp ▸ leaves_of_runs hs hc

theorem exec_block_of_length {d : List Byte} (hd : d.length = 1024) :
    exec (.block p d) s = event (takeWord p (blockTaken d)) s := by
  have hlen : d.length = Config.blockBytes := hd
  simp only [exec, execBlock, event, if_pos hlen]

theorem exec_block_of_not_length {d : List Byte} (hd : d.length ≠ 1024) :
    exec (.block p d) s = exec (.malformedWord p) s := by
  have hlen : ¬ d.length = Config.blockBytes := hd
  simp only [exec, execBlock, execMalformedWord, event, if_neg hlen]

theorem leaves_fill (hs : Runs s) : Leaves (.fill p) s (counted p s) :=
  takeWord_fill (p := p) (s := s) ▸ leaves_of_runs hs

/-- Settles O41, word by word. -/
theorem wordsReachTheirOwnersInUp : Obligations.WordsReachTheirOwnersInUp := by
  unfold Obligations.WordsReachTheirOwnersInUp
  refine ⟨fun p s => ⟨leaves_fill, counted_of_up⟩, fun p s hs => ⟨fun e ha => ⟨fun w => leaves_of_attached hs ha,
    fun t k q => leaves_of_attached hs ha, fun t v n => leaves_of_attached hs ha, fun t n => leaves_of_attached hs ha,
    fun t n => leaves_of_attached hs ha, fun t d n => leaves_of_attached hs ha,
    fun d hd => leaves_of_attached hs ha (exec_block_of_length hd), fun k => leaves_of_attached hs ha⟩,
    fun hp t k q v n d => ⟨fun w => leaves_of_not_up hs hp, leaves_of_not_up hs hp, leaves_of_not_up hs hp,
      fun n => leaves_of_not_up hs hp, fun n => leaves_of_not_up hs hp, fun n => leaves_of_not_up hs hp,
      fun l hl => leaves_of_not_up hs hp (exec_block_of_length hl), fun c => leaves_of_not_up hs hp⟩,
    fun l hl => exec_block_of_not_length hl⟩⟩

end Sys2Proof.Machine
end

section
/-! What a change of a port or a queue leaves of the others, and what the judgments that end an event and the upload arbiter
leave alone (R33, R80, R133–R135). -/

set_option Elab.async false

namespace Sys2Proof.Machine

variable {s t u : State} {p q : Fin 16} {e h n : Nat} {x : Entry}

/-! Ports and queues -/

theorem getElem_modPort (p q : Fin 16) (f : Port → Port) (s : State) :
    (modPort p f s).ports[q] = if q = p then f s.ports[p] else s.ports[q] := by
  simp only [modPort_ports, Fin.getElem_fin, Vector.getElem_set, Fin.ext_iff, eq_comm]

theorem getElem_modPort_self (p : Fin 16) (f : Port → Port) (s : State) : (modPort p f s).ports[p] = f s.ports[p] := by
  rw [getElem_modPort, if_pos rfl]

theorem getElem_modPort_ne (f : Port → Port) (s : State) (h : q ≠ p) : (modPort p f s).ports[q] = s.ports[q] := by
  rw [getElem_modPort, if_neg h]

theorem getElem_modLane (l m : Fin 4) (f : Lane → Lane) (s : State) :
    (modLane l f s).lanes[m] = if m = l then f s.lanes[l] else s.lanes[m] := by
  simp only [modLane_lanes, Fin.getElem_fin, Vector.getElem_set, Fin.ext_iff, eq_comm]

theorem getElem_modLane_self (l : Fin 4) (f : Lane → Lane) (s : State) : (modLane l f s).lanes[l] = f s.lanes[l] := by
  rw [getElem_modLane, if_pos rfl]

theorem getElem_modLane_ne {l m : Fin 4} (f : Lane → Lane) (s : State) (h : m ≠ l) :
    (modLane l f s).lanes[m] = s.lanes[m] := by
  rw [getElem_modLane, if_neg h]

/-- The queues of a present station are those of its port. -/
theorem onQueues_of_port (f : Queues → Queues) (hx : s.entries.get e = some x) (hp : x.port = some p) :
    onQueues e f s = modPort p (fun y => { y with queues := f y.queues }) s := by
  rw [onQueues, hx]
  simp only [Option.bind_some, hp]

/-- Nothing is queued for an absent station (R66). -/
theorem onQueues_of_absent (f : Queues → Queues) (hx : s.entries.get e = some x) (hp : x.port = none) :
    onQueues e f s = s := by
  rw [onQueues, hx]
  simp only [Option.bind_some, hp]

theorem onQueues_of_none (f : Queues → Queues) (hx : s.entries.get e = none) : onQueues e f s = s := by
  rw [onQueues, hx]
  rfl

/-! What judgments change -/

/-- From `s` to `t` only what a judgment changes differs: entries, batches, sheets, the allocation arbiter, the attention set,
and of a port its queues. -/
structure Judged (s t : State) : Prop where
  frame : t = { s with
    entries := t.entries, batches := t.batches, sheets := t.sheets, waiting := t.waiting, lastAlloc := t.lastAlloc
    ports := t.ports, attention := t.attention }
  ports : ∀ p : Fin 16, t.ports[p] = { s.ports[p] with queues := t.ports[p].queues }

theorem Judged.of_ports_eq (hf : t = { s with
    entries := t.entries, batches := t.batches, sheets := t.sheets, waiting := t.waiting, lastAlloc := t.lastAlloc
    ports := s.ports, attention := t.attention } := by rfl) : Judged s t := by
  have hports : t.ports = s.ports := by rw [hf]
  exact ⟨by rw [hports]; exact hf, fun p => by rw [hports]⟩

theorem Judged.refl (s : State) : Judged s s := .of_ports_eq

theorem Judged.trans (h : Judged s t) (k : Judged t u) : Judged s u where
  frame := k.frame.trans (congrArg (fun x : State => { x with
    entries := u.entries, batches := u.batches, sheets := u.sheets, waiting := u.waiting, lastAlloc := u.lastAlloc
    ports := u.ports, attention := u.attention }) h.frame)
  ports p := (k.ports p).trans (congrArg (fun y : Port => { y with queues := u.ports[p].queues }) (h.ports p))

theorem judged_foldl {α : Type} {f : State → α → State} (hf : ∀ t a, Judged t (f t a)) (l : List α) (s : State) :
    Judged s (l.foldl f s) := by
  induction l generalizing s with
  | nil => exact .refl s
  | cons a l ih => exact (hf s a).trans (ih _)

theorem judged_onQueues (e : Nat) (f : Queues → Queues) (s : State) : Judged s (onQueues e f s) := by
  unfold onQueues
  split
  · next p _ =>
    refine ⟨rfl, fun q => ?_⟩
    rw [getElem_modPort]
    split
    · next hq => rw [hq]
    · rfl
  · exact .refl s

theorem judged_modEntry (e : Nat) (f : Entry → Entry) (s : State) : Judged s (modEntry e f s) := .of_ports_eq

theorem judged_modBatch (h : Nat) (f : Batch → Batch) (s : State) : Judged s (modBatch h f s) := .of_ports_eq

theorem judged_raise (k : AttnKind) (i : Nat) (s : State) : Judged s (raise k i s) := by
  unfold raise
  split
  · exact .refl s
  · exact .of_ports_eq

theorem judged_judgePausesOf (h : Nat) (s : State) : Judged s (judgePausesOf h s) := by
  unfold judgePausesOf
  split
  · exact .refl s
  · dsimp only
    split
    · exact (judged_modBatch _ _ _).trans (judged_raise _ _ _)
    · exact judged_modBatch _ _ _

theorem judged_completeOnce (h : Nat) (s : State) : Judged s (completeOnce h s) := by
  unfold completeOnce
  dsimp only
  split
  · split
    · exact (judged_modBatch _ _ _).trans (judged_raise _ _ _)
    · exact judged_modBatch _ _ _
  · exact judged_modBatch _ _ _

theorem judged_completeCheckpoints (n h : Nat) (s : State) : Judged s (completeCheckpoints n h s) := by
  induction n generalizing s with
  | zero => exact .refl s
  | succ n ih =>
    unfold completeCheckpoints
    split
    · exact (judged_completeOnce h s).trans (ih _)
    · exact .refl s

theorem judged_judgeUnbind (h : Nat) (b : Batch) (s : State) : Judged s (judgeUnbind h b s) := by
  unfold judgeUnbind
  split
  · exact .refl s
  · split
    · exact .refl s
    · split
      · exact (judged_modBatch _ _ _).trans (judged_modEntry _ _ _)
      · exact .refl s

theorem judged_judgeClose (h : Nat) (s : State) : Judged s (judgeClose h s) := by
  unfold judgeClose
  split
  · exact .refl s
  · split
    · exact (judged_modBatch _ _ _).trans (judged_raise _ _ _)
    · exact .refl s

theorem judged_judgeClosing (h : Nat) (s : State) : Judged s (judgeClosing h s) := by
  unfold judgeClosing
  split
  · exact .refl s
  · split
    · exact (judged_judgeUnbind _ _ _).trans (judged_judgeClose _ _)
    · exact .refl s

theorem judged_judgeBatch (h : Nat) (s : State) : Judged s (judgeBatch h s) :=
  (judged_judgePausesOf h s).trans ((judged_completeCheckpoints _ h _).trans (judged_judgeClosing h _))

theorem judged_allocate (e n : Nat) (s : State) : Judged s (allocate e n s) := by
  unfold allocate
  split
  · exact .refl s
  · split
    · refine Judged.trans ?_ (judged_judgePausesOf _ _)
      exact Judged.trans .of_ports_eq (judged_onQueues _ _ _)
    · exact .refl s

theorem judged_rejudge (e : Nat) (s : State) : Judged s (rejudge e s) := by
  unfold rejudge
  split
  · split
    · exact judged_allocate _ _ _
    · unfold joinWaiting
      split
      · exact .refl s
      · exact .of_ports_eq
  · exact .refl s

theorem judged_serveFirst (l : List Nat) (s : State) : Judged s (serveFirst l s) := by
  induction l generalizing s with
  | nil => exact .refl s
  | cons e l ih =>
    unfold serveFirst
    split
    · split
      · exact judged_allocate _ _ _
      · exact .refl s
    · exact Judged.trans .of_ports_eq (ih _)

theorem judged_offerSlot (s : State) : Judged s (offerSlot s) := judged_serveFirst _ s

theorem judged_rejudgeAll (es : List Nat) (start : Nat) (s : State) : Judged s (rejudgeAll es start s) :=
  judged_foldl (fun t e => judged_rejudge e t) _ s

theorem judged_settle (hs es : List Nat) (start : Nat) (s : State) : Judged s (settle hs es start s) :=
  (judged_foldl (fun t h => judged_judgeBatch h t) hs s).trans (judged_rejudgeAll _ _ _)

/-! What the upload arbiter changes -/

/-- From `s` to `t` only what the upload arbiter changes differs: sheets, lanes, uploads, its last-served index, and of a port
its queues. -/
structure Arbitrated (s t : State) : Prop where
  frame : t = { s with
    sheets := t.sheets, lanes := t.lanes, uploads := t.uploads, lastUpload := t.lastUpload, ports := t.ports }
  ports : ∀ p : Fin 16, t.ports[p] = { s.ports[p] with queues := t.ports[p].queues }

theorem Arbitrated.of_ports_eq (hf : t = { s with
    sheets := t.sheets, lanes := t.lanes, uploads := t.uploads, lastUpload := t.lastUpload, ports := s.ports } := by rfl) :
    Arbitrated s t := by
  have hports : t.ports = s.ports := by rw [hf]
  exact ⟨by rw [hports]; exact hf, fun p => by rw [hports]⟩

theorem Arbitrated.refl (s : State) : Arbitrated s s := .of_ports_eq

theorem Arbitrated.trans (h : Arbitrated s t) (k : Arbitrated t u) : Arbitrated s u where
  frame := k.frame.trans (congrArg (fun x : State => { x with
    sheets := u.sheets, lanes := u.lanes, uploads := u.uploads, lastUpload := u.lastUpload, ports := u.ports }) h.frame)
  ports p := (k.ports p).trans (congrArg (fun y : Port => { y with queues := u.ports[p].queues }) (h.ports p))

theorem arbitrated_onQueues (e : Nat) (f : Queues → Queues) (s : State) : Arbitrated s (onQueues e f s) := by
  refine ⟨?_, (judged_onQueues e f s).ports⟩
  unfold onQueues
  split <;> rfl

theorem arbitrated_offerEntry (n : Nat) (y : Serial) (b : Bool) (s : State) (d : Delivery) :
    Arbitrated s (offerEntry n y b s d) := .of_ports_eq

theorem arbitrated_foldl {α : Type} {f : State → α → State} (hf : ∀ t a, Arbitrated t (f t a)) (l : List α) (s : State) :
    Arbitrated s (l.foldl f s) := by
  induction l generalizing s with
  | nil => exact .refl s
  | cons a l ih => exact (hf s a).trans (ih _)

theorem arbitrated_startUpload (e : Nat) (c : Eligible) (s : State) : Arbitrated s (startUpload e c s) :=
  (arbitrated_foldl (arbitrated_offerEntry _ _ _) c.takes s).trans
    (Arbitrated.trans .of_ports_eq (arbitrated_onQueues _ _ _))

theorem arbitrated_arbitrateN (n : Nat) (s : State) : Arbitrated s (arbitrateN n s) := by
  induction n generalizing s with
  | zero => exact .refl s
  | succ n ih =>
    unfold arbitrateN
    split
    · exact (arbitrated_startUpload _ _ s).trans (ih _)
    · exact .refl s

theorem arbitrated_arbitrate (s : State) : Arbitrated s (arbitrate s) := arbitrated_arbitrateN _ s

/-! The order and the extent of the judgments -/

/-- A round takes every index below its size. -/
theorem mem_roundOrder {n start e : Nat} (he : e < n) : e ∈ roundOrder n start := by
  rw [roundOrder, List.mem_map]
  have hn : 0 < n := Nat.lt_of_le_of_lt (Nat.zero_le e) he
  refine ⟨(e + (n - 1 - start % n)) % n, List.mem_range.2 (Nat.mod_lt _ hn), ?_⟩
  have hs : start % n < n := Nat.mod_lt _ hn
  calc (start + 1 + (e + (n - 1 - start % n)) % n) % n
      = (start % n + (1 + e + (n - 1 - start % n))) % n := by
        rw [Nat.add_mod_mod, Nat.mod_add_mod]
        congr 1
        omega
    _ = (e + n) % n := by congr 1; omega
    _ = e := by rw [Nat.add_mod_right, Nat.mod_eq_of_lt he]

theorem boundStation_eq_some : boundStation s h = some e ↔ ∃ b, s.batches.get h = some b ∧ b.bound = some e := by
  rw [boundStation, Option.bind_eq_some_iff]

theorem mem_pathBatches : h ∈ pathBatches s x ↔ ∃ c ∈ x.path, ∃ r, s.sheets.get c.slot = some r ∧ r.batch = h := by
  simp [pathBatches]

theorem mem_stationBatches : h ∈ stationBatches s e ↔ ∃ x, s.entries.get e = some x ∧
    (x.bound = some h ∨ ∃ c ∈ x.path, ∃ r, s.sheets.get c.slot = some r ∧ r.batch = h) := by
  unfold stationBatches
  cases s.entries.get e with
  | none => simp
  | some x => simp [mem_pathBatches, or_comm]

theorem mem_pickingBatches : h ∈ pickingBatches s e ↔ ∃ n r, pickingOf s e = some (n, r) ∧ r.batch = h := by
  simp [pickingBatches]

/-- The stations an event's judgments reach: those it names and those its batches were bound to. -/
theorem mem_settled {hs es : List Nat} {start : Nat} :
    (e ∈ (roundOrder Config.entryCount start).filter fun e => decide (e ∈ es ++ hs.filterMap (boundStation s))) ↔
    e < 24 ∧ (e ∈ es ∨ ∃ h ∈ hs, ∃ b, s.batches.get h = some b ∧ b.bound = some e) := by
  rw [List.mem_filter, decide_eq_true_eq, List.mem_append, List.mem_filterMap]
  simp only [boundStation_eq_some]
  exact and_congr_left fun _ => ⟨lt_of_mem_roundOrder, mem_roundOrder⟩

/-- Settles O38, operation by operation. -/
theorem judgmentsAndArbiterFrame : Obligations.JudgmentsAndArbiterFrame := by
  unfold Obligations.JudgmentsAndArbiterFrame
  refine ⟨fun es start s => rfl, fun s e h => ⟨mem_stationBatches, mem_pickingBatches⟩, fun hs es start s =>
    ⟨_, fun e => mem_settled, List.filter_sublist, rfl⟩, fun hs es start s t ht => ?_, fun s t ht => ?_⟩
  · obtain ⟨hframe, hports⟩ := judged_settle hs es start s
    exact ht ▸ ⟨hframe, hports⟩
  · obtain ⟨hframe, hports⟩ := arbitrated_arbitrate s
    exact ht ▸ ⟨hframe, hports⟩

end Sys2Proof.Machine
end

section
/-! Raises, queues and halts, field by field; the feed requests and the taking of a halt (R66, R70–R75, R83, R162). -/

set_option Elab.async false

namespace Sys2Proof.Machine

variable {s t u : State} {p q : Fin 16} {e h n : Nat} {x : Entry} {k : AttnKind} {i : Nat}

/-! Raises -/

theorem raise_frame (k : AttnKind) (i : Nat) (s : State) : raise k i s = { s with attention := (raise k i s).attention } := by
  unfold raise
  split <;> rfl

@[simp] theorem raise_room (k : AttnKind) (i : Nat) (s : State) : (raise k i s).room = s.room := by rw [raise_frame]
@[simp] theorem raise_ports (k : AttnKind) (i : Nat) (s : State) : (raise k i s).ports = s.ports := by rw [raise_frame]
@[simp] theorem raise_entries (k : AttnKind) (i : Nat) (s : State) : (raise k i s).entries = s.entries := by rw [raise_frame]
@[simp] theorem raise_sheets (k : AttnKind) (i : Nat) (s : State) : (raise k i s).sheets = s.sheets := by rw [raise_frame]
@[simp] theorem raise_waiting (k : AttnKind) (i : Nat) (s : State) : (raise k i s).waiting = s.waiting := by rw [raise_frame]
@[simp] theorem raise_lastAlloc (k : AttnKind) (i : Nat) (s : State) : (raise k i s).lastAlloc = s.lastAlloc := by rw [raise_frame]
@[simp] theorem raise_batches (k : AttnKind) (i : Nat) (s : State) : (raise k i s).batches = s.batches := by rw [raise_frame]
@[simp] theorem raise_plans (k : AttnKind) (i : Nat) (s : State) : (raise k i s).plans = s.plans := by rw [raise_frame]
@[simp] theorem raise_uploads (k : AttnKind) (i : Nat) (s : State) : (raise k i s).uploads = s.uploads := by rw [raise_frame]
@[simp] theorem raise_lanes (k : AttnKind) (i : Nat) (s : State) : (raise k i s).lanes = s.lanes := by rw [raise_frame]

/-- What a raise makes of the attention set depends on the set and the mask alone. -/
theorem raise_attention_congr (ha : t.attention = s.attention) (hr : t.room = s.room) :
    (raise k i t).attention = (raise k i s).attention := by
  unfold raise
  rw [hr]
  split
  · exact ha
  · exact congrArg (attnInsert (k, i)) ha

/-! Queues -/

theorem onQueues_frame (e : Nat) (f : Queues → Queues) (s : State) :
    onQueues e f s = { s with ports := (onQueues e f s).ports } := by
  unfold onQueues
  split <;> rfl

@[simp] theorem onQueues_clock (e : Nat) (f : Queues → Queues) (s : State) : (onQueues e f s).clock = s.clock := by
  rw [onQueues_frame]
@[simp] theorem onQueues_attention (e : Nat) (f : Queues → Queues) (s : State) : (onQueues e f s).attention = s.attention := by
  rw [onQueues_frame]
@[simp] theorem onQueues_room (e : Nat) (f : Queues → Queues) (s : State) : (onQueues e f s).room = s.room := by
  rw [onQueues_frame]
@[simp] theorem onQueues_entries (e : Nat) (f : Queues → Queues) (s : State) : (onQueues e f s).entries = s.entries := by
  rw [onQueues_frame]
@[simp] theorem onQueues_sheets (e : Nat) (f : Queues → Queues) (s : State) : (onQueues e f s).sheets = s.sheets := by
  rw [onQueues_frame]
@[simp] theorem onQueues_waiting (e : Nat) (f : Queues → Queues) (s : State) : (onQueues e f s).waiting = s.waiting := by
  rw [onQueues_frame]
@[simp] theorem onQueues_lastAlloc (e : Nat) (f : Queues → Queues) (s : State) : (onQueues e f s).lastAlloc = s.lastAlloc := by
  rw [onQueues_frame]
@[simp] theorem onQueues_batches (e : Nat) (f : Queues → Queues) (s : State) : (onQueues e f s).batches = s.batches := by
  rw [onQueues_frame]
@[simp] theorem onQueues_plans (e : Nat) (f : Queues → Queues) (s : State) : (onQueues e f s).plans = s.plans := by
  rw [onQueues_frame]
@[simp] theorem onQueues_uploads (e : Nat) (f : Queues → Queues) (s : State) : (onQueues e f s).uploads = s.uploads := by
  rw [onQueues_frame]
@[simp] theorem onQueues_lanes (e : Nat) (f : Queues → Queues) (s : State) : (onQueues e f s).lanes = s.lanes := by
  rw [onQueues_frame]

theorem ports_onQueues_self (f : Queues → Queues) (hx : s.entries.get e = some x) (hp : x.port = some p) :
    (onQueues e f s).ports[p] = { s.ports[p] with queues := f s.ports[p].queues } := by
  rw [onQueues_of_port f hx hp, getElem_modPort_self]

theorem ports_onQueues_of_ne (f : Queues → Queues) (hx : s.entries.get e = some x) (hp : x.port ≠ some p) :
    (onQueues e f s).ports[p] = s.ports[p] := by
  cases hq : x.port with
  | none => rw [onQueues_of_absent f hx hq]
  | some q =>
    rw [onQueues_of_port f hx hq, getElem_modPort_ne]
    exact fun hpq => hp (hpq ▸ hq)

/-! A change of one record -/

theorem get_entries_modEntry_self (f : Entry → Entry) (hx : s.entries.get e = some x) :
    (modEntry e f s).entries.get e = some (f x) := by
  rw [modEntry_entries, Tab.get_modify_self, hx, Option.map_some]

theorem get_entries_modEntry_ne {j : Nat} (f : Entry → Entry) (hj : j ≠ e) :
    (modEntry e f s).entries.get j = s.entries.get j := by
  rw [modEntry_entries, Tab.get_modify_other _ _ hj]

/-- A change that leaves the record it finds changes nothing. -/
theorem modEntry_of_fixed (ht : TablesOk s) {f : Entry → Entry} (hx : s.entries.get e = some x) (hf : f x = x) :
    modEntry e f s = s := by
  have hid : s.entries.modify e f = s.entries.modify e id := Tab.modify_congr (entriesWf ht) hx hf
  have hself : s.entries.modify e id = s.entries := (List.map_congr_left fun p _ => ite_self p).trans (List.map_id' _)
  rw [modEntry, hid, hself]

/-! Halts -/

theorem coverOpen_iff : x.coverOpen = true ↔ ∃ v, x.view = some v ∧ v.coverOpen = true := by
  unfold Entry.coverOpen
  cases x.view <;> simp

theorem pathClear_iff : x.pathClear = true ↔ ∃ v, x.view = some v ∧ v.pathClear = true := by
  unfold Entry.pathClear
  cases x.view <;> simp

theorem moving_iff {f : FeedState} : f.moving = true ↔ f = .running ∨ f = .ready := by cases f <;> decide

theorem halted_of_moving {c : HaltCause} (hm : x.feed.moving = true) : x.halted c =
    { x with feed := if x.coverOpen then .clearing else .halted, cause := some c, timer := x.timer.suspend } := by
  unfold Entry.halted
  rcases moving_iff.1 hm with hf | hf <;> rw [hf]

theorem halted_of_halted {c : HaltCause} (hf : x.feed = .halted) :
    x.halted c = if c = .linkLost ∨ c = .abort then { x with cause := some c } else x := by
  rw [Entry.halted, hf]

theorem halted_of_clearing {c : HaltCause} (hf : x.feed = .clearing) : x.halted c =
    if c = .linkLost then { x with feed := .halted, cause := some c }
    else if c = .abort then { x with cause := some c } else x := by
  rw [Entry.halted, hf]

theorem halted_of_idle {c : HaltCause} (hf : x.feed = .idle) : x.halted c = x := by
  rw [Entry.halted, hf]

theorem halted_port {c : HaltCause} : (x.halted c).port = x.port := by
  unfold Entry.halted
  (repeat' split) <;> rfl

theorem halt_of_get {c : HaltCause} (hx : s.entries.get e = some x) : halt e c s =
    if haltRaises x.feed c then raise .stationHalted e (if x.feed.moving then
      onQueues e Queues.addHalt (modEntry e (Entry.halted c) s) else modEntry e (Entry.halted c) s)
    else if x.feed.moving then onQueues e Queues.addHalt (modEntry e (Entry.halted c) s)
      else modEntry e (Entry.halted c) s := by
  rw [halt, hx]

theorem entries_halt {c : HaltCause} : (halt e c s).entries = s.entries.modify e (Entry.halted c) := by
  cases hx : s.entries.get e with
  | none => rw [halt, hx, Tab.modify_eq_self _ hx]
  | some x =>
    rw [halt_of_get hx]
    split_ifs <;> simp

theorem get_entries_halt_self {c : HaltCause} (hx : s.entries.get e = some x) :
    (halt e c s).entries.get e = some (x.halted c) := by
  rw [entries_halt, Tab.get_modify_self, hx, Option.map_some]

theorem get_entries_halt_ne {c : HaltCause} {j : Nat} (hj : j ≠ e) : (halt e c s).entries.get j = s.entries.get j := by
  rw [entries_halt, Tab.get_modify_other _ _ hj]

theorem attention_halt {c : HaltCause} (hx : s.entries.get e = some x) : (halt e c s).attention =
    if haltRaises x.feed c then (raise .stationHalted e s).attention else s.attention := by
  rw [halt_of_get hx]
  split_ifs
  · exact raise_attention_congr (by simp) (by simp)
  · exact raise_attention_congr rfl rfl
  · simp
  · rfl

theorem ports_halt {c : HaltCause} (hx : s.entries.get e = some x) : (halt e c s).ports =
    if x.feed.moving then (onQueues e Queues.addHalt (modEntry e (Entry.halted c) s)).ports else s.ports := by
  rw [halt_of_get hx]
  split_ifs <;> simp

theorem ports_halt_of_ne {c : HaltCause} (hx : s.entries.get e = some x) (hp : x.port ≠ some p) :
    (halt e c s).ports[p] = s.ports[p] := by
  rw [ports_halt hx]
  split_ifs
  · exact ports_onQueues_of_ne _ (get_entries_modEntry_self _ hx) (by rwa [halted_port])
  · rfl

theorem ports_halt_of_moving {c : HaltCause} (hx : s.entries.get e = some x) (hm : x.feed.moving = true)
    (hp : x.port = some p) :
    (halt e c s).ports[p] = { s.ports[p] with queues := { s.ports[p].queues with halt := true, resume := false } } := by
  rw [ports_halt hx, if_pos hm, ports_onQueues_self _ (get_entries_modEntry_self _ hx) (by rwa [halted_port])]
  rfl

theorem ports_halt_of_still {c : HaltCause} (hx : s.entries.get e = some x) (hm : x.feed.moving = false) :
    (halt e c s).ports = s.ports := by
  rw [ports_halt hx, if_neg (Bool.eq_false_iff.1 hm)]

/-- A halt that neither moves the entry nor raises changes nothing. -/
theorem halt_of_fixed {c : HaltCause} (ht : TablesOk s) (hx : s.entries.get e = some x) (hm : x.feed.moving = false)
    (hr : haltRaises x.feed c = false) (hf : x.halted c = x) : halt e c s = s := by
  rw [halt_of_get hx, if_neg (Bool.eq_false_iff.1 hr), if_neg (Bool.eq_false_iff.1 hm), modEntry_of_fixed ht hx hf]

/-- Settles O23, by the feed state that takes the halt. -/
theorem haltStopsAMovingStation : Obligations.HaltStopsAMovingStation := by
  unfold Obligations.HaltStopsAMovingStation
  refine ⟨fun x => coverOpen_iff, fun n => ⟨rfl, rfl, rfl, rfl, rfl⟩, ?_⟩
  rintro e k s u x ht hx rfl
  refine ⟨onlyStations_halt e k s, fun j hj => get_entries_halt_ne hj, fun p hp => ports_halt_of_ne hx hp, fun hf => ?_,
    fun hf hk => ?_, fun hf => ⟨fun hk => ?_, fun hk => ?_⟩, fun hquiet => ?_⟩
  · have hm : x.feed.moving = true := moving_iff.2 hf
    have hr : haltRaises x.feed k = true := by rcases hf with hf | hf <;> rw [hf] <;> rfl
    exact ⟨(get_entries_halt_self hx).trans (by rw [halted_of_moving hm]), fun p hp => ports_halt_of_moving hx hm hp,
      (attention_halt hx).trans (if_pos hr)⟩
  · have hr : haltRaises x.feed k = true := by rw [hf]; rcases hk with rfl | rfl <;> rfl
    exact ⟨(get_entries_halt_self hx).trans (by rw [halted_of_halted hf, if_pos hk]),
      ports_halt_of_still hx (by rw [hf]; rfl), (attention_halt hx).trans (if_pos hr)⟩
  · subst hk
    exact ⟨(get_entries_halt_self hx).trans (by rw [halted_of_clearing hf, if_pos rfl]),
      ports_halt_of_still hx (by rw [hf]; rfl), (attention_halt hx).trans (if_pos (by rw [hf]; rfl))⟩
  · subst hk
    exact ⟨(get_entries_halt_self hx).trans (by rw [halted_of_clearing hf, if_neg nofun, if_pos rfl]),
      ports_halt_of_still hx (by rw [hf]; rfl), (attention_halt hx).trans (if_neg (by rw [hf]; nofun))⟩
  · rcases hquiet with hf | ⟨hf, hlost, habort⟩
    · exact halt_of_fixed ht hx (by rw [hf]; rfl) (by rw [hf]; rfl) (halted_of_idle hf)
    · rcases hf with hf | hf
      · exact halt_of_fixed ht hx (by rw [hf]; rfl) (by rw [hf]; simp [haltRaises, hlost, habort])
          (by rw [halted_of_halted hf, if_neg fun h => h.elim hlost habort])
      · exact halt_of_fixed ht hx (by rw [hf]; rfl) (by rw [hf]; simp [haltRaises, hlost])
          (by rw [halted_of_clearing hf, if_neg hlost, if_neg habort])

end Sys2Proof.Machine
end

section
/-! START, STANDBY, HALT_STATION and RESUME, and the run-out of a path queue (R70–R73, R83). -/

set_option Elab.async false

namespace Sys2Proof.Machine

variable {s t u : State} {p q : Fin 16} {e h n : Nat} {x : Entry} {g : Tag}

/-! The owners of START, STANDBY and HALT_STATION -/

/-- START, STANDBY and HALT_STATION are refused without an entry. -/
theorem feedOwners_of_none (he : entryAt s e = none) : ownStart e s = .refuse .notFound ∧
    ownStandby e s = .refuse .notFound ∧ ownHaltStation e s = .refuse .notFound ∧ ownResume e s = .refuse .notFound :=
  ⟨withEntry_of_none he, withEntry_of_none he, withEntry_of_none he, withEntry_of_none he⟩

theorem ownStart_of_some (he : entryAt s e = some x) : ownStart e s = match x.feed with
    | .ready => .done (startEntry e x s) (.feed .running)
    | .running => .done s (.feed .running)
    | .idle | .halted | .clearing => .refuse .wrongState := withEntry_of_some he

theorem ownStandby_of_some (he : entryAt s e = some x) : ownStandby e s = match x.feed with
    | .running => .done (standbyEntry e x s) .empty
    | .ready => .done s .empty
    | .idle | .halted | .clearing => .refuse .wrongState := withEntry_of_some he

theorem ownHaltStation_of_moving (he : entryAt s e = some x) (hf : x.feed = .running ∨ x.feed = .ready) :
    ownHaltStation e s = .done (settle x.bound.toList [e] s.lastAlloc (halt e .host s))
      (.feed (feedOf (settle x.bound.toList [e] s.lastAlloc (halt e .host s)) e)) := by
  rw [ownHaltStation, withEntry_of_some he]
  rcases hf with hf | hf <;> rw [hf]

theorem ownHaltStation_of_halted (he : entryAt s e = some x) (hf : x.feed = .halted ∨ x.feed = .clearing) :
    ownHaltStation e s = .done s (.feed x.feed) := by
  rw [ownHaltStation, withEntry_of_some he]
  rcases hf with hf | hf <;> rw [hf]

theorem ownHaltStation_of_idle (he : entryAt s e = some x) (hf : x.feed = .idle) :
    ownHaltStation e s = .refuse .wrongState := by
  rw [ownHaltStation, withEntry_of_some he, hf]

/-! RESUME -/

theorem mayResume_iff : mayResume x = true ↔ x.feed = .halted ∧ x.port.isSome = true ∧ x.view.isSome = true ∧
    (x.cause = some .linkLost → x.pathClear = true) ∧ (x.bound = none → x.pathClear = true) := by
  simp only [mayResume, Bool.and_eq_true, Bool.or_eq_true, decide_eq_true_eq, and_assoc, Option.isSome_iff_ne_none]
  tauto

theorem ownResume_of_not (he : entryAt s e = some x) (hm : ¬ mayResume x = true) :
    ownResume e s = .refuse .wrongState := (withEntry_of_some he).trans (if_neg hm)

theorem ownResume_of_bound (he : entryAt s e = some x) (hm : mayResume x = true) (hb : x.bound = some h) :
    ownResume e s = .done (runOut e x s) (.count (runOutSheets s x).length) :=
  (withEntry_of_some he).trans ((if_pos hm).trans (if_pos (by rw [hb]; rfl)))

theorem ownResume_of_unbound (he : entryAt s e = some x) (hm : mayResume x = true) (hb : x.bound = none) :
    ownResume e s = .done (runOutUnbound e s) (.count 0) :=
  (withEntry_of_some he).trans ((if_pos hm).trans (if_neg (by rw [hb]; nofun)))

/-! The run-out (R73) -/

theorem mem_runOutSheets : (n, g) ∈ runOutSheets s x ↔ ∃ c ∈ x.path, c.slot = n ∧ c.divertOrdered = false ∧
    ∃ r, s.sheets.get n = some r ∧ r.state = .suspect ∧ r.tag = g := by
  rw [runOutSheets, List.mem_filterMap]
  refine exists_congr fun c => and_congr_right fun _ => ?_
  constructor
  · intro hc
    split at hc
    · next r hr =>
      split at hc
      · next hok =>
        cases hc
        exact ⟨rfl, hok.2, r, hr, hok.1, rfl⟩
      · cases hc
    · cases hc
  · rintro ⟨rfl, hd, r, hr, hstate, rfl⟩
    rw [hr]
    exact if_pos ⟨hstate, hd⟩

theorem runOutSheets_sublist (s : State) (x : Entry) :
    ((runOutSheets s x).map Prod.fst).Sublist (x.path.map (·.slot)) := by
  unfold runOutSheets
  generalize x.path = l
  induction l with
  | nil => exact .refl _
  | cons c l ih =>
    rw [List.filterMap_cons, List.map_cons]
    split
    · exact ih.cons _
    · next a ha =>
      split at ha
      · split at ha
        · cases ha
          exact ih.cons_cons _
        · cases ha
      · cases ha

/-- The places of a path queue whose sheets are ordered diverted. -/
def divertPlaces (ns : List Nat) (l : List Place) : List Place :=
  l.map fun c => if c.slot ∈ ns then { c with divertOrdered := true } else c

theorem divertPlaces_nil (l : List Place) : divertPlaces [] l = l :=
  (List.map_congr_left fun _ _ => if_neg List.not_mem_nil).trans (List.map_id' l)

theorem divertPlaces_singleton (n : Nat) (l : List Place) :
    (l.map fun c => if c.slot = n then { c with divertOrdered := true } else c) = divertPlaces [n] l := by
  simp only [divertPlaces, List.mem_singleton]

theorem divertPlaces_cons (n : Nat) (ns : List Nat) (l : List Place) :
    divertPlaces ns (divertPlaces [n] l) = divertPlaces (n :: ns) l := by
  rw [divertPlaces, divertPlaces, List.map_map]
  refine List.map_congr_left fun c _ => ?_
  by_cases hn : c.slot = n
  · simp [hn]
  · simp [hn]

/-- From `s` to `u` the sheets of `l` are ordered diverted at entry `e`, `x`: their places are marked and their DIVERT words
queued, in order. -/
structure Diverted (e : Nat) (x : Entry) (l : List (Nat × Tag)) (s u : State) : Prop where
  frame : u = { s with entries := u.entries, ports := u.ports }
  entry : u.entries.get e = some { x with path := divertPlaces (l.map Prod.fst) x.path }
  others : ∀ j, j ≠ e → u.entries.get j = s.entries.get j
  port : ∀ p : Fin 16, x.port = some p → u.ports[p] = { s.ports[p] with queues := { s.ports[p].queues with
    divert := s.ports[p].queues.divert ++ l.map Prod.snd } }
  ports : ∀ p : Fin 16, x.port ≠ some p → u.ports[p] = s.ports[p]

theorem diverted_orderDivert (n : Nat) (g : Tag) (hx : s.entries.get e = some x) :
    Diverted e x [(n, g)] s (orderDivert e n g s) where
  frame := by
    rw [orderDivert, onQueues_frame]
    rfl
  entry := by
    have hq : (onQueues e (Queues.addDivert g) s).entries.get e = some x := by rwa [onQueues_entries]
    rw [orderDivert, modPlace, get_entries_modEntry_self _ hq, List.map_singleton,
      divertPlaces_singleton]
  others j hj := by rw [orderDivert, modPlace, get_entries_modEntry_ne _ hj, onQueues_entries]
  port p hp := by
    rw [orderDivert, modPlace, modEntry_ports, ports_onQueues_self _ hx hp]
    rfl
  ports p hp := by rw [orderDivert, modPlace, modEntry_ports, ports_onQueues_of_ne _ hx hp]

theorem diverted_foldl (l : List (Nat × Tag)) (hx : s.entries.get e = some x) :
    Diverted e x l s (l.foldl (fun t p => orderDivert e p.1 p.2 t) s) := by
  induction l generalizing s x with
  | nil =>
    refine ⟨rfl, hx.trans ?_, fun _ _ => rfl, fun p _ => ?_, fun _ _ => rfl⟩
    · rw [List.map_nil, divertPlaces_nil]
    · rw [List.map_nil, List.append_nil]; rfl
  | cons a l ih =>
    have hone := diverted_orderDivert a.1 a.2 hx
    have hrest := ih hone.entry
    rw [List.foldl_cons]
    generalize l.foldl (fun t p => orderDivert e p.1 p.2 t) (orderDivert e a.1 a.2 s) = u at hrest ⊢
    refine ⟨hrest.frame.trans (congrArg (fun v : State => { v with entries := u.entries, ports := u.ports }) hone.frame),
      hrest.entry.trans (congrArg (fun l => some { x with path := l }) (divertPlaces_cons a.1 _ x.path)),
      fun j hj => (hrest.others j hj).trans (hone.others j hj), fun p hp => ?_,
      fun p hp => (hrest.ports p hp).trans (hone.ports p hp)⟩
    rw [hrest.port p hp, hone.port p hp]
    simp

/-- Settles O22, by the feed state of the entry. -/
theorem feedRequestsFollowTheFeedState : Obligations.FeedRequestsFollowTheFeedState := by
  unfold Obligations.FeedRequestsFollowTheFeedState
  refine ⟨⟨fun e x s hx => ⟨by rw [feedOf, hx]; rfl, fun hp f => onQueues_of_absent f hx hp,
      fun p f hp => onQueues_of_port f hx hp⟩, fun q => rfl, fun x => pathClear_iff⟩,
    fun e s ht => ⟨fun he => ?_, fun x he => ⟨fun hf => ?_, fun hf => ?_, fun hf => ?_, fun hf t hu => ?_, fun hf => ?_,
      fun hf => ?_⟩⟩,
    fun e s ht => ⟨fun he => ?_, fun x he => ⟨fun hbad => ?_, fun hf hp hv hl hu => ⟨fun h hb => ?_, fun hb => ?_⟩⟩⟩, ?_⟩
  · obtain ⟨h1, h2, h3, -⟩ := feedOwners_of_none he
    exact ⟨refuses_of ht h1, refuses_of ht h2, refuses_of ht h3⟩
  · exact ⟨replies_of (owner := ownStart) ht (by rw [ownStart_of_some he, hf]; rfl),
      replies_of (owner := ownStandby) ht (by rw [ownStandby_of_some he, hf])⟩
  · exact ⟨replies_of (owner := ownStart) ht (by rw [ownStart_of_some he, hf]),
      replies_of (owner := ownStandby) ht (by rw [ownStandby_of_some he, hf]; rfl)⟩
  · exact ⟨refuses_of (owner := ownStart) ht (by rw [ownStart_of_some he]; rcases hf with hf | hf | hf <;> rw [hf]),
      refuses_of (owner := ownStandby) ht (by rw [ownStandby_of_some he]; rcases hf with hf | hf | hf <;> rw [hf])⟩
  · subst hu
    exact replies_of (owner := ownHaltStation) ht (ownHaltStation_of_moving he hf)
  · exact replies_of (owner := ownHaltStation) ht (ownHaltStation_of_halted he hf)
  · exact refuses_of (owner := ownHaltStation) ht (ownHaltStation_of_idle he hf)
  · obtain ⟨-, -, -, h4⟩ := feedOwners_of_none he
    exact refuses_of ht h4
  · refine refuses_of (owner := ownResume) ht (ownResume_of_not he fun hm => ?_)
    obtain ⟨hf, hp, hv, hl, hu⟩ := mayResume_iff.1 hm
    rw [Option.isSome_iff_ne_none] at hp hv
    rcases hbad with h1 | h1 | h1 | ⟨h1, h2⟩ | ⟨h1, h2⟩
    · exact h1 hf
    · exact hp h1
    · exact hv h1
    · exact Bool.eq_false_iff.1 h2 (hl h1)
    · exact Bool.eq_false_iff.1 h2 (hu h1)
  · have hreply := replies_of (owner := ownResume) (c := .resume (.given e)) (code := 0x1A) ht
      (ownResume_of_bound he (mayResume_iff.2 ⟨hf, hp, hv, hl, hu⟩) hb)
    rwa [runOut, hb] at hreply
  · exact replies_of (owner := ownResume) ht (ownResume_of_unbound he (mayResume_iff.2 ⟨hf, hp, hv, hl, hu⟩) hb)
  · rintro e x s u hx rfl
    have hd := diverted_foldl (runOutSheets s x) hx
    exact ⟨fun n g => mem_runOutSheets, runOutSheets_sublist s x, hd.frame, hd.entry, hd.others, hd.port, hd.ports⟩

end Sys2Proof.Machine
end

section
/-! NAME_STATION and FORGET_STATION, the reservation of a free entry and the re-query of the ports that wait (R53, R60, R61). -/

set_option Elab.async false

namespace Sys2Proof.Machine

variable {s t u : State} {p q : Fin 16} {e : Nat} {x : Entry} {i : StationId} {y : Port}

/-! Ports that wait (R53) -/

theorem waitsFor_iff : y.waitsFor i = true ↔ y.link = .unlisted ∧ y.kept = some (i, .duplicate) := by
  unfold Port.waitsFor
  rw [Bool.and_eq_true, decide_eq_true_eq]
  refine and_congr_right fun _ => ?_
  split
  · next j hj => simp [hj]
  · next hne => exact ⟨nofun, fun h => absurd h (hne i)⟩

theorem waitsFull_iff : y.waitsFull = true ↔ y.link = .unlisted ∧ ∃ j, y.kept = some (j, .full) := by
  unfold Port.waitsFull
  rw [Bool.and_eq_true, decide_eq_true_eq]
  refine and_congr_right fun _ => ?_
  split
  · next j hj => simp [hj]
  · next hne => exact ⟨nofun, fun ⟨j, h⟩ => absurd h (hne j)⟩

theorem lowestPort_spec {f : Port → Bool} (h : lowestPort s f = some p) : f s.ports[p] = true :=
  List.find?_some (p := fun p : Fin 16 => f s.ports[p]) h

/-- Which port is lowest depends on the ports alone. -/
theorem lowestPort_congr {f : Port → Bool} (h : t.ports = s.ports) : lowestPort t f = lowestPort s f := by
  rw [lowestPort, lowestPort, h]

theorem reserveEntry_of_some {n : Nat} (h : lowestPort s Port.waitsFull = some p) :
    reserveEntry n s = modPort p (Port.toQuerying none) { s with reservations := s.reservations.put n p } := by
  rw [reserveEntry, h]

theorem reserveEntry_of_none {n : Nat} (h : lowestPort s Port.waitsFull = none) :
    reserveEntry n s = { s with reservations := s.reservations.del n } := by
  rw [reserveEntry, h]

/-- A reservation changes the reservations and the ports alone. -/
theorem reserveEntry_frame (n : Nat) (s : State) : reserveEntry n s =
    { s with reservations := (reserveEntry n s).reservations, ports := (reserveEntry n s).ports } := by
  unfold reserveEntry
  split <;> rfl

theorem reservations_reserveEntry (n : Nat) (s : State) : (reserveEntry n s).reservations =
    match lowestPort s Port.waitsFull with
    | some p => s.reservations.put n p
    | none => s.reservations.del n := by
  cases h : lowestPort s Port.waitsFull with
  | none => rw [reserveEntry_of_none h]
  | some p => rw [reserveEntry_of_some h]; rfl

theorem get_reservations_reserveEntry_ne {n j : Nat} (hj : j ≠ n) :
    (reserveEntry n s).reservations.get j = s.reservations.get j := by
  rw [reservations_reserveEntry]
  split
  · exact Tab.get_put_other _ _ hj
  · exact Tab.get_del_other _ hj

theorem ports_reserveEntry (n : Nat) (s : State) (p : Fin 16) : (reserveEntry n s).ports[p] =
    if lowestPort s Port.waitsFull = some p then Port.toQuerying none s.ports[p] else s.ports[p] := by
  cases h : lowestPort s Port.waitsFull with
  | none => rw [reserveEntry_of_none h, if_neg nofun]
  | some q =>
    rw [reserveEntry_of_some h, getElem_modPort]
    by_cases hpq : p = q
    · rw [if_pos hpq, if_pos (by rw [hpq]), hpq]
    · rw [if_neg hpq, if_neg fun h => hpq (Option.some.inj h).symm]

/-! FORGET_STATION -/

theorem namesStation_iff {a : Attn} : namesStation e a = true ↔
    a.2 = e ∧ (a.1 = .stationNew ∨ a.1 = .stationCall ∨ a.1 = .stationHalted) := by
  simp [namesStation, or_assoc]

theorem ports_requeryAll (i : StationId) (s : State) (p : Fin 16) : (requeryAll i s).ports[p] =
    if s.ports[p].waitsFor i then Port.toQuerying none s.ports[p] else s.ports[p] := by
  rw [requeryAll, Fin.getElem_fin, Vector.getElem_map, Fin.getElem_fin]

/-- A forgotten entry's ports: the lowest FULL one and every DUPLICATE one for its ID are re-queried. -/
theorem ports_forgetEntry (e : Nat) (x : Entry) (s : State) (p : Fin 16) : (forgetEntry e x s).ports[p] =
    if (s.ports[p].link = .unlisted ∧ s.ports[p].kept = some (x.id, .duplicate)) ∨ lowestPort s Port.waitsFull = some p then
      Port.toQuerying none s.ports[p] else s.ports[p] := by
  obtain ⟨v, hv, hforget⟩ : ∃ v : State, v.ports = s.ports ∧ forgetEntry e x s = requeryAll x.id (reserveEntry e v) := by
    refine ⟨_, ?_, rfl⟩
    rfl
  have hquiet : ¬ (Port.toQuerying none s.ports[p]).waitsFor x.id = true := fun h => by
    obtain ⟨hlink, -⟩ := waitsFor_iff.1 h
    cases hlink
  rw [hforget, ports_requeryAll, ports_reserveEntry, lowestPort_congr hv, hv]
  by_cases hfull : lowestPort s Port.waitsFull = some p
  · rw [if_pos hfull, if_neg hquiet, if_pos (.inr hfull)]
  · simp only [hfull, if_false, or_false, ← waitsFor_iff]

theorem forgetEntry_frame (e : Nat) (x : Entry) (s : State) : forgetEntry e x s = { s with
    entries := s.entries.del e, reservations := (forgetEntry e x s).reservations, ports := (forgetEntry e x s).ports
    waiting := s.waiting.filter fun j => decide (j ≠ e)
    attention := s.attention.filter fun a => !namesStation e a } :=
  congrArg (fun v : State => { v with ports := (forgetEntry e x s).ports }) (reserveEntry_frame e _)

/-- The reservations a forgotten entry leaves are those of its own reservation. -/
theorem reservations_forgetEntry (e : Nat) (x : Entry) (s : State) :
    (forgetEntry e x s).reservations = (reserveEntry e s).reservations := by
  rw [reservations_reserveEntry]
  exact reservations_reserveEntry e _

theorem ownNameStation_of_ok {n : Text} (hn : nameOk 12 n = true) : ownNameStation ⟨e, n⟩ s =
    withEntry e s fun _ => .done (modEntry e (fun x => { x with name := n }) s) .empty := if_pos hn

/-- Settles O20, by the checks of each owner in their order. -/
theorem nameAndForgetStation : Obligations.NameAndForgetStation := by
  unfold Obligations.NameAndForgetStation
  refine ⟨fun n l => nameOk_iff, fun e a => namesStation_iff, fun e n s ht => ⟨fun hn => ?_, fun hn he => ?_, fun hn he => ?_⟩,
    fun e s ht => ⟨fun he => refuses_of (owner := ownForgetStation) ht (withEntry_of_none he), fun x he =>
      ⟨fun hbusy => ?_, fun hp hb hl => ⟨forgetEntry e x s, ?_, forgetEntry_frame e x s, fun p hlink => ?_, fun p hkept hlow => ?_,
        fun j hj => ?_, fun p hp => ?_, fun hlow => ?_, fun p hlow => ?_⟩⟩⟩⟩
  · exact refuses_of (v := NameArgs.mk e n) (owner := ownNameStation) ht (if_neg (Bool.eq_false_iff.1 hn))
  · exact refuses_of (owner := ownNameStation) ht ((ownNameStation_of_ok hn).trans (withEntry_of_none he))
  · obtain ⟨x, hx⟩ := Option.isSome_iff_exists.1 he
    exact replies_of (owner := ownNameStation) ht ((ownNameStation_of_ok hn).trans (withEntry_of_some hx))
  · refine refuses_of (owner := ownForgetStation) ht ((withEntry_of_some he).trans (if_pos ?_))
    simpa only [Bool.or_eq_true, decide_eq_true_eq, or_assoc] using hbusy
  · exact replies_of (owner := ownForgetStation) ht ((withEntry_of_some he).trans (if_neg (by simp [hp, hb, hl])))
  · rw [ports_forgetEntry, if_neg]
    rintro (⟨hu, -⟩ | hlow)
    · exact hlink hu
    · exact hlink (waitsFull_iff.1 (lowestPort_spec hlow)).1
  · rw [ports_forgetEntry, if_neg]
    rintro (⟨-, hk⟩ | hl)
    · exact hkept hk
    · exact hlow hl
  · rw [reservations_forgetEntry, get_reservations_reserveEntry_ne hj]
  · rw [ports_forgetEntry, if_pos hp]
    rfl
  · rw [reservations_forgetEntry, reservations_reserveEntry, hlow, Tab.get_del_self]
  · rw [reservations_forgetEntry, reservations_reserveEntry, hlow, Tab.get_put_self]

end Sys2Proof.Machine
end

section
/-! The judgments of a batch: its checkpoint phase, the completion of checkpoints, the pause reasons, and the unbind and the
close in CLOSING (R11–R15, R22, R117, R118, R121, R123, R125). -/

set_option Elab.async false

namespace Sys2Proof.Machine

variable {s t u : State} {e h n j : Nat} {x : Entry} {b c : Batch}

/-! The checkpoint phase (R117) -/

theorem Batch.phase_of_none (ht : b.target = none) : b.phase = .none := by
  rw [Batch.phase, ht]

theorem Batch.phase_of_some {t : Nat} (ht : b.target = some t) :
    b.phase = if b.reached < t then .pending else if b.nextSeq - 1 < t then .limited else .armed := by
  rw [Batch.phase, ht]

theorem Batch.phase_eq_none : b.phase = .none ↔ b.target = none := by
  refine ⟨fun h => ?_, Batch.phase_of_none⟩
  cases ht : b.target with
  | none => rfl
  | some t =>
    rw [Batch.phase_of_some ht] at h
    split_ifs at h

theorem Batch.phase_iff {t : Nat} (ht : b.target = some t) :
    (b.phase = .pending ↔ b.nextSeq - 1 + b.picking < t) ∧
    (b.phase = .limited ↔ b.nextSeq - 1 < t ∧ t ≤ b.nextSeq - 1 + b.picking) ∧ (b.phase = .armed ↔ t ≤ b.nextSeq - 1) := by
  rw [Batch.phase_of_some ht, Batch.reached]
  split_ifs with hpending hlimited
  · exact ⟨⟨fun _ => hpending, fun _ => rfl⟩, ⟨nofun, fun h => by omega⟩, ⟨nofun, fun h => by omega⟩⟩
  · exact ⟨⟨nofun, fun h => by omega⟩, ⟨fun _ => ⟨hlimited, Nat.not_lt.1 hpending⟩, fun _ => rfl⟩, ⟨nofun, fun h => by omega⟩⟩
  · exact ⟨⟨nofun, fun h => by omega⟩, ⟨nofun, fun h => by omega⟩, ⟨fun _ => Nat.not_lt.1 hlimited, fun _ => rfl⟩⟩

/-! The completion of a checkpoint (R123) -/

theorem limitHit_iff : b.limitHit = true ↔ ∃ t, b.target = some t ∧ t ≤ b.nextSeq - 1 + b.picking := by
  unfold Batch.limitHit
  cases b.target with
  | none => simp
  | some t =>
    refine ⟨fun hle => ⟨t, rfl, of_decide_eq_true hle⟩, fun ⟨v, hv, hle⟩ => ?_⟩
    cases hv
    exact decide_eq_true hle

/-- The judgment of the pause reasons changes the set alone. -/
theorem Batch.judgePauses_frame (b : Batch) : b.judgePauses = { b with pauses := b.judgePauses.pauses } := by
  unfold Batch.judgePauses
  split <;> rfl

theorem Batch.judgePauses_of_closed (hb : b.state = .closed) : b.judgePauses = b := if_pos hb

theorem Batch.judgePauses_of_ne (hb : b.state ≠ .closed) : b.judgePauses = { b with pauses := { b.pauses with
    checkpoint := b.limitHit, suspectLimit := b.suspectHit, countReached := b.countHit
    sequenceEnd := b.pauses.sequenceEnd || b.sequenceHit } } := if_neg hb

theorem Batch.applyAmendment_eq (b : Batch) : b.applyAmendment = { b with
    plan := (b.pendingAmend.bind (·.plan)).getD b.plan, policy := (b.pendingAmend.bind (·.policy)).getD b.policy
    band := (b.pendingAmend.bind (·.band)).getD b.band, minGap := (b.pendingAmend.bind (·.minGap)).getD b.minGap
    pendingAmend := none } := by
  unfold Batch.applyAmendment
  split
  · next hnone =>
    cases b
    dsimp only at hnone
    subst hnone
    rfl
  · next a ha => simp only [ha, Option.bind_some]

/-- The batch after steps 1 to 3 of a checkpoint completion, before its pause reasons are judged (R123). -/
def Batch.passCheckpoint (t : Nat) (b : Batch) : Batch :=
  { b with
    last := t, passed := b.passed + 1, pendingAmend := none
    plan := (b.pendingAmend.bind (·.plan)).getD b.plan, policy := (b.pendingAmend.bind (·.policy)).getD b.policy
    band := (b.pendingAmend.bind (·.band)).getD b.band, minGap := (b.pendingAmend.bind (·.minGap)).getD b.minGap
    target := { b with last := t }.periodicTarget }

theorem Batch.completeCheckpoint_of_some {t : Nat} (ht : b.target = some t) :
    b.completeCheckpoint = (b.passCheckpoint t).judgePauses := by
  unfold Batch.completeCheckpoint
  rw [ht]
  dsimp only
  rw [Batch.applyAmendment_eq]
  rfl

theorem Batch.completeCheckpoint_of_none (ht : b.target = none) : b.completeCheckpoint = b := by
  rw [Batch.completeCheckpoint, ht]

theorem Batch.completeCheckpoint_nextSeq (b : Batch) : b.completeCheckpoint.nextSeq = b.nextSeq := by
  cases ht : b.target with
  | none => rw [Batch.completeCheckpoint_of_none ht]
  | some t => rw [Batch.completeCheckpoint_of_some ht, Batch.judgePauses_frame]; rfl

theorem Batch.completeCheckpoint_target {t : Nat} (ht : b.target = some t) :
    b.completeCheckpoint.target = { b with last := t }.periodicTarget := by
  rw [Batch.completeCheckpoint_of_some ht, Batch.judgePauses_frame]
  rfl

/-- A completion sets the next target above the one it takes. -/
theorem Batch.lt_completeCheckpoint_target {t v : Nat} (ht : b.target = some t) (hv : b.completeCheckpoint.target = some v) :
    t < v := by
  rw [Batch.completeCheckpoint_target ht] at hv
  obtain ⟨-, -, hlt, -⟩ := (Batch.periodicTarget_eq_some _ v).1 hv
  exact hlt

theorem checkpointDone_of_some {t : Nat} (hb : s.batches.get h = some b) (ht : b.target = some t) : checkpointDone s h = true ↔
    b.state = .open ∧ t ≤ b.nextSeq - 1 ∧ b.picking = 0 ∧
    ∀ p ∈ s.sheets, p.2.batch = h → ∀ q, p.2.seq = some q → t < q := by
  have hseq : ∀ r : Sheet, (match r.seq with | some q => decide (q ≤ t) | none => false) = true ↔
      ∃ q, r.seq = some q ∧ q ≤ t := fun r => by cases r.seq <;> simp
  have hany : (s.sheets.any fun p => decide (p.2.batch = h) &&
        (match p.2.seq with | some q => decide (q ≤ t) | none => false)) = false ↔
      ∀ p ∈ s.sheets, p.2.batch = h → ∀ q, p.2.seq = some q → t < q := by
    rw [List.any_eq_false]
    refine forall₂_congr fun p _ => ?_
    rw [Bool.and_eq_true, decide_eq_true_eq, hseq, not_and]
    refine imp_congr_right fun _ => ?_
    simp only [not_exists, not_and, Nat.not_le]
  unfold checkpointDone
  rw [hb]
  dsimp only
  rw [ht]
  dsimp only
  rw [Bool.and_eq_true, Bool.and_eq_true, Bool.and_eq_true, decide_eq_true_eq, decide_eq_true_eq, decide_eq_true_eq,
    Bool.not_eq_true', and_assoc, and_assoc]
  exact and_congr_right fun _ => and_congr_right fun _ => and_congr_right fun _ => hany

theorem checkpointDone_iff : checkpointDone s h = true ↔ ∃ b t, s.batches.get h = some b ∧ b.target = some t ∧
    b.state = .open ∧ t ≤ b.nextSeq - 1 ∧ b.picking = 0 ∧
    ∀ p ∈ s.sheets, p.2.batch = h → ∀ q, p.2.seq = some q → t < q := by
  constructor
  · intro hd
    cases hb : s.batches.get h with
    | none => simp [checkpointDone, hb] at hd
    | some b =>
      cases ht : b.target with
      | none => simp [checkpointDone, hb, ht] at hd
      | some t => exact ⟨b, t, rfl, ht, (checkpointDone_of_some hb ht).1 hd⟩
  · rintro ⟨b, t, hb, ht, hok⟩
    exact (checkpointDone_of_some hb ht).2 hok

theorem completeOnce_eq (hb : s.batches.get h = some b) : completeOnce h s =
    if b.report then raise .checkpointPassed h (modBatch h Batch.completeCheckpoint s)
    else modBatch h Batch.completeCheckpoint s := by
  rw [completeOnce, hb]

theorem get_batches_modBatch_self (f : Batch → Batch) (hb : s.batches.get h = some b) :
    (modBatch h f s).batches.get h = some (f b) := by
  rw [modBatch_batches, Tab.get_modify_self, hb, Option.map_some]

theorem get_batches_modBatch_ne (f : Batch → Batch) (hj : j ≠ h) : (modBatch h f s).batches.get j = s.batches.get j := by
  rw [modBatch_batches, Tab.get_modify_other _ _ hj]

theorem get_batches_completeOnce (hb : s.batches.get h = some b) :
    (completeOnce h s).batches.get h = some b.completeCheckpoint := by
  rw [completeOnce_eq hb, ← get_batches_modBatch_self Batch.completeCheckpoint hb]
  split
  · rw [raise_batches]
  · rfl

theorem completeCheckpoints_of_done (hd : checkpointDone s h = true) :
    completeCheckpoints (n + 1) h s = completeCheckpoints n h (completeOnce h s) := if_pos hd

theorem completeCheckpoints_of_not_done (hd : checkpointDone s h = false) : completeCheckpoints n h s = s := by
  cases n with
  | zero => rfl
  | succ n => exact if_neg (Bool.eq_false_iff.1 hd)

/-- As the targets rise, completions come to an end before the sequence does. -/
theorem checkpointDone_completeCheckpoints (hb : s.batches.get h = some b) (hpos : 0 < b.nextSeq)
    (hn : ∀ t, b.target = some t → b.nextSeq ≤ t + n) : checkpointDone (completeCheckpoints n h s) h = false := by
  induction n generalizing s b with
  | zero =>
    refine Bool.eq_false_iff.2 fun hd => ?_
    obtain ⟨c, t, hc, ht, -, hle, -⟩ := checkpointDone_iff.1 hd
    cases hb.symm.trans hc
    have := hn t ht
    omega
  | succ n ih =>
    cases hd : checkpointDone s h with
    | false => rwa [completeCheckpoints_of_not_done hd]
    | true =>
      obtain ⟨c, t, hc, ht, -⟩ := checkpointDone_iff.1 hd
      cases hb.symm.trans hc
      rw [completeCheckpoints_of_done hd]
      refine ih (get_batches_completeOnce hb) (by rwa [Batch.completeCheckpoint_nextSeq]) fun v hv => ?_
      have hlt := Batch.lt_completeCheckpoint_target ht hv
      have hbound := hn t ht
      rw [Batch.completeCheckpoint_nextSeq]
      omega

/-- Settles O30, with the targets of successive completions rising. -/
theorem checkpointsAdvance : Obligations.CheckpointsAdvance := by
  unfold Obligations.CheckpointsAdvance
  refine ⟨fun b => ⟨Batch.phase_eq_none, fun t ht => Batch.phase_iff ht⟩, fun b t => Batch.periodicTarget_eq_some b t,
    fun b t ht => ?_, fun h s => checkpointDone_iff, fun h b s hb => ⟨⟨modBatch h Batch.completeCheckpoint s,
      completeOnce_eq hb, rfl, get_batches_modBatch_self _ hb, fun j hj => get_batches_modBatch_ne _ hj⟩,
      fun n => ⟨completeCheckpoints_of_done, completeCheckpoints_of_not_done⟩,
      fun hpos => checkpointDone_completeCheckpoints hb hpos fun t _ => Nat.le_add_left _ _⟩⟩
  refine ⟨_, rfl, ?_⟩
  rw [Batch.completeCheckpoint_of_some ht]
  have hframe := Batch.judgePauses_frame (b.passCheckpoint t)
  refine ⟨by rw [hframe]; rfl, by rw [hframe]; rfl, by rw [hframe]; rfl, by rw [hframe]; rfl, by rw [hframe]; rfl,
    by rw [hframe]; rfl, by rw [hframe]; rfl, by rw [hframe]; rfl, fun hopen => ?_, by rw [hframe]; rfl⟩
  rw [Batch.judgePauses_of_ne (b := b.passCheckpoint t) hopen]
  exact limitHit_iff

end Sys2Proof.Machine
end

section
/-! The pause reasons of a batch, and its unbind and close judgments in CLOSING (R11–R15, R21, R22, R121). -/

set_option Elab.async false

namespace Sys2Proof.Machine

variable {s t u : State} {e h n j : Nat} {x : Entry} {b c : Batch}

/-! The pause reasons -/

theorem countHit_iff : b.countHit = true ↔ ∃ n, b.expected = some n ∧ n ≤ b.fed + b.picking := by
  unfold Batch.countHit
  cases b.expected <;> simp

theorem sequenceHit_iff : b.sequenceHit = true ↔ 65535 < b.nextSeq + b.picking := decide_eq_true_iff

theorem suspectHit_iff : b.suspectHit = true ↔ b.suspectLimit ≠ 0 ∧ b.suspectLimit ≤ b.openSuspects := by
  simp [Batch.suspectHit]

/-- The judged pause reasons stand exactly while their causes do; HOST is left, and SEQUENCE_END once in stays (R11–R15). -/
theorem Batch.judgePauses_spec (hb : b.state ≠ .closed) : b.judgePauses.pauses.host = b.pauses.host ∧
    (b.judgePauses.pauses.checkpoint = true ↔ ∃ t, b.target = some t ∧ t ≤ b.nextSeq - 1 + b.picking) ∧
    (b.judgePauses.pauses.suspectLimit = true ↔ b.suspectLimit ≠ 0 ∧ b.suspectLimit ≤ b.openSuspects) ∧
    (b.judgePauses.pauses.countReached = true ↔ ∃ n, b.expected = some n ∧ n ≤ b.fed + b.picking) ∧
    (b.judgePauses.pauses.sequenceEnd = true ↔ b.pauses.sequenceEnd = true ∨ 65535 < b.nextSeq + b.picking) := by
  rw [Batch.judgePauses_of_ne hb]
  refine ⟨rfl, limitHit_iff, suspectHit_iff, countHit_iff, ?_⟩
  rw [Bool.or_eq_true, sequenceHit_iff]

theorem judgePausesOf_of_get (hb : s.batches.get h = some b) : judgePausesOf h s =
    if b.judgePauses.pauses.countReached && !b.pauses.countReached then
      raise .countReached h (modBatch h Batch.judgePauses s) else modBatch h Batch.judgePauses s := by
  rw [judgePausesOf, hb]

theorem judgePausesOf_frame (h : Nat) (s : State) : judgePausesOf h s =
    { s with batches := (judgePausesOf h s).batches, attention := (judgePausesOf h s).attention } := by
  cases hb : s.batches.get h with
  | none => rw [judgePausesOf, hb]
  | some b =>
    rw [judgePausesOf_of_get hb]
    split
    · rw [raise_frame]
      rfl
    · rfl

theorem batches_judgePausesOf (h : Nat) (s : State) :
    (judgePausesOf h s).batches = s.batches.modify h Batch.judgePauses := by
  cases hb : s.batches.get h with
  | none => rw [judgePausesOf, hb, Tab.modify_eq_self _ hb]
  | some b =>
    rw [judgePausesOf_of_get hb]
    split <;> simp

theorem get_batches_judgePausesOf_self (hb : s.batches.get h = some b) :
    (judgePausesOf h s).batches.get h = some b.judgePauses := by
  rw [batches_judgePausesOf, Tab.get_modify_self, hb, Option.map_some]

theorem get_batches_judgePausesOf_ne (hj : j ≠ h) : (judgePausesOf h s).batches.get j = s.batches.get j := by
  rw [batches_judgePausesOf, Tab.get_modify_other _ _ hj]

/-- COUNT_REACHED raises its condition where it joins (R13). -/
theorem attention_judgePausesOf (hb : s.batches.get h = some b) : (judgePausesOf h s).attention =
    if b.judgePauses.pauses.countReached && !b.pauses.countReached then (raise .countReached h s).attention
    else s.attention := by
  rw [judgePausesOf_of_get hb]
  split
  · exact raise_attention_congr rfl rfl
  · rfl

theorem attention_judgePausesOf_of_joins (hb : s.batches.get h = some b) (hj : b.judgePauses.pauses.countReached = true)
    (hn : b.pauses.countReached = false) : (judgePausesOf h s).attention = (raise .countReached h s).attention := by
  rw [attention_judgePausesOf hb, hj, hn]
  rfl

theorem attention_judgePausesOf_of_stays (hb : s.batches.get h = some b)
    (hj : b.judgePauses.pauses.countReached = false ∨ b.pauses.countReached = true) :
    (judgePausesOf h s).attention = s.attention := by
  rw [attention_judgePausesOf hb, if_neg]
  rcases hj with hj | hj <;> simp [hj]

/-! The judgments in their turn -/

theorem judgeBatch_of_get (hb : s.batches.get h = some b) :
    judgeBatch h s = judgeClosing h (completeCheckpoints b.nextSeq h (judgePausesOf h s)) := by
  have hseq : b.judgePauses.nextSeq = b.nextSeq := by rw [Batch.judgePauses_frame]
  rw [judgeBatch, get_batches_judgePausesOf_self hb, Option.map_some, Option.getD_some, hseq]

theorem pathHolds_iff : pathHolds s x h = true ↔ ∃ c ∈ x.path, ∃ r, s.sheets.get c.slot = some r ∧ r.batch = h := by
  rw [pathHolds, List.any_eq_true]
  refine exists_congr fun c => and_congr_right fun _ => ?_
  cases s.sheets.get c.slot <;> simp

/-! The unbind judgment -/

theorem judgeUnbind_of_unbound (hb : b.bound = none) : judgeUnbind h b s = s := by
  rw [judgeUnbind, hb]

theorem judgeUnbind_of_bound (hb : b.bound = some e) (hx : s.entries.get e = some x) : judgeUnbind h b s =
    if b.picking = 0 && !pathHolds s x h && decide (x.feed ≠ .clearing) then unbindPair h e s else s := by
  unfold judgeUnbind
  rw [hb]
  dsimp only
  rw [hx]

theorem judgeUnbind_of_busy (hb : b.bound = some e) (hx : s.entries.get e = some x)
    (hbusy : b.picking ≠ 0 ∨ pathHolds s x h = true ∨ x.feed = .clearing) : judgeUnbind h b s = s := by
  rw [judgeUnbind_of_bound hb hx, if_neg]
  rcases hbusy with hp | hp | hp <;> simp [hp]

theorem judgeUnbind_of_quiet (hb : b.bound = some e) (hx : s.entries.get e = some x) (hp : b.picking = 0)
    (hpath : pathHolds s x h = false) (hf : x.feed ≠ .clearing) : judgeUnbind h b s = unbindPair h e s := by
  rw [judgeUnbind_of_bound hb hx, if_pos]
  simp [hp, hpath, hf]

theorem judgeUnbind_frame (h : Nat) (b : Batch) (s : State) : judgeUnbind h b s =
    { s with entries := (judgeUnbind h b s).entries, batches := (judgeUnbind h b s).batches } := by
  unfold judgeUnbind
  (repeat' split) <;> rfl

theorem get_batches_judgeUnbind_ne (hj : j ≠ h) : (judgeUnbind h b s).batches.get j = s.batches.get j := by
  unfold judgeUnbind
  split
  · rfl
  · split
    · rfl
    · split
      · rw [unbindPair, modEntry_batches, get_batches_modBatch_ne _ hj]
      · rfl

theorem get_entries_judgeUnbind_ne (he : b.bound ≠ some e) : (judgeUnbind h b s).entries.get e = s.entries.get e := by
  unfold judgeUnbind
  split
  · rfl
  · next i hi =>
    split
    · rfl
    · split
      · exact get_entries_modEntry_ne _ fun hei => he (hei ▸ hi)
      · rfl

theorem get_batches_unbindPair (hb : s.batches.get h = some b) :
    (unbindPair h e s).batches.get h = some { b with bound := none } := by
  rw [unbindPair, modEntry_batches, get_batches_modBatch_self _ hb]

theorem get_entries_unbindPair (hx : s.entries.get e = some x) :
    (unbindPair h e s).entries.get e = some { x with bound := none, feed := .idle, cause := none } :=
  get_entries_modEntry_self (s := modBatch h (fun b => { b with bound := none }) s) _ hx

/-! The close judgment -/

theorem judgeClose_of_get (hb : s.batches.get h = some b) : judgeClose h s =
    if b.bound = none && b.picking = 0 && b.live = 0 then enterClosed h .complete s else s := by
  rw [judgeClose, hb]

theorem judgeClose_of_open (hb : s.batches.get h = some b) (ho : b.bound ≠ none ∨ b.picking ≠ 0 ∨ b.live ≠ 0) :
    judgeClose h s = s := by
  rw [judgeClose_of_get hb, if_neg]
  rcases ho with ho | ho | ho <;> simp [ho]

theorem judgeClose_of_done (hb : s.batches.get h = some b) (hbound : b.bound = none) (hp : b.picking = 0)
    (hl : b.live = 0) : judgeClose h s = enterClosed h .complete s := by
  rw [judgeClose_of_get hb, if_pos]
  simp [hbound, hp, hl]

theorem judgeClose_frame (h : Nat) (s : State) : judgeClose h s =
    { s with batches := (judgeClose h s).batches, attention := (judgeClose h s).attention } := by
  unfold judgeClose
  split
  · rfl
  · split
    · rw [enterClosed, raise_frame]
      rfl
    · rfl

theorem get_batches_judgeClose_ne (hj : j ≠ h) : (judgeClose h s).batches.get j = s.batches.get j := by
  unfold judgeClose
  split
  · rfl
  · split
    · rw [enterClosed, raise_batches, get_batches_modBatch_ne _ hj]
    · rfl

theorem get_batches_enterClosed {o : BatchOutcome} (hb : s.batches.get h = some b) :
    (enterClosed h o s).batches.get h = some (b.toClosed o) := by
  rw [enterClosed, raise_batches, get_batches_modBatch_self _ hb]

theorem mem_attention_enterClosed {o : BatchOutcome} (hk : AttnKind.batchClosed ∉ s.room.mask) (hh : h < 256)
    (ha : ∀ a ∈ s.attention, a.2 < 256) : (.batchClosed, h) ∈ (enterClosed h o s).attention :=
  mem_attention_raise_self (s := modBatch h (Batch.toClosed o) s) hk hh ha

/-! Both in CLOSING -/

theorem judgeClosing_of_ne (hb : s.batches.get h = some b) (hs : b.state ≠ .closing) : judgeClosing h s = s := by
  rw [judgeClosing, hb]
  exact if_neg hs

theorem judgeClosing_of_closing (hb : s.batches.get h = some b) (hs : b.state = .closing) :
    judgeClosing h s = judgeClose h (judgeUnbind h b s) := by
  rw [judgeClosing, hb]
  exact if_pos hs

theorem judgeClosing_frame (h : Nat) (s : State) : judgeClosing h s = { s with
    entries := (judgeClosing h s).entries, batches := (judgeClosing h s).batches
    attention := (judgeClosing h s).attention } := by
  cases hb : s.batches.get h with
  | none => rw [judgeClosing, hb]
  | some b =>
    by_cases hs : b.state = .closing
    · rw [judgeClosing_of_closing hb hs]
      generalize hv : judgeUnbind h b s = v
      have hframe : v = { s with entries := v.entries, batches := v.batches } := hv ▸ judgeUnbind_frame h b s
      calc judgeClose h v
          = { v with batches := (judgeClose h v).batches, attention := (judgeClose h v).attention } := judgeClose_frame h v
        _ = { s with entries := v.entries, batches := (judgeClose h v).batches, attention := (judgeClose h v).attention } :=
          congrArg (fun w : State => { w with
            batches := (judgeClose h v).batches, attention := (judgeClose h v).attention }) hframe
        _ = { s with
              entries := (judgeClose h v).entries, batches := (judgeClose h v).batches
              attention := (judgeClose h v).attention } := by
          have hentries : (judgeClose h v).entries = v.entries := by rw [judgeClose_frame]
          rw [hentries]
    · rw [judgeClosing_of_ne hb hs]

theorem entries_judgeClose (h : Nat) (s : State) : (judgeClose h s).entries = s.entries := by rw [judgeClose_frame]

theorem get_batches_judgeClosing_ne (hj : j ≠ h) : (judgeClosing h s).batches.get j = s.batches.get j := by
  unfold judgeClosing
  split
  · rfl
  · split
    · rw [get_batches_judgeClose_ne hj, get_batches_judgeUnbind_ne hj]
    · rfl

/-- A batch in CLOSING that nothing holds open any more goes to CLOSED, COMPLETE, and BATCH_CLOSED is raised (R22). -/
theorem judgeClose_closes (hb : s.batches.get h = some { b with bound := none }) (hp : b.picking = 0) (hl : b.live = 0)
    (hh : h < 256) (ha : ∀ a ∈ s.attention, a.2 < 256) :
    (judgeClose h s).batches.get h = some (b.toClosed .complete) ∧
    (AttnKind.batchClosed ∉ s.room.mask → (.batchClosed, h) ∈ (judgeClose h s).attention) := by
  rw [judgeClose_of_done hb rfl hp hl]
  exact ⟨(get_batches_enterClosed hb).trans rfl, fun hk => mem_attention_enterClosed hk hh ha⟩

/-- Settles O31, by the state of the batch, its binding and what it still holds. -/
theorem closingBatchesUnbindAndClose : Obligations.ClosingBatchesUnbindAndClose := by
  unfold Obligations.ClosingBatchesUnbindAndClose
  refine ⟨fun h b s hb => judgeBatch_of_get hb, ?_, fun h x s => pathHolds_iff, ?_⟩
  · rintro h b s u hb rfl
    refine ⟨judgePausesOf_frame h s, fun j hj => get_batches_judgePausesOf_ne hj, fun hc => ?_, fun hc => ?_⟩
    · have hsame := Batch.judgePauses_of_closed hc
      refine ⟨(get_batches_judgePausesOf_self hb).trans (congrArg some hsame), attention_judgePausesOf_of_stays hb ?_⟩
      rw [hsame]
      exact (Bool.eq_false_or_eq_true _).symm
    · obtain ⟨hhost, hcheck, hsuspect, hcount, hseq⟩ := Batch.judgePauses_spec hc
      exact ⟨_, get_batches_judgePausesOf_self hb, Batch.judgePauses_frame b, hhost, hcheck, hsuspect, hcount, hseq,
        attention_judgePausesOf_of_joins hb, attention_judgePausesOf_of_stays hb⟩
  · rintro h b s u ht ha hb rfl
    have hh : h < 256 := (Tab.key_lt (batchesWf ht) hb).trans (by decide)
    refine ⟨judgeClosing_frame h s, fun j hj => get_batches_judgeClosing_ne hj, fun e he => ?_,
      fun hs => judgeClosing_of_ne hb hs, fun hs => ?_⟩
    · unfold judgeClosing
      rw [hb]
      dsimp only
      split
      · rw [entries_judgeClose, get_entries_judgeUnbind_ne he]
      · rfl
    · rw [judgeClosing_of_closing hb hs]
      refine ⟨fun e x hbound hx => ⟨fun hbusy => ?_, fun hp hpath hf => ⟨?_, fun hl => ?_⟩⟩, fun hbound hheld => ?_,
        fun hl hp hfree => ?_⟩
      · rw [judgeUnbind_of_busy hbound hx hbusy, judgeClose_of_open hb (.inl (by simp [hbound]))]
      · rw [judgeUnbind_of_quiet hbound hx hp hpath hf, entries_judgeClose, get_entries_unbindPair hx]
      · rw [judgeUnbind_of_quiet hbound hx hp hpath hf,
          judgeClose_of_open (get_batches_unbindPair hb) (.inr (.inr hl))]
        exact ⟨get_batches_unbindPair hb, rfl⟩
      · rw [judgeUnbind_of_unbound hbound, judgeClose_of_open hb (.inr hheld)]
      · rcases hfree with hbound | ⟨e, x, hbound, hx, hpath, hf⟩
        · rw [judgeUnbind_of_unbound hbound]
          exact judgeClose_closes (by rw [hb, ← hbound]) hp hl hh ha
        · rw [judgeUnbind_of_quiet hbound hx hp hpath hf]
          exact judgeClose_closes (get_batches_unbindPair hb) hp hl hh ha

end Sys2Proof.Machine
end

section
/-! The completion and the retirement of a record: its release, its tag, its place in the counts (R40–R42, R127). -/

set_option Elab.async false

namespace Sys2Proof.Machine

variable {s t u : State} {p q : Fin 16} {e h n j : Nat} {x : Entry} {b c : Batch} {r : Sheet} {g : Tag}
  {o : Option ReleaseOutcome} {k : ReleaseOutcome}

/-! Completion (R40) -/

theorem complete_iff : r.complete = true ↔ r.state = .routing ∧ r.tray.isSome = true ∧
    (r.verdict = .clear ∨ r.resolved = true) ∧ r.images.isSome = true ∧
    ∃ l, r.deliveries = some l ∧ ∀ d ∈ l, d.status = .done := by
  unfold Sheet.complete
  cases r.deliveries with
  | none => simp
  | some l => simp [and_assoc]

theorem completeIfDone_of_get (hr : s.sheets.get n = some r) : completeIfDone n s = if r.complete then
    retireRecord n (some .kept) (modBatch r.batch (fun b => { b with completed := b.completed + 1 }) s) else s := by
  rw [completeIfDone, hr]

/-! Releases and tags (R30, R42) -/

theorem releaseWaiting_iff {y : Port} : releaseWaiting y g = true ↔
    ∃ o, (g, o) ∈ y.queues.release ∨ y.line = some (.release g o) := by
  have hqueue : y.queues.release.any (fun r => decide (r.1 = g)) = true ↔ ∃ o, (g, o) ∈ y.queues.release := by
    rw [List.any_eq_true]
    constructor
    · rintro ⟨⟨a, o⟩, hmem, ha⟩
      cases of_decide_eq_true ha
      exact ⟨o, hmem⟩
    · rintro ⟨o, hmem⟩
      exact ⟨(g, o), hmem, decide_eq_true rfl⟩
  unfold releaseWaiting
  rw [Bool.or_eq_true, hqueue, exists_or]
  refine or_congr_right ?_
  split
  · next a o hline =>
    rw [hline, decide_eq_true_eq]
    exact ⟨fun h => ⟨o, by rw [h]⟩, fun ⟨_, h⟩ => by cases h; rfl⟩
  · next hne => exact ⟨nofun, fun ⟨o, h⟩ => absurd h (hne g o)⟩

theorem findTagged_isSome : (findTagged s e g).isSome = true ↔ ∃ p ∈ s.sheets, p.2.station = e ∧ p.2.tag = g := by
  simp only [findTagged, Tab.find, List.find?_isSome, Bool.and_eq_true, decide_eq_true_eq]

theorem owedTag_iff {l : List (Tag × ReleaseOutcome)} : l.any (fun r => decide (r.1 = g)) = true ↔ ∃ o, (g, o) ∈ l := by
  simp

/-- A tag is held by a live record, an owed release, or a RELEASE word that has not left (R30). -/
theorem tagHeld_iff : tagHeld s e x g = true ↔ (∃ p ∈ s.sheets, p.2.station = e ∧ p.2.tag = g) ∨ (∃ o, (g, o) ∈ x.owed) ∨
    ∃ p : Fin 16, x.port = some p ∧ ∃ o, (g, o) ∈ s.ports[p].queues.release ∨ s.ports[p].line = some (.release g o) := by
  have hport : (match x.port with | some p => releaseWaiting s.ports[p] g | none => false) = true ↔
      ∃ p : Fin 16, x.port = some p ∧ releaseWaiting s.ports[p] g = true := by cases x.port <;> simp
  unfold tagHeld
  rw [Bool.or_eq_true, Bool.or_eq_true, findTagged_isSome, owedTag_iff, or_assoc]
  refine or_congr_right (or_congr_right (hport.trans ?_))
  simp only [releaseWaiting_iff]

theorem mem_owe {a q : Tag × ReleaseOutcome} {l : List (Tag × ReleaseOutcome)} (hl : (l.map Prod.fst).Pairwise (· < ·)) :
    q ∈ owe a l ↔ q = a ∨ (q ∈ l ∧ q.1 ≠ a.1) := by
  induction l with
  | nil => simp [owe]
  | cons m l ih =>
    obtain ⟨hm, hl'⟩ := List.pairwise_cons.1 hl
    have hlater : ∀ z ∈ l, m.1 < z.1 := fun z hz => hm _ (List.mem_map_of_mem hz)
    unfold owe
    split_ifs with hlt heq
    · have hne : ∀ z ∈ m :: l, z.1 ≠ a.1 := fun z hz => by
        rcases List.mem_cons.1 hz with rfl | hz
        · bv_omega
        · have := hlater z hz
          bv_omega
      rw [List.mem_cons]
      exact or_congr_right ⟨fun hq => ⟨hq, hne q hq⟩, And.left⟩
    · have hne : ∀ z ∈ l, z.1 ≠ a.1 := fun z hz => by
        have := hlater z hz
        bv_omega
      rw [List.mem_cons]
      refine or_congr_right ⟨fun hq => ⟨List.mem_cons_of_mem m hq, hne q hq⟩, fun ⟨hq, hqa⟩ => ?_⟩
      exact (List.mem_cons.1 hq).resolve_left fun hqm => hqa (hqm ▸ heq.symm)
    · rw [List.mem_cons, ih hl', List.mem_cons]
      constructor
      · rintro (rfl | hqa | ⟨hq, hne⟩)
        · exact .inr ⟨.inl rfl, fun h => heq h.symm⟩
        · exact .inl hqa
        · exact .inr ⟨.inr hq, hne⟩
      · rintro (hqa | ⟨rfl | hq, hne⟩)
        · exact .inr (.inl hqa)
        · exact .inl rfl
        · exact .inr (.inr ⟨hq, hne⟩)

theorem owe_pairwise {a : Tag × ReleaseOutcome} {l : List (Tag × ReleaseOutcome)}
    (hl : (l.map Prod.fst).Pairwise (· < ·)) : ((owe a l).map Prod.fst).Pairwise (· < ·) := by
  induction l with
  | nil => exact List.pairwise_singleton _ _
  | cons m l ih =>
    obtain ⟨hm, hl'⟩ := List.pairwise_cons.1 hl
    unfold owe
    split_ifs with hlt heq
    · refine List.pairwise_cons.2 ⟨fun z hz => ?_, hl⟩
      rcases List.mem_cons.1 hz with rfl | hz
      · exact hlt
      · exact BitVec.lt_trans hlt (hm z hz)
    · exact List.pairwise_cons.2 ⟨heq ▸ hm, hl'⟩
    · refine List.pairwise_cons.2 ⟨fun z hz => ?_, ih hl'⟩
      obtain ⟨q, hq, rfl⟩ := List.mem_map.1 hz
      rcases (mem_owe hl').1 hq with rfl | ⟨hq, -⟩
      · bv_omega
      · exact hm _ (List.mem_map_of_mem hq)

theorem mem_owe_self (a : Tag × ReleaseOutcome) (l : List (Tag × ReleaseOutcome)) : a ∈ owe a l := by
  induction l with
  | nil => simp [owe]
  | cons m l ih =>
    unfold owe
    split_ifs
    · exact List.mem_cons_self
    · exact List.mem_cons_self
    · exact List.mem_cons_of_mem m ih

theorem present_of_get (hx : s.entries.get e = some x) : present s e = x.port.isSome := by
  rw [present, hx, Option.bind_some]

theorem releaseDue_of_port (hx : s.entries.get e = some x) (hp : x.port = some p) :
    releaseDue e g k s = onQueues e (Queues.addRelease (g, k)) s := if_pos (by rw [present_of_get hx, hp]; rfl)

theorem releaseDue_of_absent (hx : s.entries.get e = some x) (hp : x.port = none) :
    releaseDue e g k s = modEntry e (fun x => { x with owed := owe (g, k) x.owed }) s :=
  if_neg (by rw [present_of_get hx, hp]; nofun)

/-! The record leaves the table (R41) -/

theorem plans_modPlan (n : Nat) (f : Plan → Plan) (s : State) (m : Fin 16) :
    (modPlan n f s).plans[m] = if m.val = n then f s.plans[m] else s.plans[m] := by
  unfold modPlan
  split
  · simp only [Fin.getElem_fin, Vector.getElem_set, eq_comm]
    split
    · next hm => subst hm; rfl
    · rfl
  · next hn => exact (if_neg fun hm : m.val = n => hn (hm ▸ m.isLt)).symm

theorem modPlan_frame (n : Nat) (f : Plan → Plan) (s : State) : modPlan n f s = { s with plans := (modPlan n f s).plans } := by
  unfold modPlan
  split <;> rfl

theorem dropCapture_frame (r : Sheet) (s : State) : dropCapture r s = { s with plans := (dropCapture r s).plans } := by
  unfold dropCapture
  split
  · exact modPlan_frame _ _ s
  · rfl

/-- A retirement takes the record out of the captures of the plan it captured, and of no other (R127). -/
theorem plans_dropCapture (r : Sheet) (s : State) (m : Fin 16) : (dropCapture r s).plans[m].body = s.plans[m].body ∧
    ((∃ c, r.captured = some c ∧ c.plan = m.val) → (dropCapture r s).plans[m].captures = s.plans[m].captures - 1) ∧
    ((∀ c, r.captured = some c → c.plan ≠ m.val) → (dropCapture r s).plans[m] = s.plans[m]) := by
  unfold dropCapture
  cases hc : r.captured with
  | none => exact ⟨rfl, (fun ⟨_, h, _⟩ => nomatch h), fun _ => rfl⟩
  | some c =>
    dsimp only
    rw [plans_modPlan]
    split_ifs with hm
    · exact ⟨rfl, fun _ => rfl, fun h => absurd hm.symm (h c rfl)⟩
    · refine ⟨rfl, fun ⟨_, h, hp⟩ => ?_, fun _ => rfl⟩
      cases h
      exact absurd hp.symm hm

/-- The state once the record `r` in slot `n` has left the table, before its release falls due (R41). -/
def recordOut (n : Nat) (r : Sheet) (s : State) : State :=
  dropCapture r (modEntry r.station (fun x => { x with liveCount := x.liveCount - 1 })
    (modBatch r.batch (Batch.loseRecord r) { s with sheets := s.sheets.del n }))

theorem removeRecord_eq_recordOut (hr : s.sheets.get n = some r) : removeRecord n o s =
    match o with
    | some k => releaseDue r.station r.tag k (recordOut n r s)
    | none => recordOut n r s := by
  rw [removeRecord, hr]
  rfl

theorem recordOut_frame (n : Nat) (r : Sheet) (s : State) : recordOut n r s = { s with
    sheets := s.sheets.del n, batches := s.batches.modify r.batch (Batch.loseRecord r)
    entries := s.entries.modify r.station (fun x => { x with liveCount := x.liveCount - 1 })
    plans := (recordOut n r s).plans } := dropCapture_frame r _

@[simp] theorem recordOut_sheets (n : Nat) (r : Sheet) (s : State) : (recordOut n r s).sheets = s.sheets.del n := by
  rw [recordOut_frame]

@[simp] theorem recordOut_ports (n : Nat) (r : Sheet) (s : State) : (recordOut n r s).ports = s.ports := by
  rw [recordOut_frame]

@[simp] theorem recordOut_entries (n : Nat) (r : Sheet) (s : State) :
    (recordOut n r s).entries = s.entries.modify r.station (fun x => { x with liveCount := x.liveCount - 1 }) := by
  rw [recordOut_frame]

@[simp] theorem recordOut_batches (n : Nat) (r : Sheet) (s : State) :
    (recordOut n r s).batches = s.batches.modify r.batch (Batch.loseRecord r) := by
  rw [recordOut_frame]

theorem get_entries_recordOut (n : Nat) (r : Sheet) (hx : s.entries.get r.station = some x) :
    (recordOut n r s).entries.get r.station = some { x with liveCount := x.liveCount - 1 } := by
  rw [recordOut_entries, Tab.get_modify_self, hx, Option.map_some]

theorem releaseDue_frame (e : Nat) (g : Tag) (k : ReleaseOutcome) (s : State) : releaseDue e g k s =
    { s with entries := (releaseDue e g k s).entries, ports := (releaseDue e g k s).ports } := by
  unfold releaseDue
  split
  · rw [onQueues_frame]
  · rfl

theorem get_entries_releaseDue_ne (he : j ≠ e) : (releaseDue e g k s).entries.get j = s.entries.get j := by
  unfold releaseDue
  split
  · rw [onQueues_entries]
  · exact get_entries_modEntry_ne _ he

theorem removeRecord_frame (hr : s.sheets.get n = some r) : removeRecord n o s = { s with
    sheets := s.sheets.del n, batches := s.batches.modify r.batch (Batch.loseRecord r)
    entries := (removeRecord n o s).entries, plans := (recordOut n r s).plans, ports := (removeRecord n o s).ports } := by
  rw [removeRecord_eq_recordOut hr]
  cases o with
  | none =>
    dsimp only
    rw [recordOut_frame]
  | some k =>
    dsimp only
    refine (releaseDue_frame _ _ _ _).trans ?_
    exact congrArg (fun v : State => { v with
      entries := (releaseDue r.station r.tag k (recordOut n r s)).entries
      ports := (releaseDue r.station r.tag k (recordOut n r s)).ports }) (recordOut_frame n r s)

theorem get_entries_removeRecord_ne (hr : s.sheets.get n = some r) (he : e ≠ r.station) :
    (removeRecord n o s).entries.get e = s.entries.get e := by
  have hout : (recordOut n r s).entries.get e = s.entries.get e := by
    rw [recordOut_entries, Tab.get_modify_other _ _ he]
  rw [removeRecord_eq_recordOut hr]
  cases o with
  | none => exact hout
  | some k => exact (get_entries_releaseDue_ne he).trans hout

/-- The tag of a record that owes no release is free once the record has left, unless something else holds it (R30, R42). -/
theorem tagHeld_recordOut (hu : ∀ p ∈ s.sheets, p.2.station = r.station → p.2.tag = r.tag → p.1 = n)
    (ho : ∀ q ∈ x.owed, q.1 ≠ r.tag) (hw : ∀ p : Fin 16, x.port = some p → releaseWaiting s.ports[p] r.tag = false) :
    tagHeld (recordOut n r s) r.station { x with liveCount := x.liveCount - 1 } r.tag = false := by
  refine Bool.eq_false_iff.2 fun hheld => ?_
  rcases tagHeld_iff.1 hheld with ⟨p, hp, hst, htag⟩ | ⟨k, hk⟩ | ⟨p, hp, hwait⟩
  · rw [recordOut_sheets, Tab.mem_del] at hp
    exact hp.2 (hu p hp.1 hst htag)
  · exact ho _ hk rfl
  · rw [recordOut_ports] at hwait
    exact Bool.eq_false_iff.1 (hw p hp) (releaseWaiting_iff.2 hwait)

/-- Settles O33, by whether the record is complete and whether its release finds the station present. -/
theorem completionRetiresTheRecord : Obligations.CompletionRetiresTheRecord := by
  unfold Obligations.CompletionRetiresTheRecord
  refine ⟨fun n r s hr done hdone => ⟨fun hd => ?_, fun hd => ?_⟩, fun n o s => rfl, fun y t => releaseWaiting_iff, ?_,
    fun t k l hl => ⟨owe_pairwise hl, fun q => mem_owe hl⟩⟩
  · rw [completeIfDone_of_get hr, if_pos (complete_iff.2 (hdone.1 hd))]
  · rw [completeIfDone_of_get hr, if_neg fun hc => hd (hdone.2 (complete_iff.1 hc))]
  · rintro n o r s u ht hr rfl
    have hframe := removeRecord_frame (o := o) hr
    have hbatches : (removeRecord n o s).batches = s.batches.modify r.batch (Batch.loseRecord r) := by rw [hframe]
    have hplans : (removeRecord n o s).plans = (recordOut n r s).plans := by rw [hframe]
    refine ⟨hframe.trans (by rw [hbatches, hplans]), fun b hb => ?_, fun h hh => ?_, fun m => ?_,
      fun e he => get_entries_removeRecord_ne hr he, fun x hx => ⟨?_, ?_⟩⟩
    · rw [hbatches, Tab.get_modify_self, hb, Option.map_some, Batch.loseRecord]
      simp only [isOpenSuspect_iff]
    · rw [hbatches, Tab.get_modify_other _ _ hh]
    · rw [hplans]
      exact plans_dropCapture r _ m
    · rintro rfl
      rw [removeRecord_eq_recordOut hr]
      exact ⟨recordOut_ports n r s, get_entries_recordOut n r hx, tagHeld_recordOut⟩
    · rintro k rfl
      have hy := get_entries_recordOut n r hx
      refine ⟨fun p hp => ?_, fun hp => ?_⟩
      · have hport := ports_onQueues_self (Queues.addRelease (r.tag, k)) hy hp
        rw [recordOut_ports] at hport
        rw [removeRecord_eq_recordOut hr]
        dsimp only
        rw [releaseDue_of_port hy hp]
        refine ⟨by rw [onQueues_entries, hy], hport, fun q hq => ?_, tagHeld_iff.2 (.inr (.inr ⟨p, hp, k, .inl ?_⟩))⟩
        · rw [ports_onQueues_of_ne _ hy fun h => hq (Option.some.inj (h.symm.trans hp)), recordOut_ports]
        · rw [hport]
          exact List.mem_append_right _ (List.mem_singleton_self _)
      · rw [removeRecord_eq_recordOut hr]
        dsimp only
        rw [releaseDue_of_absent hy hp]
        exact ⟨by simp, _, rfl, get_entries_modEntry_self _ hy, tagHeld_iff.2 (.inr (.inl ⟨k, mem_owe_self _ _⟩))⟩

end Sys2Proof.Machine
end

section
/-! The hold reasons, the grant decision and the allocation arbiter (R13, R14, R27, R30–R33, R79, R80, R121). -/

set_option Elab.async false

namespace Sys2Proof.Machine

variable {s t u : State} {p q : Fin 16} {e h n j : Nat} {x : Entry} {b c : Batch} {g : Tag} {k : Hold}

/-! Hold reasons (R79) -/

theorem mem_member {a : Bool} {i : Hold} : k ∈ member a i ↔ k = i ∧ a = true := by
  cases a <;> simp [member]

theorem pauseSet_isEmpty_iff {a : PauseSet} : a.isEmpty = true ↔ a = {} := by
  obtain ⟨c1, c2, c3, c4, c5⟩ := a
  simp only [PauseSet.isEmpty, Bool.not_eq_true', Bool.or_eq_false_iff, PauseSet.mk.injEq, and_assoc]

theorem mem_batchHolds : k ∈ batchHolds b ↔ (k = .batch ∧ (b.state ≠ .open ∨ b.pauses ≠ {})) ∨
    (k = .checkpointLimit ∧ b.limitHit = true) ∨ (k = .count ∧ b.countHit = true) ∨
    (k = .sequence ∧ b.sequenceHit = true) := by
  have hopen : (!(decide (b.state = .open) && b.pauses.isEmpty)) = true ↔ b.state ≠ .open ∨ b.pauses ≠ {} := by
    rw [← Classical.not_and_iff_not_or_not, ← pauseSet_isEmpty_iff]
    simp only [Bool.not_eq_true', Bool.and_eq_false_iff, decide_eq_false_iff_not, not_and_or, Bool.not_eq_true]
  rw [batchHolds, List.mem_append, List.mem_append, List.mem_append, mem_member, mem_member, mem_member, mem_member, hopen]

theorem mem_boundHolds : k ∈ boundHolds s x ↔ ∃ h b, x.bound = some h ∧ s.batches.get h = some b ∧ k ∈ batchHolds b := by
  unfold boundHolds
  cases hx : x.bound with
  | none => simp
  | some h =>
    simp only [Option.bind_some, Option.some.injEq, exists_and_left, exists_eq_left']
    cases s.batches.get h <;> simp

theorem mem_entryViewHolds : k ∈ entryViewHolds x ↔ ∃ v, x.view = some v ∧
    ((k = .trayEmpty ∧ v.trayEmpty = true) ∨ (k = .coverOpen ∧ v.coverOpen = true)) := by
  unfold entryViewHolds
  cases x.view with
  | none => simp
  | some v => simp [viewHolds, mem_member]

theorem mem_holdsBut : k ∈ holdsBut s e x ↔ (k = .notRunning ∧ x.feed ≠ .running) ∨ (k = .noBatch ∧ x.bound = none) ∨
    (k = .absent ∧ x.port = none) ∨ (k = .noStatus ∧ x.port ≠ none ∧ x.view = none) ∨ (k = .hostHold ∧ x.hostHold = true) ∨
    k ∈ boundHolds s x ∨ (k = .picking ∧ (pickingOf s e).isSome = true) ∨ (k = .pathFull ∧ 4 ≤ x.path.length) ∨
    k ∈ entryViewHolds x ∨ (k = .storeFull ∧ (storeRoom s x ≤ x.liveCount ∨ freeTag s e x = none)) := by
  have hpath : decide (Config.pathRoom ≤ x.path.length) = true ↔ 4 ≤ x.path.length := decide_eq_true_iff
  simp only [holdsBut, List.mem_append, mem_member, hpath, decide_eq_true_eq, Bool.and_eq_true, Bool.or_eq_true,
    Option.isNone_iff_eq_none, Option.isSome_iff_ne_none, ne_eq]

/-- The reasons of the bound batch and of the view, by kind. -/
theorem not_mem_boundHolds (h1 : k ≠ .batch) (h2 : k ≠ .checkpointLimit) (h3 : k ≠ .count) (h4 : k ≠ .sequence) :
    k ∉ boundHolds s x := fun hk => by
  obtain ⟨h, b, -, -, hk⟩ := mem_boundHolds.1 hk
  rcases mem_batchHolds.1 hk with ⟨hk, -⟩ | ⟨hk, -⟩ | ⟨hk, -⟩ | ⟨hk, -⟩
  exacts [h1 hk, h2 hk, h3 hk, h4 hk]

theorem not_mem_entryViewHolds (h1 : k ≠ .trayEmpty) (h2 : k ≠ .coverOpen) : k ∉ entryViewHolds x := fun hk => by
  obtain ⟨v, -, ⟨hk, -⟩ | ⟨hk, -⟩⟩ := mem_entryViewHolds.1 hk
  exacts [h1 hk, h2 hk]

theorem noRecord_not_mem_holdsBut : .noRecord ∉ holdsBut s e x := fun hk => by
  simp [mem_holdsBut, not_mem_boundHolds, not_mem_entryViewHolds] at hk

theorem holds_of_nil (hx : holdsBut s e x = []) :
    holds s e x = if (s.sheets.firstFree Config.sheetCount).isSome then [] else [.noRecord] := by
  rw [holds, hx]

theorem holds_of_ne_nil (hx : holdsBut s e x ≠ []) : holds s e x = holdsBut s e x := by
  unfold holds
  split
  · exact absurd ‹_› hx
  · rfl

/-- But for NO_RECORD the hold-reason set is that of the other conditions. -/
theorem mem_holds (hk : k ≠ .noRecord) : k ∈ holds s e x ↔ k ∈ holdsBut s e x := by
  by_cases hx : holdsBut s e x = []
  · rw [holds_of_nil hx, hx]
    split <;> simp [hk]
  · rw [holds_of_ne_nil hx]

theorem holdsBut_eq_nil_iff : holdsBut s e x = [] ↔ ∀ k ∈ holds s e x, k = .noRecord := by
  constructor
  · intro hx k hk
    rw [holds_of_nil hx] at hk
    split at hk
    · cases hk
    · exact List.mem_singleton.1 hk
  · intro hall
    refine List.eq_nil_iff_forall_not_mem.2 fun k hk => ?_
    have hne : k ≠ .noRecord := fun h => noRecord_not_mem_holdsBut (h ▸ hk)
    exact hne (hall k ((mem_holds hne).2 hk))

theorem firstFree_eq_none {α : Type} {m : Nat} {t : Tab α} : t.firstFree m = none ↔ ∀ i < m, t.get i ≠ none := by
  simp only [Tab.firstFree, List.find?_eq_none, List.mem_range, Option.isNone_iff_eq_none, ne_eq]

theorem noRecord_mem_holds : .noRecord ∈ holds s e x ↔
    (∀ k ∈ holds s e x, k = .noRecord) ∧ ∀ n < 384, s.sheets.get n ≠ none := by
  rw [← holdsBut_eq_nil_iff, ← firstFree_eq_none]
  by_cases hx : holdsBut s e x = []
  · rw [holds_of_nil hx, and_iff_right hx]
    show _ ↔ s.sheets.firstFree Config.sheetCount = none
    cases s.sheets.firstFree Config.sheetCount <;> simp
  · rw [holds_of_ne_nil hx]
    exact ⟨fun hk => absurd hk noRecord_not_mem_holdsBut, fun h => absurd h.1 hx⟩

/-! Free tags (R30) -/

theorem freeTagFrom_eq_some {held : Tag → Bool} {m : Nat} {a : Tag} : freeTagFrom held m a = some g ↔
    ∃ i < m, g = a + BitVec.ofNat 8 i ∧ held g = false ∧ ∀ l < i, held (a + BitVec.ofNat 8 l) = true := by
  induction m generalizing a with
  | zero => simp [freeTagFrom]
  | succ m ih =>
    have hstep : ∀ i : Nat, a + 1 + BitVec.ofNat 8 i = a + BitVec.ofNat 8 (i + 1) := fun i => by
      rw [BitVec.add_assoc, BitVec.add_comm 1, BitVec.ofNat_add]
      rfl
    unfold freeTagFrom
    split
    · next ha =>
      rw [ih]
      constructor
      · rintro ⟨i, hi, hg, hfree, hall⟩
        refine ⟨i + 1, Nat.succ_lt_succ hi, hg.trans (hstep i), hfree, fun l hl => ?_⟩
        cases l with
        | zero => simpa using ha
        | succ l => exact hstep l ▸ hall l (Nat.lt_of_succ_lt_succ hl)
      · rintro ⟨i, hi, hg, hfree, hall⟩
        cases i with
        | zero =>
          rw [BitVec.add_zero] at hg
          rw [hg, ha] at hfree
          cases hfree
        | succ i =>
          exact ⟨i, Nat.lt_of_succ_lt_succ hi, hg.trans (hstep i).symm, hfree, fun l hl =>
            (hstep l).symm ▸ hall (l + 1) (Nat.succ_lt_succ hl)⟩
    · next ha =>
      rw [Bool.not_eq_true] at ha
      constructor
      · intro hg
        cases hg
        exact ⟨0, Nat.succ_pos m, (BitVec.add_zero g).symm, ha, nofun⟩
      · rintro ⟨i, -, hg, -, hall⟩
        cases i with
        | zero => rw [hg, BitVec.add_zero]
        | succ i =>
          have := hall 0 (Nat.succ_pos i)
          rw [BitVec.add_zero, ha] at this
          cases this

/-- The next grant takes the first tag from the next grant tag on that is not held. -/
theorem freeTag_eq_some : freeTag s e x = some g ↔ tagHeld s e x g = false ∧
    ∀ i : Nat, i < (g - x.nextTag).toNat → tagHeld s e x (x.nextTag + BitVec.ofNat 8 i) = true := by
  rw [freeTag, freeTagFrom_eq_some]
  constructor
  · rintro ⟨i, hi, hg, hfree, hall⟩
    have hi' : i < 256 := hi
    have hdist : (g - x.nextTag).toNat = i := by
      rw [hg, BitVec.add_comm, BitVec.add_sub_cancel, BitVec.toNat_ofNat]
      omega
    exact ⟨hfree, fun l hl => hall l (hdist ▸ hl)⟩
  · rintro ⟨hfree, hall⟩
    refine ⟨(g - x.nextTag).toNat, (g - x.nextTag).isLt, ?_, hfree, hall⟩
    rw [BitVec.ofNat_toNat, BitVec.setWidth_eq, BitVec.add_comm, BitVec.sub_add_cancel]

theorem freeTag_eq_none : freeTag s e x = none ↔ ∀ g : Tag, tagHeld s e x g = true := by
  constructor
  · intro hnone
    by_contra hfree
    obtain ⟨g, hg⟩ := not_forall.1 hfree
    rw [Bool.not_eq_true] at hg
    have hex : ∃ i, tagHeld s e x (x.nextTag + BitVec.ofNat 8 i) = false := by
      refine ⟨(g - x.nextTag).toNat, ?_⟩
      rwa [BitVec.ofNat_toNat, BitVec.setWidth_eq, BitVec.add_comm, BitVec.sub_add_cancel]
    have hleast : ∀ i < Nat.find hex, tagHeld s e x (x.nextTag + BitVec.ofNat 8 i) = true := fun i hi =>
      Bool.eq_true_of_not_eq_false (Nat.find_min hex hi)
    have hlt : Nat.find hex < 256 :=
      lt_of_le_of_lt (Nat.find_le (n := (g - x.nextTag).toNat) (by
        rwa [BitVec.ofNat_toNat, BitVec.setWidth_eq, BitVec.add_comm, BitVec.sub_add_cancel])) (g - x.nextTag).isLt
    have hsome := freeTagFrom_eq_some.2 ⟨Nat.find hex, hlt, rfl, Nat.find_spec hex, hleast⟩
    rw [freeTag] at hnone
    exact nomatch hnone.symm.trans hsome
  · intro hall
    by_contra hsome
    obtain ⟨g, hg⟩ := Option.ne_none_iff_exists'.1 hsome
    obtain ⟨hfree, -⟩ := freeTag_eq_some.1 hg
    rw [hall g] at hfree
    cases hfree

theorem storeRoom_le : storeRoom s x ≤ n ↔ s.room.share ≤ n ∨ ∃ f, x.facts = some f ∧ f.capacity ≤ n := by
  unfold storeRoom
  cases x.facts <;> simp

/-- The hold reasons stand exactly while their conditions do (R79). -/
theorem mem_holds_spec (e : Nat) (x : Entry) (s : State) :
    (.notRunning ∈ holds s e x ↔ x.feed ≠ .running) ∧
    (.noBatch ∈ holds s e x ↔ x.bound = none) ∧
    (.absent ∈ holds s e x ↔ x.port = none) ∧
    (.noStatus ∈ holds s e x ↔ x.port ≠ none ∧ x.view = none) ∧
    (.hostHold ∈ holds s e x ↔ x.hostHold = true) ∧
    (.batch ∈ holds s e x ↔ ∃ h b, x.bound = some h ∧ s.batches.get h = some b ∧ (b.state ≠ .open ∨ b.pauses ≠ {})) ∧
    (.checkpointLimit ∈ holds s e x ↔ ∃ h b t, x.bound = some h ∧ s.batches.get h = some b ∧
      b.target = some t ∧ t ≤ b.nextSeq - 1 + b.picking) ∧
    (.count ∈ holds s e x ↔ ∃ h b n, x.bound = some h ∧ s.batches.get h = some b ∧
      b.expected = some n ∧ n ≤ b.fed + b.picking) ∧
    (.sequence ∈ holds s e x ↔ ∃ h b, x.bound = some h ∧ s.batches.get h = some b ∧ 65535 < b.nextSeq + b.picking) ∧
    (.picking ∈ holds s e x ↔ ∃ p ∈ s.sheets, p.2.station = e ∧ p.2.state = .picking) ∧
    (.pathFull ∈ holds s e x ↔ 4 ≤ x.path.length) ∧
    (.trayEmpty ∈ holds s e x ↔ ∃ v, x.view = some v ∧ v.trayEmpty = true) ∧
    (.coverOpen ∈ holds s e x ↔ ∃ v, x.view = some v ∧ v.coverOpen = true) ∧
    (.storeFull ∈ holds s e x ↔ s.room.share ≤ x.liveCount ∨ (∃ f, x.facts = some f ∧ f.capacity ≤ x.liveCount) ∨
      ∀ t : Tag, tagHeld s e x t = true) ∧
    (.noRecord ∈ holds s e x ↔ (∀ k ∈ holds s e x, k = .noRecord) ∧ ∀ n < 384, s.sheets.get n ≠ none) := by
  have hpicking : (pickingOf s e).isSome = true ↔ ∃ p ∈ s.sheets, p.2.station = e ∧ p.2.state = .picking := by
    simp only [pickingOf, Tab.find, List.find?_isSome, Bool.and_eq_true, decide_eq_true_eq]
  have hmem : ∀ k, k ≠ .noRecord → (k ∈ holds s e x ↔ (k = .notRunning ∧ x.feed ≠ .running) ∨ (k = .noBatch ∧ x.bound = none) ∨
      (k = .absent ∧ x.port = none) ∨ (k = .noStatus ∧ x.port ≠ none ∧ x.view = none) ∨
      (k = .hostHold ∧ x.hostHold = true) ∨
      (∃ h b, x.bound = some h ∧ s.batches.get h = some b ∧ k ∈ batchHolds b) ∨
      (k = .picking ∧ ∃ p ∈ s.sheets, p.2.station = e ∧ p.2.state = .picking) ∨ (k = .pathFull ∧ 4 ≤ x.path.length) ∨
      (∃ v, x.view = some v ∧ ((k = .trayEmpty ∧ v.trayEmpty = true) ∨ (k = .coverOpen ∧ v.coverOpen = true))) ∨
      (k = .storeFull ∧ (storeRoom s x ≤ x.liveCount ∨ freeTag s e x = none))) := fun k hk => by
    rw [mem_holds hk, mem_holdsBut, mem_boundHolds, mem_entryViewHolds, hpicking]
  refine ⟨?_, ?_, ?_, ?_, ?_, ?_, ?_, ?_, ?_, ?_, ?_, ?_, ?_, ?_, noRecord_mem_holds⟩ <;> refine Iff.trans (hmem _ (by decide)) ?_ <;>
    simp only [mem_batchHolds, reduceCtorEq, false_and, true_and, or_false, false_or, and_false, exists_false, limitHit_iff,
      countHit_iff, sequenceHit_iff, exists_and_left, storeRoom_le, freeTag_eq_none, or_assoc]

theorem grantReady_iff : grantReady s e = true ↔ ∃ x, s.entries.get e = some x ∧ ∀ k ∈ holds s e x, k = .noRecord := by
  simp only [grantReady_iff_holdsBut, holdsBut_eq_nil_iff]

/-! Allocation (R30, R31, R80) -/

/-- The state with the grant's new record, its counts and its tag, before the GRANT word and the batch's pauses. -/
def granted (e n h : Nat) (g : Tag) (s : State) : State :=
  { s with
    sheets := s.sheets.put n (newSheet h e g)
    lastAlloc := e
    waiting := s.waiting.filter fun j => decide (j ≠ e)
    batches := s.batches.modify h fun b => { b with picking := b.picking + 1 }
    entries := s.entries.modify e fun x => { x with nextTag := g + 1, liveCount := x.liveCount + 1, traySeenEmpty := false } }

theorem allocate_eq_granted (hx : s.entries.get e = some x) (hh : x.bound = some h) (hg : freeTag s e x = some g) :
    allocate e n s = judgePausesOf h (onQueues e (Queues.addGrant g) (granted e n h g s)) := by
  unfold allocate
  rw [hx]
  dsimp only
  rw [hh, hg]
  rfl

theorem get_entries_granted (hx : s.entries.get e = some x) : (granted e n h g s).entries.get e =
    some { x with nextTag := g + 1, liveCount := x.liveCount + 1, traySeenEmpty := false } := by
  rw [granted, Tab.get_modify_self, hx, Option.map_some]

theorem get_batches_granted (hb : s.batches.get h = some b) :
    (granted e n h g s).batches.get h = some { b with picking := b.picking + 1 } := by
  rw [granted, Tab.get_modify_self, hb, Option.map_some]

theorem get_entries_granted_ne (hj : j ≠ e) : (granted e n h g s).entries.get j = s.entries.get j := by
  rw [granted, Tab.get_modify_other _ _ hj]

theorem get_batches_granted_ne (hj : j ≠ h) : (granted e n h g s).batches.get j = s.batches.get j := by
  rw [granted, Tab.get_modify_other _ _ hj]

/-- A station ready for a grant feeds an OPEN batch without a pause reason. -/
theorem open_of_grantReady (hr : grantReady s e = true) (hx : s.entries.get e = some x) (hh : x.bound = some h)
    (hb : s.batches.get h = some b) : b.state = .open ∧ b.pauses = {} := by
  obtain ⟨y, hy, hnil⟩ := grantReady_iff_holdsBut.1 hr
  obtain rfl : x = y := Option.some.inj (hx.symm.trans hy)
  by_contra hne
  have hmem : Hold.batch ∈ holdsBut s e x := mem_holdsBut.2 (by
    simp only [mem_boundHolds, mem_batchHolds, reduceCtorEq, true_and, false_and, or_false, false_or]
    exact Or.inl ⟨h, b, hh, hb, not_and_or.1 hne⟩)
  rw [hnil] at hmem
  cases hmem

theorem rejudge_of_free (hr : grantReady s e = true) (hn : s.sheets.firstFree Config.sheetCount = some n) :
    rejudge e s = allocate e n s := by
  rw [rejudge, if_pos hr, hn]

theorem rejudge_of_full (hr : grantReady s e = true) (hn : s.sheets.firstFree Config.sheetCount = none) :
    rejudge e s = joinWaiting e s := by
  rw [rejudge, if_pos hr, hn]

theorem rejudge_of_not (hr : grantReady s e = false) : rejudge e s = s := by
  rw [rejudge, hr]
  rfl

/-! The allocation arbiter (R33) -/

/-- The waiting set is no hold reason. -/
theorem grantReady_waiting (w : List Nat) : grantReady { s with waiting := w } e = grantReady s e := rfl

/-- The stations found failing on the round's way leave the waiting set. -/
theorem serveFirst_append {pre l : List Nat} (hpre : ∀ j ∈ pre, grantReady s j = false) :
    serveFirst (pre ++ l) s = serveFirst l { s with waiting := s.waiting.filter fun k => decide (k ∉ pre) } := by
  induction pre generalizing s with
  | nil =>
    have hall : (s.waiting.filter fun k => decide (k ∉ ([] : List Nat))) = s.waiting :=
      List.filter_eq_self.2 fun k _ => decide_eq_true nofun
    rw [hall]
    rfl
  | cons j pre ih =>
    have hj : grantReady s j = false := hpre j List.mem_cons_self
    have hstep : serveFirst (j :: pre ++ l) s =
        serveFirst (pre ++ l) { s with waiting := s.waiting.filter fun k => decide (k ≠ j) } := by
      rw [List.cons_append, serveFirst, hj]
      rfl
    have hboth : ((s.waiting.filter fun k => decide (k ≠ j)).filter fun k => decide (k ∉ pre)) =
        s.waiting.filter fun k => decide (k ∉ j :: pre) := by
      rw [List.filter_filter]
      refine List.filter_congr fun k _ => ?_
      simp only [List.mem_cons, not_or, ne_eq, Bool.decide_and, Bool.and_comm]
    exact (hstep.trans (ih fun k hk => hpre k (List.mem_cons_of_mem _ hk))).trans
      (congrArg (fun w => serveFirst l { s with waiting := w }) hboth)

theorem serveFirst_cons_of_ready {l : List Nat} (hr : grantReady s e = true)
    (hn : s.sheets.firstFree Config.sheetCount = some n) : serveFirst (e :: l) s = rejudge e s := by
  rw [rejudge_of_free hr hn, serveFirst, if_pos hr, hn]

/-- The round after `a`, cut at its place `i`. -/
theorem roundOrder_cut {m a i : Nat} (hi : i < m) : roundOrder m a =
    (List.range i).map (fun j => (a + 1 + j) % m) ++ (a + 1 + i) % m :: (roundOrder m a).drop (i + 1) := by
  have hlen : (roundOrder m a).length = m := by rw [roundOrder, List.length_map, List.length_range]
  have htake : (roundOrder m a).take i = (List.range i).map fun j => (a + 1 + j) % m := by
    rw [roundOrder, ← List.map_take, List.take_range, Nat.min_eq_left hi.le]
  have hget : (roundOrder m a)[i]'(hlen.symm ▸ hi) = (a + 1 + i) % m := by
    simp only [roundOrder, List.getElem_map, List.getElem_range]
  calc roundOrder m a = (roundOrder m a).take i ++ (roundOrder m a).drop i := (List.take_append_drop i _).symm
    _ = _ := by rw [htake, ← List.cons_getElem_drop_succ (h := hlen.symm ▸ hi), hget]

theorem offerSlot_of_ready {i : Nat} (hi : i < 24) (he : e = (s.lastAlloc + 1 + i) % 24)
    (hn : s.sheets.firstFree Config.sheetCount = some n) (hw : e ∈ s.waiting) (hr : grantReady s e = true)
    (hpre : ∀ j < i, (s.lastAlloc + 1 + j) % 24 ∈ s.waiting → grantReady s ((s.lastAlloc + 1 + j) % 24) = false) :
    offerSlot s = rejudge e
      { s with waiting := s.waiting.filter fun k => decide (∀ j < i, k ≠ (s.lastAlloc + 1 + j) % 24) } := by
  have hround : (roundOrder Config.entryCount s.lastAlloc).filter (fun k => decide (k ∈ s.waiting)) =
      ((List.range i).map (fun j => (s.lastAlloc + 1 + j) % 24)).filter (fun k => decide (k ∈ s.waiting)) ++
        e :: ((roundOrder 24 s.lastAlloc).drop (i + 1)).filter (fun k => decide (k ∈ s.waiting)) := by
    show (roundOrder 24 s.lastAlloc).filter _ = _
    conv_lhs => rw [roundOrder_cut hi, List.filter_append, ← he]
    exact congrArg _ (List.filter_cons_of_pos (decide_eq_true hw))
  have hleft : (s.waiting.filter fun k => decide (k ∉ ((List.range i).map fun j => (s.lastAlloc + 1 + j) % 24).filter
      fun k => decide (k ∈ s.waiting))) = s.waiting.filter fun k => decide (∀ j < i, k ≠ (s.lastAlloc + 1 + j) % 24) := by
    refine List.filter_congr fun k hk => decide_eq_decide.2 ?_
    rw [List.mem_filter, and_iff_left (decide_eq_true hk), List.mem_map]
    exact ⟨fun hno j hj hkj => hno ⟨j, List.mem_range.2 hj, hkj.symm⟩,
      fun hno ⟨j, hj, hkj⟩ => hno j (List.mem_range.1 hj) hkj.symm⟩
  rw [offerSlot, hround, serveFirst_append, hleft]
  · exact serveFirst_cons_of_ready hr hn
  · intro k hk
    obtain ⟨hk, hmem⟩ := List.mem_filter.1 hk
    obtain ⟨j, hj, rfl⟩ := List.mem_map.1 hk
    exact hpre j (List.mem_range.1 hj) (of_decide_eq_true hmem)

theorem offerSlot_of_none (hw : ∀ e ∈ s.waiting, e < 24 ∧ grantReady s e = false) :
    offerSlot s = { s with waiting := [] } := by
  have hempty : (s.waiting.filter fun k => decide (k ∉ (roundOrder Config.entryCount s.lastAlloc).filter
      fun k => decide (k ∈ s.waiting))) = [] := by
    refine List.filter_eq_nil_iff.2 fun k hk hno => of_decide_eq_true hno ?_
    exact List.mem_filter.2 ⟨mem_roundOrder (hw k hk).1, decide_eq_true hk⟩
  rw [offerSlot, ← List.append_nil (List.filter _ _), serveFirst_append, hempty, serveFirst]
  exact fun k hk => (hw k (of_decide_eq_true (List.mem_filter.1 hk).2)).2

/-- Settles O34: the hold reasons by kind, the allocation, the full table and the arbiter's round. -/
theorem grantDecisionAllocates : Obligations.GrantDecisionAllocates := by
  unfold Obligations.GrantDecisionAllocates
  refine ⟨fun s n => ⟨Tab.firstFree_eq_some, firstFree_eq_none⟩, mem_holds_spec, fun e s => grantReady_iff,
    fun e x s => ⟨fun t => tagHeld_iff, fun t => freeTag_eq_some⟩, ?_, fun e s => ⟨rejudge_of_not, fun hr hn => ?_⟩,
    fun s i e n hi he hn hw hr hpre => ⟨_, offerSlot_of_ready hi he hn hw hr hpre, hr, rfl⟩, fun s => offerSlot_of_none⟩
  · intro e h n x b p t s ht hx hh hb hp hr hn hg
    obtain ⟨hopen, hpause⟩ := open_of_grantReady hr hx hh hb
    have hxg := get_entries_granted (n := n) (h := h) (g := t) hx
    have hbg := get_batches_granted (e := e) (n := n) (g := t) hb
    obtain ⟨v, hv⟩ : ∃ v, onQueues e (Queues.addGrant t) (granted e n h t s) = v := ⟨_, rfl⟩
    have hvf : v = { granted e n h t s with ports := v.ports } := hv ▸ onQueues_frame e _ _
    have hvb : v.batches.get h = some { b with picking := b.picking + 1 } := by rw [hvf]; exact hbg
    obtain ⟨hhost, hcheck, hsuspect, hcount, hseq⟩ :=
      Batch.judgePauses_spec (b := { b with picking := b.picking + 1 }) (by rw [hopen]; nofun)
    refine ⟨judgePausesOf h v, by rw [rejudge_of_free hr hn, allocate_eq_granted hx hh hg, hv], (freeTag_eq_some.1 hg).1, ?_, ?_,
      fun m hm => ?_, ?_, fun j hj => ?_, ⟨_, get_batches_judgePausesOf_self hvb, Batch.judgePauses_frame _, hhost, hcheck,
        hsuspect, hcount, hseq, fun hj => ?_, fun hj => ?_⟩, fun j hj => ?_, ?_, fun q hq => ?_⟩
    · rw [judgePausesOf_frame, hvf]
      rfl
    · rw [judgePausesOf_frame, hvf]
      exact Tab.get_put_self ..
    · rw [judgePausesOf_frame, hvf]
      exact Tab.get_put_other _ _ hm
    · rw [judgePausesOf_frame, hvf]
      exact hxg
    · rw [judgePausesOf_frame, hvf]
      exact get_entries_granted_ne (h := h) (n := n) (g := t) hj
    · rw [attention_judgePausesOf_of_joins hvb hj (by rw [hpause])]
      exact raise_attention_congr (by rw [hvf]; rfl) (by rw [hvf]; rfl)
    · rw [attention_judgePausesOf_of_stays hvb (Or.inl hj), hvf]
      rfl
    · rw [get_batches_judgePausesOf_ne hj, hvf]
      exact get_batches_granted_ne (e := e) (n := n) (g := t) hj
    · rw [judgePausesOf_frame]
      exact hv ▸ ports_onQueues_self _ hxg hp
    · rw [judgePausesOf_frame]
      exact hv ▸ ports_onQueues_of_ne _ hxg fun hpq => hq (Option.some.inj (hpq.symm.trans hp))
  · rw [rejudge_of_full hr hn]
    exact ⟨fun hw => if_pos hw, fun hw => if_neg hw⟩

end Sys2Proof.Machine
end

section
/-! The four resolutions of a sheet (R44–R47, R130, R134). -/

set_option Elab.async false

namespace Sys2Proof.Machine

variable {s t : State} {n : Nat} {r : Sheet} {x : Serial} {o : Resolution} {act : Nat → Sheet → State → State} {k : Result}

theorem stateAfter_eq_none : stateAfter s x = none ↔ ∀ p ∈ s.sheets, p.2.serial ≠ some x := by
  rw [stateAfter, Option.map_eq_none_iff, findSerial_eq_none]

theorem stateAfter_spec {a : SheetState} (ha : stateAfter s x = some a) : ∃ p ∈ s.sheets, p.2.serial = some x ∧ p.2.state = a := by
  obtain ⟨p, hp, hstate⟩ := Option.map_eq_some_iff.1 ha
  obtain ⟨hmem, hserial⟩ := findSerial_spec hp
  exact ⟨p, hmem, hserial, hstate⟩

theorem mayResolve_iff : mayResolve s o n r = true ↔ inPath s n r = false ∧
    ((r.state = .suspect ∨ r.state = .fault) ∨ (o.ends = true ∧ r.state = .routing ∧ r.images = none)) := by
  simp only [mayResolve, Bool.and_eq_true, Bool.or_eq_true, Bool.not_eq_true', isOpenSuspect_iff, decide_eq_true_eq,
    Option.isNone_iff_eq_none, and_assoc]

theorem outcomeOk_accept_iff : outcomeOk .accept r = true ↔ r.images.isSome = true ∧ r.fault ≠ some .imagesLost ∧
    r.evidence.cleared = false ∧ r.evidence.linkLost = false ∧ r.captured.isSome = true := by
  simp only [outcomeOk, Bool.and_eq_true, Bool.not_eq_true', decide_eq_true_eq, and_assoc]

theorem outcomeOk_retry_iff : outcomeOk .retry r = true ↔ r.state = .fault ∧ r.fault = some .uploadFailed := by
  simp only [outcomeOk, Bool.and_eq_true, decide_eq_true_eq]

/-! The answers of the owner -/

theorem resolve_of_none (hx : x.seq ≠ 0) (hs : serialAt s x = none) : resolve o act x s = .refuse .notFound := by
  rw [resolve, if_neg hx, hs]

theorem resolve_of_ok (hx : x.seq ≠ 0) (hs : serialAt s x = some (n, r)) (hm : mayResolve s o n r = true)
    (ho : outcomeOk o r = true) :
    resolve o act x s = .done (act n r s) (.resolved (stateAfter (act n r s) x)) := by
  rw [resolve, if_neg hx, hs]
  exact if_pos (by rw [hm, ho]; rfl)

theorem resolve_of_not (hx : x.seq ≠ 0) (hs : serialAt s x = some (n, r))
    (hno : ¬ (mayResolve s o n r = true ∧ outcomeOk o r = true)) : resolve o act x s = .refuse .wrongState := by
  rw [resolve, if_neg hx, hs]
  exact if_neg fun h => hno (Bool.and_eq_true_iff.1 h)

theorem refuses_resolveAccept (ht : Takes s) (ho : ∀ act, resolve .accept act x s = .refuse k) :
    Refuses (.resolveAccept (.given x)) 0x33 k s := refuses_of (owner := resolve .accept acceptSheet) ht (ho _)

theorem refuses_resolveRetry (ht : Takes s) (ho : ∀ act, resolve .retry act x s = .refuse k) :
    Refuses (.resolveRetry (.given x)) 0x33 k s := refuses_of (owner := resolve .retry retrySheet) ht (ho _)

theorem refuses_resolveEnd (ht : Takes s) (ho : ∀ o act, o.ends = true → resolve o act x s = .refuse k) :
    Refuses (.resolveRescan (.given x)) 0x33 k s ∧ Refuses (.resolveDiscard (.given x)) 0x33 k s :=
  ⟨refuses_of (owner := resolve .rescan _) ht (ho _ _ rfl), refuses_of (owner := resolve .discard _) ht (ho _ _ rfl)⟩

/-- What refuses every outcome refuses the four requests. -/
theorem refuses_resolveAll (ht : Takes s) (ho : ∀ o act, resolve o act x s = .refuse k) :
    Refuses (.resolveAccept (.given x)) 0x33 k s ∧ Refuses (.resolveRescan (.given x)) 0x33 k s ∧
    Refuses (.resolveDiscard (.given x)) 0x33 k s ∧ Refuses (.resolveRetry (.given x)) 0x33 k s := by
  obtain ⟨hrescan, hdiscard⟩ := refuses_resolveEnd ht fun o act _ => ho o act
  exact ⟨refuses_resolveAccept ht (ho _), hrescan, hdiscard, refuses_resolveRetry ht (ho _)⟩

/-- Settles O32, check by check. -/
theorem resolveEndsOrRoutesTheSheet : Obligations.ResolveEndsOrRoutesTheSheet := by
  unfold Obligations.ResolveEndsOrRoutesTheSheet
  refine ⟨fun x t => ⟨stateAfter_eq_none, fun a => stateAfter_spec⟩, fun x s ht => ⟨fun hx => refuses_resolveAll ht fun o act => if_pos hx,
    fun hx hs => refuses_resolveAll ht fun o act => resolve_of_none hx hs, fun n r hx hs => ⟨fun hin => ?_, fun hout hopen => ?_,
      fun hout hstate o ho => ?_, fun hstate => ?_, fun hstate => ?_⟩⟩⟩
  · refine refuses_resolveAll ht fun o act => resolve_of_not hx hs fun ⟨hm, _⟩ => ?_
    rw [(mayResolve_iff.1 hm).1] at hin
    cases hin
  · have hm : ∀ o, mayResolve s o n r = true := fun o => mayResolve_iff.2 ⟨hout, .inl hopen⟩
    refine ⟨fun hno => refuses_resolveAccept ht fun act => resolve_of_not hx hs fun ⟨_, hok⟩ => ?_,
      fun hi hf hc hl hp t he => ?_, fun hno => refuses_resolveRetry ht fun act => resolve_of_not hx hs fun ⟨_, hok⟩ => ?_,
      fun hst hf t he => ?_⟩
    · obtain ⟨hi, hf, hc, hl, hp⟩ := outcomeOk_accept_iff.1 hok
      rcases hno with hno | hno | hno | hno | hno
      · rw [hno] at hi; cases hi
      · exact hf hno
      · rw [hno] at hc; cases hc
      · rw [hno] at hl; cases hl
      · rw [hno] at hp; cases hp
    · have hok : outcomeOk .accept r = true := outcomeOk_accept_iff.2 ⟨hi, hf, hc, hl, hp⟩
      subst he
      exact replies_of (owner := resolve .accept acceptSheet) ht (resolve_of_ok hx hs (hm _) hok)
    · obtain ⟨hst, hf⟩ := outcomeOk_retry_iff.1 hok
      exact hno.elim (fun h => h hst) fun h => h hf
    · subst he
      exact replies_of (owner := resolve .retry retrySheet) ht (resolve_of_ok hx hs (hm _) (outcomeOk_retry_iff.2 ⟨hst, hf⟩))
  · have hm : ∀ o, o.ends = true → mayResolve s o n r = true := fun o hends =>
      mayResolve_iff.2 ⟨hout, hstate.elim (fun h => .inl (.inl h)) fun h => h.elim (fun h => .inl (.inr h)) fun h => .inr ⟨hends, h⟩⟩
    subst ho
    refine ⟨fun t he => ?_, fun t he => ?_⟩
    · subst he
      exact replies_of (owner := resolve .rescan fun n r => endSheet n r fun b => { b with rescanned := b.rescanned + 1 }) ht
        (resolve_of_ok hx hs (hm _ rfl) rfl)
    · subst he
      exact replies_of (owner := resolve .discard fun n r => endSheet n r fun b => { b with discarded := b.discarded + 1 }) ht
        (resolve_of_ok hx hs (hm _ rfl) rfl)
  · refine refuses_resolveEnd ht fun o act _ => resolve_of_not hx hs fun ⟨hm, _⟩ => ?_
    obtain ⟨-, hm⟩ := mayResolve_iff.1 hm
    rcases hstate with hst | hst | ⟨hst, hi⟩ <;> simp_all
  · have hno : ∀ o act, o.ends = false → resolve o act x s = .refuse .wrongState := fun o act hends =>
      resolve_of_not hx hs fun ⟨hm, _⟩ => by
        obtain ⟨-, hm⟩ := mayResolve_iff.1 hm
        rcases hstate with hst | hst | hst <;> simp_all
    exact ⟨refuses_resolveAccept ht fun act => hno _ act rfl, refuses_resolveRetry ht fun act => hno _ act rfl⟩

end Sys2Proof.Machine
end

section
/-! The archive lanes' layer: changes of one lane, flow control's frames, the arbiter and a closed gate, the failure effects, and
the lane requests (R134, R137, R146, R153–R157). -/

set_option Elab.async false

namespace Sys2Proof.Machine

variable {s t : State} {l m : Fin 4} {e n : Nat} {x y : Lane} {u : Upload}

/-! A change of one lane -/

theorem modLane_congr {f g : Lane → Lane} (h : f s.lanes[l] = g s.lanes[l]) : modLane l f s = modLane l g s := by
  rw [modLane, modLane, h]

theorem modLane_of_fixed {f : Lane → Lane} (h : f s.lanes[l] = s.lanes[l]) : modLane l f s = s := by
  rw [modLane, h]
  have hlanes : s.lanes.set l s.lanes[l] = s.lanes := Vector.set_getElem_self l.isLt
  rw [hlanes]

theorem modLane_frame (l : Fin 4) (f : Lane → Lane) (s : State) : modLane l f s = { s with lanes := (modLane l f s).lanes } := rfl

/-! Frames of flow control and of an upload's end -/

theorem endUpload_frame (e : Nat) (s : State) :
    endUpload e s = { s with uploads := s.uploads.del e, ports := (endUpload e s).ports } := onQueues_frame _ _ _

theorem judgeGo_of_none (h : s.uploads.get e = none) : judgeGo e s = s := by
  rw [judgeGo, h]

theorem judgeGo_of_get (hu : s.uploads.get e = some u) : judgeGo e s = if !u.go && destsDrained s u then
    onQueues e (Queues.addFlow true) (modUpload e (fun u => { u with go := true, stall := .running Config.stallMs }) s) else s := by
  rw [judgeGo, hu]

theorem judgeGo_frame (e : Nat) (s : State) :
    judgeGo e s = { s with uploads := (judgeGo e s).uploads, ports := (judgeGo e s).ports } := by
  cases hu : s.uploads.get e with
  | none => rw [judgeGo_of_none hu]
  | some u =>
    rw [judgeGo_of_get hu]
    split
    · rw [onQueues_frame]
      rfl
    · rfl

theorem loseDest_of_none (h : uploaderOf s l = none) : loseDest l s = s := by
  rw [loseDest, h]

/-- The upload of `e` without lane `l`. -/
def withoutDest (l : Fin 4) (e : Nat) (s : State) : State :=
  modUpload e (fun u => { u with dests := u.dests.filter fun d => decide (d.1 ≠ l) }) s

theorem loseDest_of_some (he : uploaderOf s l = some e) (hu : s.uploads.get e = some u) : loseDest l s =
    if (u.dests.filter fun d => decide (d.1 ≠ l)).isEmpty then endUpload e (withoutDest l e s)
    else judgeGo e (withoutDest l e s) := by
  have hget : (withoutDest l e s).uploads.get e = some { u with dests := u.dests.filter fun d => decide (d.1 ≠ l) } := by
    rw [withoutDest, modUpload_uploads, Tab.get_modify_self, hu, Option.map_some]
  unfold loseDest
  rw [he]
  dsimp only
  rw [show (modUpload e (fun u => { u with dests := u.dests.filter fun d => decide (d.1 ≠ l) }) s) = withoutDest l e s from rfl,
    hget]

theorem loseDest_frame (l : Fin 4) (s : State) :
    loseDest l s = { s with uploads := (loseDest l s).uploads, ports := (loseDest l s).ports } := by
  cases he : uploaderOf s l with
  | none => rw [loseDest_of_none he]
  | some e =>
    cases hu : s.uploads.get e with
    | none =>
      have hget : (withoutDest l e s).uploads.get e = none := by
        rw [withoutDest, modUpload_uploads, Tab.get_modify_self, hu, Option.map_none]
      have hlose : loseDest l s = withoutDest l e s := by
        unfold loseDest
        rw [he]
        dsimp only
        rw [show (modUpload e (fun u => { u with dests := u.dests.filter fun d => decide (d.1 ≠ l) }) s) = withoutDest l e s
          from rfl, hget]
      rw [hlose]
      rfl
    | some u =>
      rw [loseDest_of_some he hu]
      split
      · rw [endUpload_frame]
        rfl
      · rw [judgeGo_frame]
        rfl

/-! The failure effects (R153) -/

theorem giveBack_frame (l : Fin 4) (s : State) (w : WindowEntry) : giveBack l s w =
    { s with sheets := (giveBack l s w).sheets, uploads := (giveBack l s w).uploads, ports := (giveBack l s w).ports } := by
  unfold giveBack
  dsimp only
  split
  · rw [loseDest_frame]
    rfl
  · rfl

theorem foldl_giveBack_frame (l : Fin 4) (ws : List WindowEntry) (s : State) : ws.foldl (giveBack l) s =
    { s with sheets := (ws.foldl (giveBack l) s).sheets, uploads := (ws.foldl (giveBack l) s).uploads
             ports := (ws.foldl (giveBack l) s).ports } := by
  induction ws generalizing s with
  | nil => rfl
  | cons w ws ih =>
    obtain ⟨v, hv⟩ : ∃ v, (w :: ws).foldl (giveBack l) s = v := ⟨_, rfl⟩
    have hstep : v = { giveBack l s w with sheets := v.sheets, uploads := v.uploads, ports := v.ports } := hv ▸ ih (giveBack l s w)
    rw [hv]
    exact hstep.trans (congrArg (fun t : State => { t with sheets := v.sheets, uploads := v.uploads, ports := v.ports })
      (giveBack_frame l s w))

theorem failureEffects_frame (l : Fin 4) (s : State) : failureEffects l s = { s with
    sheets := (failureEffects l s).sheets, lanes := (failureEffects l s).lanes, uploads := (failureEffects l s).uploads
    ports := (failureEffects l s).ports } := by
  obtain ⟨v, hv⟩ : ∃ v, s.lanes[l].window.foldl (giveBack l) s = v := ⟨_, rfl⟩
  have hframe : v = { s with sheets := v.sheets, uploads := v.uploads, ports := v.ports } := hv ▸ foldl_giveBack_frame l _ s
  rw [failureEffects, hv]
  exact congrArg (fun t : State => { t with lanes := (modLane l Lane.emptied v).lanes }) hframe

theorem lanes_failureEffects_self (l : Fin 4) (s : State) : (failureEffects l s).lanes[l] = s.lanes[l].emptied := by
  rw [failureEffects, getElem_modLane_self, foldl_giveBack_frame]

theorem lanes_failureEffects_ne (h : m ≠ l) : (failureEffects l s).lanes[m] = s.lanes[m] := by
  rw [failureEffects, getElem_modLane_ne _ _ h, foldl_giveBack_frame]

/-! The upload arbiter and a closed gate (R133, R134, R146) -/

theorem gateOpen_iff : x.gateOpen = true ↔ ((x.state = .up ∧ x.refusing = false ∧ x.view ≠ some .busy) ∨ x.state = .loopback) ∧
    x.suspendPending = false ∧ x.window.length < x.params.window := by
  unfold Lane.gateOpen
  cases hs : x.state <;>
    simp [LaneState.carries, and_assoc, and_comm, and_left_comm]

theorem gateOpen_of_not_carries (h : x.state.carries = false) : x.gateOpen = false := by
  rw [Lane.gateOpen, h]
  rfl

theorem lanes_foldl_offerEntry (slot : Nat) (g : Serial) (b : Bool) {ds : List Delivery} (h : ∀ d ∈ ds, d.lane ≠ l) (s : State) :
    (ds.foldl (offerEntry slot g b) s).lanes[l] = s.lanes[l] := by
  induction ds generalizing s with
  | nil => rfl
  | cons d ds ih =>
    rw [List.foldl_cons, ih fun c hc => h c (List.mem_cons_of_mem d hc)]
    exact lanes_offerEntry_of_ne _ _ _ (h d List.mem_cons_self).symm

/-- An upload changes no lane but those it takes. -/
theorem lanes_startUpload_of_ne {c : Eligible} (h : ∀ d ∈ c.takes, d.lane ≠ l) : (startUpload e c s).lanes[l] = s.lanes[l] := by
  rw [startUpload, onQueues_lanes]
  exact lanes_foldl_offerEntry _ _ _ h s

theorem arbitrateN_of_none (k : Nat) (h : firstChoice s (roundOrder Config.entryCount s.lastUpload) = none) :
    arbitrateN (k + 1) s = s := by
  rw [arbitrateN, h]

theorem arbitrateN_of_some (k : Nat) {c : Eligible}
    (h : firstChoice s (roundOrder Config.entryCount s.lastUpload) = some (e, c)) :
    arbitrateN (k + 1) s = arbitrateN k (startUpload e c s) := by
  rw [arbitrateN, h]

/-- The arbiter starts no delivery on a lane whose gate is closed. -/
theorem lanes_arbitrateN_of_closed (k : Nat) (s : State) (h : s.lanes[l].gateOpen = false) :
    (arbitrateN k s).lanes[l] = s.lanes[l] := by
  induction k generalizing s with
  | zero => rfl
  | succ k ih =>
    cases hc : firstChoice s (roundOrder Config.entryCount s.lastUpload) with
    | none => rw [arbitrateN_of_none k hc]
    | some q =>
      obtain ⟨e, c⟩ := q
      obtain ⟨-, hchoice⟩ := firstChoice_spec hc
      obtain ⟨helig, -⟩ := mem_eligibleSides (mem_of_stationChoice hchoice).1
      have hne : ∀ d ∈ c.takes, d.lane ≠ l := by
        rintro d hd rfl
        have hfree := (takes_of_sideEligible helig).2 d hd
        rw [laneFree, h] at hfree
        cases hfree
      have hlane := lanes_startUpload_of_ne (s := s) (e := e) hne
      rw [arbitrateN_of_some k hc, ih _ (hlane ▸ h), hlane]

theorem lanes_arbitrate_of_closed (h : s.lanes[l].gateOpen = false) : (arbitrate s).lanes[l] = s.lanes[l] :=
  lanes_arbitrateN_of_closed _ s h

/-! Reset (R154) -/

theorem replaceWaiting_frame (l : Fin 4) (s : State) (n : Nat) :
    replaceWaiting l s n = { s with sheets := (replaceWaiting l s n).sheets } := by
  unfold replaceWaiting
  split <;> rfl

theorem foldl_replaceWaiting_frame (l : Fin 4) (ns : List Nat) (s : State) :
    ns.foldl (replaceWaiting l) s = { s with sheets := (ns.foldl (replaceWaiting l) s).sheets } := by
  induction ns generalizing s with
  | nil => rfl
  | cons n ns ih =>
    obtain ⟨v, hv⟩ : ∃ v, (n :: ns).foldl (replaceWaiting l) s = v := ⟨_, rfl⟩
    have hstep : v = { replaceWaiting l s n with sheets := v.sheets } := hv ▸ ih (replaceWaiting l s n)
    rw [hv]
    exact hstep.trans (congrArg (fun t : State => { t with sheets := v.sheets }) (replaceWaiting_frame l s n))

/-- A reset lane is DOWN and empty, its counters kept. -/
theorem lanes_resetLane (l : Fin 4) (s : State) : (resetLane l s).lanes[l] = s.lanes[l].toDown := by
  have hdown : (modLane l Lane.toDown
      (((failureEffects l s).sheets.map Prod.fst).foldl (replaceWaiting l) (failureEffects l s))).lanes[l] = s.lanes[l].toDown := by
    rw [getElem_modLane_self, foldl_replaceWaiting_frame]
    exact Eq.trans (congrArg Lane.toDown (lanes_failureEffects_self l s)) rfl
  rw [resetLane, lanes_arbitrate_of_closed, hdown]
  rw [hdown]
  exact gateOpen_of_not_carries rfl

/-! Suspension (R155) -/

theorem settleSuspend_of_not (h : x.suspendPending = false ∨ x.window ≠ [] ∨ (x.state ≠ .up ∧ x.state ≠ .loopback)) :
    x.settleSuspend = x := by
  refine if_neg fun hc => ?_
  simp only [Bool.and_eq_true, List.isEmpty_iff] at hc
  obtain ⟨⟨hp, hw⟩, hs⟩ := hc
  rcases h with h | h | ⟨hup, hloop⟩
  · rw [h] at hp; cases hp
  · exact h hw
  · revert hs
    cases hst : x.state <;> simp_all [LaneState.carries]

theorem settleSuspend_of_up (hp : x.suspendPending = true) (hw : x.window = []) (hs : x.state = .up) :
    x.settleSuspend = { x with state := .suspended, suspendPending := false } := by
  rw [Lane.settleSuspend, hp, hw, hs]
  rfl

theorem settleSuspend_of_loopback (hp : x.suspendPending = true) (hw : x.window = []) (hs : x.state = .loopback) :
    x.settleSuspend = { x with
      state := .suspended, suspendPending := false, silence := some x.params.silence, malformed := 0 } := by
  rw [Lane.settleSuspend, hp, hw, hs]
  rfl

/-! Requests on lanes (R145, R146, R154, R155, R157) -/

theorem withLane_of_ge {k : Fin 4 → Answer} (h : 4 ≤ n) : withLane n k = .refuse .notFound := by
  rw [withLane, laneAt, dif_neg (Nat.not_lt.2 h)]

theorem withLane_val (l : Fin 4) (k : Fin 4 → Answer) : withLane l.val k = k l := by
  rw [withLane, laneAt, dif_pos l.isLt]

theorem laneArgsOk_iff (a : LaneArgs) : laneArgsOk a = true ↔
    (a.window ≠ none ∨ a.high ≠ none ∨ a.low ≠ none ∨ a.silence ≠ none ∨ a.ack ≠ none ∨ a.secure ≠ none) ∧
    (∀ v, a.window = some v → 1 ≤ v ∧ v ≤ 32) ∧ (∀ v, a.high = some v → 1 ≤ v ∧ v ≤ 32) ∧
    (∀ v, a.low = some v → v ≤ 32) ∧ (∀ v, a.silence = some v → 5 ≤ v ∧ v ≤ 100) ∧
    (∀ v, a.ack = some v → 100 ≤ v ∧ v ≤ 60000) ∧ ∀ v, a.secure = some v → 1 ≤ v ∧ v ≤ 600 := by
  simp only [laneArgsOk, Bool.and_eq_true, Bool.or_eq_true, optOk_iff, Config.windowOk, Config.highOk, Config.lowOk,
    Config.silenceOk, Config.ackOk, Config.secureOk, Config.within_iff, Option.isSome_iff_ne_none, or_assoc, and_assoc,
    Nat.zero_le, true_and]

/-- The uploads with the lane as a destination, as READ_LANE and flow control look for them. -/
theorem findDest_eq_none {uploads : Tab Upload} : (uploads.find fun _ u => u.dests.any fun d => decide (d.1 = l)) = none ↔
    ∀ u ∈ uploads, ∀ d ∈ u.2.dests, d.1 ≠ l := by
  simp only [Tab.find, List.find?_eq_none, List.any_eq_true, decide_eq_true_eq, not_exists, not_and, ne_eq]

theorem findDest_spec {uploads : Tab Upload} {p : Nat × Upload}
    (hp : (uploads.find fun _ u => u.dests.any fun d => decide (d.1 = l)) = some p) : p ∈ uploads ∧ ∃ d ∈ p.2.dests, d.1 = l := by
  obtain ⟨hm, hq⟩ := Tab.find_spec hp
  simpa only [List.any_eq_true, decide_eq_true_eq] using And.intro hm hq

theorem laneUpload_eq_none : laneUpload s l = none ↔ ∀ u ∈ s.uploads, ∀ d ∈ u.2.dests, d.1 ≠ l := by
  rw [laneUpload, Option.map_eq_none_iff, findDest_eq_none]

theorem laneUpload_spec {q : Nat × Side} (hq : laneUpload s l = some q) :
    ∃ u ∈ s.uploads, (∃ d ∈ u.2.dests, d.1 = l) ∧ q = (u.2.slot, u.2.side) := by
  obtain ⟨p, hp, hpq⟩ := Option.map_eq_some_iff.1 hq
  obtain ⟨hm, hd⟩ := findDest_spec hp
  exact ⟨p, hm, hd, hpq.symm⟩

theorem laneArgsBarred_iff {a : LaneArgs} : laneArgsBarred a x = true ↔
    x.state = .up ∨ (x.state = .loopback ∧ ∃ w, a.window = some w ∧ w < x.window.length) := by
  have hsmall : windowTooSmall a x = true ↔ ∃ w, a.window = some w ∧ w < x.window.length := by
    unfold windowTooSmall
    split <;> simp_all
  simp only [laneArgsBarred, Bool.or_eq_true, Bool.and_eq_true, decide_eq_true_eq, hsmall]

theorem ownSetLane_of_barred {a : LaneArgs} (hok : laneArgsOk a = true) (hl : a.lane = l.val)
    (hb : laneArgsBarred a s.lanes[l] = true) : ownSetLane a s = .refuse .wrongState := by
  rw [ownSetLane, if_pos hok, hl, withLane_val, if_pos hb]

theorem ownSetLane_of_ok {a : LaneArgs} (hok : laneArgsOk a = true) (hl : a.lane = l.val)
    (hb : laneArgsBarred a s.lanes[l] = false) : ownSetLane a s =
      .done (arbitrate (modLane l (fun x => { x with params := x.params.set a }) s)) (.laneParams (s.lanes[l].params.set a)) := by
  rw [ownSetLane, if_pos hok, hl, withLane_val, hb]
  rfl

theorem ownSuspendLane_of_carries (hs : s.lanes[l].state = .up ∨ s.lanes[l].state = .loopback) :
    ownSuspendLane l.val s = .done (modLane l Lane.suspend s) (.laneState s.lanes[l].suspend.state) := by
  rw [ownSuspendLane, withLane_val]
  rcases hs with hs | hs <;> rw [hs]

theorem suspend_of_window (hw : x.window ≠ []) : x.suspend = { x with suspendPending := true } :=
  settleSuspend_of_not (.inr (.inl hw))

theorem suspend_of_up (hw : x.window = []) (hs : x.state = .up) :
    x.suspend = { x with state := .suspended, suspendPending := false } :=
  settleSuspend_of_up (x := { x with suspendPending := true }) rfl hw hs

theorem suspend_of_loopback (hw : x.window = []) (hs : x.state = .loopback) : x.suspend = { x with
    state := .suspended, suspendPending := false, silence := some x.params.silence, malformed := 0 } :=
  settleSuspend_of_loopback (x := { x with suspendPending := true }) rfl hw hs

theorem mayResumeLane_iff : mayResumeLane x = true ↔
    x.state = .suspended ∨ ((x.state = .up ∨ x.state = .loopback) ∧ x.suspendPending = true) := by
  have hcarries : x.state.carries = true ↔ x.state = .up ∨ x.state = .loopback := by
    cases x.state <;> simp [LaneState.carries]
  simp only [mayResumeLane, Bool.or_eq_true, Bool.and_eq_true, decide_eq_true_eq, hcarries]

theorem ownResumeLane_of_not (h : mayResumeLane s.lanes[l] = false) : ownResumeLane l.val s = .refuse .wrongState := by
  rw [ownResumeLane, withLane_val, h]
  rfl

theorem ownResumeLane_of_may (h : mayResumeLane s.lanes[l] = true) : ownResumeLane l.val s =
    .done (arbitrate (modLane l Lane.resume s)) (.laneState s.lanes[l].resume.state) := by
  rw [ownResumeLane, withLane_val, if_pos h]

/-- RESUME_LANE on a lane it applies to, by what it makes of the lane. -/
theorem replies_resumeLane (ht : Takes s) (h : mayResumeLane s.lanes[l] = true) (hx : s.lanes[l].resume = y) :
    Replies (.resumeLane (.given l.val)) 0x53 (.laneState y.state) s (arbitrate (modLane l (fun _ => y) s)) := by
  have hmod : modLane l Lane.resume s = modLane l (fun _ => y) s := modLane_congr hx
  exact replies_of (owner := ownResumeLane) ht (by rw [ownResumeLane_of_may h, hmod, hx])

/-- Settles O37, request by request. -/
theorem laneRequestsFollowTheLaneState : Obligations.LaneRequestsFollowTheLaneState := by
  unfold Obligations.LaneRequestsFollowTheLaneState
  refine ⟨⟨laneArgsOk_iff, fun x => gateOpen_iff, fun s l => ⟨laneUpload_eq_none, fun q => laneUpload_spec⟩⟩,
    ⟨fun n s ht => ⟨fun hn => refuses_of (owner := ownReadLane) ht (withLane_of_ge hn),
      fun l => replies_of (owner := ownReadLane) ht (withLane_val l _)⟩, fun a s ht =>
      ⟨fun ha => refuses_of (owner := ownSetLane) ht (if_neg (Bool.eq_false_iff.1 ha)),
       fun ha hl => refuses_of (owner := ownSetLane) ht ((if_pos ha).trans (withLane_of_ge hl)),
       fun l ha hl => ⟨fun hb => refuses_of (owner := ownSetLane) ht (ownSetLane_of_barred ha hl (laneArgsBarred_iff.2 hb)),
        fun hup hloop q hq => ?_⟩⟩⟩,
    fun n s ht hn => ⟨refuses_of (owner := ownSuspendLane) ht (withLane_of_ge hn),
      refuses_of (owner := ownResumeLane) ht (withLane_of_ge hn), refuses_of (owner := ownLoopbackLane) ht (withLane_of_ge hn),
      refuses_of (owner := ownResetLane) ht (withLane_of_ge hn)⟩,
    fun l s ht => ⟨fun hs => ⟨fun hw => ?_, fun hw => ?_⟩, fun hs => ⟨?_, ?_, ?_⟩, fun hs hp => ?_, fun hs hp => ?_, fun hs => ?_,
      fun hs => ⟨?_, ?_⟩, resetLane l s, ?_⟩⟩
  · have hb : laneArgsBarred a s.lanes[l] = false := Bool.eq_false_iff.2 fun hb => by
      rcases laneArgsBarred_iff.1 hb with h | ⟨h, w, hw, hlt⟩
      · exact hup h
      · exact Nat.not_lt.2 (hloop h w hw) hlt
    subst hq
    have hmod : modLane l (fun x => { x with params := x.params.set a }) s =
        modLane l (fun x => { x with params := s.lanes[l].params.set a }) s := modLane_congr rfl
    exact replies_of (owner := ownSetLane) ht ((ownSetLane_of_ok ha hl hb).trans (by rw [hmod]; rfl))
  · have hmod : modLane l Lane.suspend s = modLane l (fun x => { x with suspendPending := true }) s :=
      modLane_congr (suspend_of_window hw)
    exact replies_of (owner := ownSuspendLane) ht
      ((ownSuspendLane_of_carries hs).trans (by rw [hmod, suspend_of_window hw]))
  · have hstate : s.lanes[l].suspend.state = .suspended := by
      rcases hs with hs | hs
      · exact congrArg Lane.state (suspend_of_up hw hs)
      · exact congrArg Lane.state (suspend_of_loopback hw hs)
    refine ⟨modLane l Lane.suspend s, replies_of (owner := ownSuspendLane) ht
      ((ownSuspendLane_of_carries hs).trans (by rw [hstate])), fun hs => ?_, fun hs => ?_, rfl, fun m hm => getElem_modLane_ne _ _ hm⟩
    · rw [getElem_modLane_self]
      exact suspend_of_up hw hs
    · rw [getElem_modLane_self]
      exact suspend_of_loopback hw hs
  · exact replies_of (owner := ownSuspendLane) ht (by rw [ownSuspendLane, withLane_val, hs])
  · have hmod : modLane l (fun x => { x with state := .up }) s = modLane l (fun _ => { s.lanes[l] with state := .up }) s :=
      modLane_congr rfl
    rw [hmod]
    exact replies_resumeLane ht (mayResumeLane_iff.2 (.inl hs)) (if_pos hs)
  · exact replies_of (owner := ownLoopbackLane) ht (by rw [ownLoopbackLane, withLane_val, if_pos hs]; rfl)
  · have hne : s.lanes[l].state ≠ .suspended := by rcases hs with hs | hs <;> rw [hs] <;> nofun
    have hmod : modLane l (fun x => { x with suspendPending := false }) s =
        modLane l (fun _ => { s.lanes[l] with suspendPending := false }) s := modLane_congr rfl
    rw [hmod]
    exact replies_resumeLane ht (mayResumeLane_iff.2 (.inr ⟨hs, hp⟩)) (if_neg hne)
  · refine refuses_of (owner := ownResumeLane) ht (ownResumeLane_of_not (Bool.eq_false_iff.2 fun h => ?_))
    rcases mayResumeLane_iff.1 h with h | ⟨-, h⟩
    · rcases hs with hs | hs <;> rw [hs] at h <;> cases h
    · rw [hp] at h
      cases h
  · exact refuses_of (owner := ownLoopbackLane) ht (by rw [ownLoopbackLane, withLane_val, if_neg hs])
  · refine refuses_of (owner := ownSuspendLane) ht ?_
    rw [ownSuspendLane, withLane_val]
    rcases hs with hs | hs | hs <;> rw [hs]
  · refine refuses_of (owner := ownResumeLane) ht (ownResumeLane_of_not (Bool.eq_false_iff.2 fun h => ?_))
    rcases mayResumeLane_iff.1 h with h | ⟨h | h, -⟩ <;> rcases hs with hs | hs | hs <;> rw [hs] at h <;> cases h
  · rw [lanes_resetLane]
    exact ⟨replies_of (owner := ownResetLane) ht (withLane_val l _), rfl, rfl, rfl, rfl, rfl, rfl⟩

end Sys2Proof.Machine
end

section
/-! The events of an archive lane: line activity, fill, malformed words, silence, delivery timers and a word leaving
(R137, R144, R145, R148, R152, R156, R173). -/

set_option Elab.async false

namespace Sys2Proof.Machine

variable {s t : State} {l : Fin 4} {x : Lane} {d : DelivNo} {w : WindowEntry}

/-! Well-formed and malformed words -/

theorem Lane.wellFormed_of_listening (hx : x.state = .up ∨ x.state = .suspended) :
    x.wellFormed = { x with silence := some x.params.silence, malformed := 0 } := by
  rcases hx with hx | hx <;> (rw [Lane.wellFormed, hx]; rfl)

theorem Lane.wellFormed_of_aligning (hx : x.state = .aligning) (ha : x.align < 7) :
    x.wellFormed = { x with align := x.align + 1, silence := some x.params.silence, malformed := 0 } := by
  rw [Lane.wellFormed, hx]
  exact (if_pos rfl).trans ((if_pos rfl).trans (if_pos (Nat.succ_lt_succ ha)))

theorem Lane.wellFormed_of_aligned (hx : x.state = .aligning) (ha : 7 ≤ x.align) :
    x.wellFormed = { x with state := .up, align := 0, silence := some x.params.silence, malformed := 0 } := by
  rw [Lane.wellFormed, hx]
  exact (if_pos rfl).trans ((if_pos rfl).trans (if_neg (Nat.not_lt.2 (Nat.succ_le_succ ha))))

theorem laneCounted_of_listening (hs : s.lanes[l].state = .up ∨ s.lanes[l].state = .suspended) :
    laneCounted l s = modLane l (fun x => { x with silence := some x.params.silence, malformed := 0 }) s :=
  modLane_congr (Lane.wellFormed_of_listening hs)

theorem laneCounted_of_aligning (hs : s.lanes[l].state = .aligning) (ha : s.lanes[l].align < 7) : laneCounted l s =
    modLane l (fun x => { x with align := x.align + 1, silence := some x.params.silence, malformed := 0 }) s :=
  modLane_congr (Lane.wellFormed_of_aligning hs ha)

theorem laneCounted_of_aligned (hs : s.lanes[l].state = .aligning) (ha : 7 ≤ s.lanes[l].align) : laneCounted l s =
    modLane l (fun x => { x with state := .up, align := 0, silence := some x.params.silence, malformed := 0 }) s :=
  modLane_congr (Lane.wellFormed_of_aligned hs ha)

theorem takeLaneWord_of_listening {k : State → State} (hs : s.lanes[l].state = .up ∨ s.lanes[l].state = .suspended) :
    takeLaneWord l k s = k (laneCounted l s) := by
  rcases hs with hs | hs <;> (rw [takeLaneWord, hs]; rfl)

theorem takeLaneWord_of_aligning {k : State → State} (hs : s.lanes[l].state = .aligning) :
    takeLaneWord l k s = arbitrate (laneCounted l s) := by
  rw [takeLaneWord, hs]
  rfl

theorem takeLaneWord_of_deaf {k : State → State}
    (hs : s.lanes[l].state = .down ∨ s.lanes[l].state = .loopback ∨ s.lanes[l].state = .failed) : takeLaneWord l k s = s := by
  rcases hs with hs | hs | hs <;> rw [takeLaneWord, hs]

theorem laneMalformed_of_unwatched (hs : s.lanes[l].state.watched = false) : laneMalformed l s = s := by
  rw [laneMalformed, hs]
  rfl

theorem laneMalformed_of_aligning (hs : s.lanes[l].state = .aligning) : laneMalformed l s = modLane l (fun x =>
    { x with align := 0, malformed := min (x.malformed + 1) 8, silence := some x.params.silence }) s := by
  have hcount : s.lanes[l].countMalformed = { s.lanes[l] with
      align := 0, malformed := min (s.lanes[l].malformed + 1) 8, silence := some s.lanes[l].params.silence } := by
    rw [Lane.countMalformed, if_pos hs]
    rfl
  rw [laneMalformed, hs]
  exact modLane_congr hcount

theorem laneMalformed_of_few (hs : s.lanes[l].state = .up ∨ s.lanes[l].state = .suspended) (hm : s.lanes[l].malformed < 7) :
    laneMalformed l s =
      modLane l (fun x => { x with malformed := x.malformed + 1, silence := some x.params.silence }) s := by
  have hfew : decide (Config.malformedWords ≤ s.lanes[l].malformed + 1) = false :=
    decide_eq_false (Nat.not_le.2 (Nat.succ_lt_succ hm))
  have hne : s.lanes[l].state ≠ .aligning := by rcases hs with hs | hs <;> rw [hs] <;> nofun
  have hmin : min (s.lanes[l].malformed + 1) Config.malformedWords = s.lanes[l].malformed + 1 :=
    Nat.min_eq_left (Nat.le_succ_of_le hm)
  have hcount : s.lanes[l].countMalformed =
      { s.lanes[l] with malformed := s.lanes[l].malformed + 1, silence := some s.lanes[l].params.silence } := by
    rw [Lane.countMalformed, if_neg hne, hmin]
  rw [laneMalformed, hfew]
  rcases hs with hs | hs <;> (rw [hs]; exact modLane_congr hcount)

theorem laneMalformed_of_many (hs : s.lanes[l].state = .up ∨ s.lanes[l].state = .suspended) (hm : 7 ≤ s.lanes[l].malformed) :
    laneMalformed l s = arbitrate (loseLine l s) := by
  have hmany : decide (Config.malformedWords ≤ s.lanes[l].malformed + 1) = true := decide_eq_true (Nat.succ_le_succ hm)
  rw [laneMalformed, hmany]
  rcases hs with hs | hs <;> (rw [hs]; rfl)

theorem laneSilence_of_running (hs : s.lanes[l].silence.isSome = true) : laneSilence l s = arbitrate (loseLine l s) := if_pos hs

theorem laneSilence_of_stopped (hs : s.lanes[l].silence = none) : laneSilence l s = s := by
  rw [laneSilence, hs]
  rfl

/-- An event of a lane, by what its function leaves. -/
theorem leaves_eq {c : Instr} {f : State → State} (hs : Runs s) (hf : f s = t) (hc : exec c s = event f s := by rfl) :
    Leaves c s t := hf ▸ leaves_of_runs hs hc

/-- Settles O55, by the lane's state. -/
theorem laneEventsFollowTheLane : Obligations.LaneEventsFollowTheLane := by
  unfold Obligations.LaneEventsFollowTheLane
  intro l s hs
  refine ⟨fun hd => leaves_eq (f := modLane l Lane.activity) hs (modLane_congr (if_pos hd)),
    fun hd => leaves_eq (f := modLane l Lane.activity) hs (modLane_of_fixed (if_neg hd)),
    fun hup => leaves_eq (f := takeLaneWord l id) hs ((takeLaneWord_of_listening hup).trans (laneCounted_of_listening hup)),
    fun hal hn => leaves_eq (f := takeLaneWord l id) hs
      ((takeLaneWord_of_aligning hal).trans (congrArg arbitrate (laneCounted_of_aligning hal hn))),
    fun hal hn => leaves_eq (f := takeLaneWord l id) hs
      ((takeLaneWord_of_aligning hal).trans (congrArg arbitrate (laneCounted_of_aligned hal hn))),
    fun hq => ⟨leaves_eq (f := takeLaneWord l id) hs (takeLaneWord_of_deaf hq),
      leaves_eq (f := laneMalformed l) hs (laneMalformed_of_unwatched (by rcases hq with h | h | h <;> rw [h] <;> rfl))⟩,
    fun hal => leaves_eq (f := laneMalformed l) hs (laneMalformed_of_aligning hal),
    fun hup => ⟨fun hn => leaves_eq (f := laneMalformed l) hs (laneMalformed_of_few hup hn),
      fun hn => leaves_eq (f := laneMalformed l) hs (laneMalformed_of_many hup hn)⟩,
    fun hr => leaves_eq (f := laneSilence l) hs (laneSilence_of_running hr),
    fun hr => leaves_eq (f := laneSilence l) hs (laneSilence_of_stopped hr)⟩

/-! Delivery timers (R152) -/

theorem deliveryExpiry_of_none {ph : WindowPhase} (h : s.lanes[l].entry d = none) : deliveryExpiry l d ph s = s := by
  rw [deliveryExpiry, h]

theorem deliveryExpiry_of_not {ph : WindowPhase} (h : s.lanes[l].entry d = some w) (hw : w.timer = none ∨ w.phase ≠ ph) :
    deliveryExpiry l d ph s = s := by
  rw [deliveryExpiry, h]
  refine if_neg fun ⟨hp, ht⟩ => ?_
  rcases hw with hw | hw
  · rw [hw] at ht
    cases ht
  · exact hw hp

theorem deliveryExpiry_of_running {ph : WindowPhase} (h : s.lanes[l].entry d = some w) (hp : w.phase = ph)
    (ht : w.timer.isSome = true) : deliveryExpiry l d ph s = arbitrate (failLane l s) := by
  rw [deliveryExpiry, h]
  exact if_pos ⟨hp, ht⟩

/-- A lane that fails is FAILED and empty, the failure counted. -/
theorem lanes_failLane_self (l : Fin 4) (s : State) : (failLane l s).lanes[l] = s.lanes[l].emptied.toFailed := by
  rw [failLane, raise_lanes, getElem_modLane_self, lanes_failureEffects_self]

theorem lanes_failedLane (l : Fin 4) (s : State) : (arbitrate (failLane l s)).lanes[l] = s.lanes[l].emptied.toFailed := by
  rw [lanes_arbitrate_of_closed, lanes_failLane_self]
  rw [lanes_failLane_self]
  exact gateOpen_of_not_carries rfl

theorem attention_arbitrate (s : State) : (arbitrate s).attention = s.attention := by
  rw [(arbitrated_arbitrate s).frame]

theorem mem_attention_failLane (hk : AttnKind.laneFailed ∉ s.room.mask) (ha : ∀ a ∈ s.attention, a.2 < 256) :
    (.laneFailed, l.val) ∈ (arbitrate (failLane l s)).attention := by
  rw [attention_arbitrate]
  refine mem_attention_raise_self ?_ (Nat.lt_trans l.isLt (by decide)) ?_ <;> rw [failureEffects_frame]
  · exact hk
  · exact ha

/-- Settles O58, by the timer's phase. -/
theorem deliveryTimeoutFailsTheLane : Obligations.DeliveryTimeoutFailsTheLane := by
  unfold Obligations.DeliveryTimeoutFailsTheLane
  intro l d s hs ha
  refine ⟨fun h => ⟨leaves_eq (f := deliveryExpiry l d .awaitAccept) hs (deliveryExpiry_of_none h),
      leaves_eq (f := deliveryExpiry l d .awaitSecure) hs (deliveryExpiry_of_none h)⟩,
    fun w h => ⟨fun hw => leaves_eq (f := deliveryExpiry l d .awaitAccept) hs (deliveryExpiry_of_not h hw),
      fun hw => leaves_eq (f := deliveryExpiry l d .awaitSecure) hs (deliveryExpiry_of_not h hw),
      fun ht => ⟨_, rfl, fun hp => leaves_eq (f := deliveryExpiry l d .awaitAccept) hs (deliveryExpiry_of_running h hp ht),
        fun hp => leaves_eq (f := deliveryExpiry l d .awaitSecure) hs (deliveryExpiry_of_running h hp ht), ?_⟩⟩⟩
  rw [lanes_failedLane]
  exact ⟨rfl, rfl, rfl, rfl, rfl, fun hk => mem_attention_failLane hk ha⟩

/-! A word leaves (R137, R148, R156) -/

theorem laneLeaves_of_down (h : s.lanes[l].state = .down) : laneLeaves l s = s := if_pos h

theorem laneLeaves_of_ne (h : s.lanes[l].state ≠ .down) :
    laneLeaves l s = modLane l Lane.nextWord (laneWordLeft l s.lanes[l].line s) := if_neg h

/-- A block has left the FIFO: `t` is the state without it, and `v` the one with flow control judged. -/
theorem blockLeft_of_none {v : State} (hpop : modLane l (Lane.popBlock d) s = t)
    (hsome : ∀ e, uploaderOf s l = some e → v = judgeGo e t) (hnone : uploaderOf s l = none → v = t)
    (h : s.lanes[l].entry d = none) : blockLeft l d s = arbitrate v := by
  have huploader : uploaderOf t l = uploaderOf s l := by rw [← hpop]; rfl
  rw [blockLeft, h, hpop, huploader]
  cases he : uploaderOf s l with
  | none => rw [hnone he]
  | some e => rw [hsome e he]

theorem blockLeft_of_some {v : State} {hs es : List Nat} (hpop : modLane l (Lane.popBlock d) s = t)
    (hsome : ∀ e, uploaderOf s l = some e → v = judgeGo e t) (hnone : uploaderOf s l = none → v = t)
    (h : s.lanes[l].entry d = some w) (ho : ownersOf s w.slot = (hs, es)) :
    blockLeft l d s = settle hs es s.lastAlloc (arbitrate (closeDelivery l d v)) := by
  have huploader : uploaderOf t l = uploaderOf s l := by rw [← hpop]; rfl
  rw [blockLeft, h, hpop, huploader]
  dsimp only
  rw [ho]
  cases he : uploaderOf s l with
  | none => rw [hnone he]
  | some e => rw [hsome e he]

theorem popBlock_of_head {c : List Byte} {m : List FifoBlock} (h : x.fifo = (d, c) :: m) : x.popBlock d = { x with fifo := m } := by
  rw [Lane.popBlock, h]
  exact if_pos rfl

theorem popBlock_of_other (h : ∀ c m, x.fifo ≠ (d, c) :: m) : x.popBlock d = x := by
  unfold Lane.popBlock
  split
  · rfl
  · next b m hf =>
    refine if_neg fun hb => h b.2 m ?_
    rw [hf, ← hb]

theorem modLane_popBlock (hhead : ∀ c m, s.lanes[l].fifo = (d, c) :: m → t = modLane l (fun x => { x with fifo := m }) s)
    (hother : (∀ c m, s.lanes[l].fifo ≠ (d, c) :: m) → t = s) : modLane l (Lane.popBlock d) s = t := by
  by_cases h : ∃ c m, s.lanes[l].fifo = (d, c) :: m
  · obtain ⟨c, m, h⟩ := h
    rw [hhead c m h]
    exact modLane_congr (popBlock_of_head h)
  · simp only [not_exists] at h
    rw [hother h]
    exact modLane_of_fixed (popBlock_of_other h)

/-- Settles O60, by the word on the line. -/
theorem laneWordLeavesTheLane : Obligations.LaneWordLeavesTheLane := by
  unfold Obligations.LaneWordLeavesTheLane
  refine ⟨fun l s hs => ⟨fun h => leaves_eq (f := laneLeaves l) hs (laneLeaves_of_down h),
      fun h => leaves_eq (f := laneLeaves l) hs (laneLeaves_of_ne h)⟩,
    fun x hd hl => ⟨fun c t hc => ?_, fun b t hc hf => ?_, fun hc hf => ?_⟩,
    fun x hx => ⟨fun b t hf => ?_, fun hf => ?_⟩, fun l d n k s => rfl, fun l s => ⟨rfl, rfl, fun d x a o r => rfl, fun d => rfl⟩,
    fun l d s t v hhead hother hsome hnone w hw => ⟨fun h => ?_, fun z hs es h ho => ?_⟩⟩
  · unfold Lane.nextWord
    cases hx : x.state <;> simp_all
  · unfold Lane.nextWord
    cases hx : x.state <;> simp_all
  · unfold Lane.nextWord
    cases hx : x.state <;> simp_all
  · rw [Lane.nextWord, hx, hf]
  · rw [Lane.nextWord, hx, hf]
  · have hleft := blockLeft_of_none (modLane_popBlock hhead hother) hsome hnone h
    rcases hw with rfl | rfl <;> exact hleft
  · have hleft := blockLeft_of_some (modLane_popBlock hhead hother) hsome hnone h ho
    rcases hw with rfl | rfl <;> exact hleft

end Sys2Proof.Machine
end

section
/-! The image path: flow control by the FIFOs, and the image words against a station's upload (R132, R134, R136–R141, R148). -/

set_option Elab.async false

namespace Sys2Proof.Machine

variable {s t : State} {l : Fin 4} {p : Fin 16} {e f n : Nat} {x : Entry} {u v : Upload} {q : Queues → Queues}

/-! The upload of one station -/

theorem get_uploads_modUpload_self (g : Upload → Upload) (hu : s.uploads.get e = some u) :
    (modUpload e g s).uploads.get e = some (g u) := by
  rw [modUpload_uploads, Tab.get_modify_self, hu, Option.map_some]

theorem get_uploads_modUpload_ne (g : Upload → Upload) (hf : f ≠ e) : (modUpload e g s).uploads.get f = s.uploads.get f := by
  rw [modUpload_uploads, Tab.get_modify_other _ _ hf]

theorem ports_endUpload_self (hx : s.entries.get e = some x) (hp : x.port = some p) : (endUpload e s).ports[p] =
    { s.ports[p] with queues := { s.ports[p].queues with upload := none, flow := none } } :=
  ports_onQueues_self (s := { s with uploads := s.uploads.del e }) Queues.dropUpload hx hp

theorem ports_onQueues_of_none (hp : ∀ x, s.entries.get e = some x → x.port ≠ some p) :
    (onQueues e q s).ports[p] = s.ports[p] := by
  cases hx : s.entries.get e with
  | none => rw [onQueues_of_none q hx]
  | some x => exact ports_onQueues_of_ne q hx (hp x hx)

theorem get_uploads_endUpload_self (e : Nat) (s : State) : (endUpload e s).uploads.get e = none := by
  rw [endUpload_frame]
  exact Tab.get_del_self _ _

theorem get_uploads_endUpload_ne (hf : f ≠ e) : (endUpload e s).uploads.get f = s.uploads.get f := by
  rw [endUpload_frame]
  exact Tab.get_del_other _ hf

theorem uploaderOf_eq_none : uploaderOf s l = none ↔ ∀ u ∈ s.uploads, ∀ d ∈ u.2.dests, d.1 ≠ l := by
  rw [uploaderOf, Option.map_eq_none_iff, findDest_eq_none]

theorem uploaderOf_spec (he : uploaderOf s l = some e) : ∃ u, (e, u) ∈ s.uploads ∧ ∃ d ∈ u.dests, d.1 = l := by
  obtain ⟨⟨i, u⟩, hp, rfl⟩ := Option.map_eq_some_iff.1 he
  obtain ⟨hm, hd⟩ := findDest_spec hp
  exact ⟨u, hm, hd⟩

/-! The loss of a destination (R141) -/

/-- An upload of slot 0 to the given destinations. -/
def uploadTo (ds : List (Fin 4 × Role)) : Upload :=
  { slot := 0, serial := { batch := 0, seq := 1 }, tag := 0, side := .one, dests := ds }

/-- A state whose upload table has the key 0 twice. No step leads to it, and the statement does not exclude it. -/
def twoUploads : State :=
  { State.reset with
    entries := [(0, { id := { maker := 1, serial := 1 } })]
    uploads := [(0, uploadTo [(0, .primary), (1, .copy)]), (0, uploadTo [(2, .primary)])] }

/-- Refutes O54: where the upload table has a key twice, the loss of a lane leaves the second upload under it its destinations,
while a change of both to the rest of the first does not. -/
theorem not_flowFollowsTheFifos : ¬ Obligations.FlowFollowsTheFifos := by
  unfold Obligations.FlowFollowsTheFifos
  rintro ⟨-, -, -, -, -, -, hlose, -⟩
  obtain ⟨-, hsome⟩ := hlose 0 twoUploads
  obtain ⟨hrest, -⟩ := hsome 0 _ (uploadTo [(0, .primary), (1, .copy)]) (by decide) rfl rfl [(1, .copy)] (by decide)
  have huploads := congrArg State.uploads (hrest (by decide))
  revert huploads
  decide

/-! The image words (R132, R136–R140) -/

/-- A word that reaches its owner, by what the owner leaves. -/
theorem leaves_owner_eq {c : Instr} {k : Nat → State → State} (hs : Runs s) (ha : AttachedTo s p e)
    (hk : k e (counted p s) = t) (hc : exec c s = event (takeWord p k) s := by rfl) : Leaves c s t :=
  hk ▸ leaves_of_attached hs ha hc

theorem bitsOf_eq (c : Byte) : bitsOf c = (List.range 8).map c.getMsbD := by
  simp only [bitsOf, BitVec.getMsbD_eq_getLsbD, show List.range 8 = [0, 1, 2, 3, 4, 5, 6, 7] from rfl, List.map_cons,
    List.map_nil]
  rfl

theorem checkBytes_cons (k : Check) (c : Byte) (d : List Byte) : checkBytes k (c :: d) =
    checkBytes ((List.range 8).foldl (fun q i =>
      if q.msb = c.getMsbD i then q <<< 1 else (q <<< 1) ^^^ 0x04C11DB7#32) k) d := by
  have hbit : ∀ (q : Check) (i : Nat), crcBit 0x04C11DB7#32 q (c.getMsbD i) =
      if q.msb = c.getMsbD i then q <<< 1 else (q <<< 1) ^^^ 0x04C11DB7#32 := fun q i => by
    by_cases h : q.msb = c.getMsbD i <;> simp [crcBit, h]
  simp only [checkBytes, crcBytes, List.foldl_cons, bitsOf_eq, List.foldl_map, hbit]

theorem ownersOf_of_none {n : Nat} (h : s.sheets.get n = none) : ownersOf s n = ([], []) := by
  rw [ownersOf, h]

theorem ownersOf_of_get {r : Sheet} (h : s.sheets.get n = some r) : ownersOf s n = ([r.batch], [r.station]) := by
  rw [ownersOf, h]

theorem uploadFails_eq {hs es : List Nat} (h : ownersOf s u.slot = (hs, es)) :
    uploadFails e u s = settle hs es s.lastAlloc (arbitrate (failUpload e s)) := by
  rw [uploadFails, h]

theorem blockCountOk_iff : blockCountOk n = true ↔ 1 ≤ n ∧ n ≤ 16383 := Config.within_iff

theorem imageStartTaken_of_none {g : Tag} {d : Side} (h : s.uploads.get e = none) : imageStartTaken g d n e s = s := by
  rw [imageStartTaken, h]

theorem imageStartTaken_of_asked (h : s.uploads.get e = some u) (hu : u.phase = .asked) (h1 : 1 ≤ n) (h2 : n ≤ 16383) :
    imageStartTaken u.tag u.side n e s =
      modUpload e (fun u => { u with phase := .receiving, blocks := some n, stall := .running 500 }) s := by
  rw [imageStartTaken, h]
  exact if_pos ⟨hu, rfl, rfl, blockCountOk_iff.2 ⟨h1, h2⟩⟩

theorem imageStartTaken_of_wrong {g : Tag} {d : Side} (h : s.uploads.get e = some u)
    (hw : u.phase = .receiving ∨ g ≠ u.tag ∨ d ≠ u.side ∨ n = 0 ∨ 16383 < n) :
    imageStartTaken g d n e s = uploadFails e u s := by
  rw [imageStartTaken, h]
  refine if_neg fun ⟨hphase, htag, hside, hcount⟩ => ?_
  obtain ⟨h1, h2⟩ := blockCountOk_iff.1 hcount
  rcases hw with hw | hw | hw | hw | hw
  · rw [hw] at hphase
    cases hphase
  · exact hw htag.symm
  · exact hw hside.symm
  all_goals omega

theorem blockTaken_of_none {data : List Byte} (h : s.uploads.get e = none) : blockTaken data e s = s := by
  rw [blockTaken, h]

theorem blockTaken_of_asked {data : List Byte} (h : s.uploads.get e = some u) (hu : u.phase = .asked) :
    blockTaken data e s = s := by
  rw [blockTaken, h]
  dsimp only
  rw [hu]

theorem blockTaken_of_receiving {data : List Byte} (h : s.uploads.get e = some u) (hu : u.phase = .receiving) :
    blockTaken data e s = if u.blocks.getD 0 ≤ u.taken ∨ someFifoFull s u = true then uploadFails e u s
      else flowAfterBlock e u (u.dests.foldl (copyBlock u data) (modUpload e (Upload.take data) s)) := by
  rw [blockTaken, h]
  dsimp only
  rw [hu]

theorem imageEndTaken_of_none {k : Check} (h : s.uploads.get e = none) : imageEndTaken k e s = s := by
  rw [imageEndTaken, h]

theorem imageEndTaken_of_asked {k : Check} (h : s.uploads.get e = some u) (hu : u.phase = .asked) :
    imageEndTaken k e s = s := by
  rw [imageEndTaken, h]
  dsimp only
  rw [hu]

theorem agrees_iff {k : Check} : u.agrees k = true ↔ checkValue u.check = k ∧ u.blocks = some u.taken := by
  simp only [Upload.agrees, Bool.and_eq_true, decide_eq_true_eq]

theorem imageEndTaken_of_agreeing {k : Check} {hs es : List Nat} (h : s.uploads.get e = some u) (hu : u.phase = .receiving)
    (hk : u.agrees k = true) (ho : ownersOf s u.slot = (hs, es)) :
    imageEndTaken k e s = settle hs es s.lastAlloc (arbitrate (u.dests.foldl (endDest u k) (endUpload e s))) := by
  rw [imageEndTaken, h]
  dsimp only
  rw [hu, ho]
  exact if_pos hk

theorem imageEndTaken_of_differing {k : Check} (h : s.uploads.get e = some u) (hu : u.phase = .receiving)
    (hk : u.agrees k = false) : imageEndTaken k e s = uploadFails e u s := by
  rw [imageEndTaken, h]
  dsimp only
  rw [hu, hk]
  rfl

theorem stallExpiry_of_none (h : s.uploads.get e = none) : stallExpiry e s = s := by
  rw [stallExpiry, h]

theorem stallExpiry_of_get (h : s.uploads.get e = some u) :
    stallExpiry e s = if u.stall.isRunning then uploadFails e u s else s := by
  rw [stallExpiry, h]

/-- Settles O53, word by word. -/
theorem imageWordsAdvanceTheUpload : Obligations.ImageWordsAdvanceTheUpload := by
  unfold Obligations.ImageWordsAdvanceTheUpload
  refine ⟨fun k c d => ⟨rfl, rfl, checkBytes_cons k c d⟩, fun n s => ⟨ownersOf_of_none, fun r => ownersOf_of_get⟩,
    fun e u s hs es => uploadFails_eq, ?_, fun p e s hs ha => ⟨fun h g d n k data => ?_, fun u h => ?_⟩, fun e s hs => ?_⟩
  · rintro e s t rfl
    refine ⟨endUpload_frame e s, get_uploads_endUpload_self e s, fun f => get_uploads_endUpload_ne, fun p => ⟨?_, fun hp => ?_⟩⟩
    · rintro ⟨x, hx, hp⟩
      exact ports_endUpload_self hx hp
    · exact ports_onQueues_of_none (s := { s with uploads := s.uploads.del e }) hp
  · have hu : (counted p s).uploads.get e = none := h
    exact ⟨leaves_owner_eq (k := imageStartTaken g d n) hs ha (imageStartTaken_of_none hu),
      fun hd => leaves_owner_eq (k := blockTaken data) hs ha (blockTaken_of_none hu) (exec_block_of_length hd),
      leaves_owner_eq (k := imageEndTaken k) hs ha (imageEndTaken_of_none hu)⟩
  · have hu : (counted p s).uploads.get e = some u := h
    refine ⟨fun n hp h1 h2 => leaves_owner_eq (k := imageStartTaken u.tag u.side n) hs ha (imageStartTaken_of_asked hu hp h1 h2),
      fun g d n hw => leaves_owner_eq (k := imageStartTaken g d n) hs ha (imageStartTaken_of_wrong hu hw),
      fun data k hp => ⟨fun hd => leaves_owner_eq (k := blockTaken data) hs ha (blockTaken_of_asked hu hp) (exec_block_of_length hd),
        leaves_owner_eq (k := imageEndTaken k) hs ha (imageEndTaken_of_asked hu hp)⟩,
      fun data hd hp => ⟨fun hw => ?_, fun hn hf => ?_⟩,
      fun k hp => ⟨fun hc hb hs' es ho => ?_, fun hw => ?_⟩⟩
    · exact leaves_owner_eq (k := blockTaken data) hs ha ((blockTaken_of_receiving hu hp).trans (if_pos hw)) (exec_block_of_length hd)
    · refine leaves_owner_eq (k := blockTaken data) hs ha ((blockTaken_of_receiving hu hp).trans (if_neg ?_))
        (exec_block_of_length hd)
      rintro (hle | hfull)
      · exact Nat.not_le.2 hn hle
      · exact nomatch hf.symm.trans hfull
    · exact leaves_owner_eq (k := imageEndTaken k) hs ha (imageEndTaken_of_agreeing hu hp (agrees_iff.2 ⟨hc, hb⟩) ho)
    · refine leaves_owner_eq (k := imageEndTaken k) hs ha (imageEndTaken_of_differing hu hp (Bool.eq_false_iff.2 fun h => ?_))
      obtain ⟨hc, hb⟩ := agrees_iff.1 h
      exact hw.elim (fun hw => hw hc) fun hw => hw hb
  · refine ⟨fun h => leaves_eq (f := stallExpiry e) hs (stallExpiry_of_none h), fun u h => ⟨fun hr => ?_, fun hr => ?_⟩⟩
    · exact leaves_eq (f := stallExpiry e) hs ((stallExpiry_of_get h).trans (if_pos hr))
    · exact leaves_eq (f := stallExpiry e) hs ((stallExpiry_of_get h).trans (if_neg (Bool.eq_false_iff.1 hr)))

/-! READY (R131) -/

theorem sideCount_eq_one : sideCount n = some .one ↔ n = 1 := by
  unfold sideCount
  split <;> simp_all

theorem sideCount_eq_two : sideCount n = some .two ↔ n = 2 := by
  unfold sideCount
  split <;> simp_all

theorem sideCount_eq_none : sideCount n = none ↔ n ≠ 1 ∧ n ≠ 2 := by
  unfold sideCount
  split <;> simp_all

theorem readyTaken_of_none {g : Tag} (h : findTagged s e g = none ∨ sideCount n = none) : readyTaken g n e s = s := by
  unfold readyTaken
  rcases h with h | h <;> rw [h]
  cases findTagged s e g <;> rfl

theorem readyTaken_of_some {g : Tag} {k m : Nat} {r : Sheet} {d : Side} (h : findTagged s e g = some (m, r))
    (hk : sideCount k = some d) (hx : s.entries.get e = some x) :
    readyTaken g k e s = if sidesAllowed x d then readyRecord m r d s else s := by
  rw [readyTaken, h, hk, hx]

/-- Settles O51, by the record's state. -/
theorem readyMarksTheImages : Obligations.ReadyMarksTheImages := by
  unfold Obligations.ReadyMarksTheImages
  refine ⟨fun k => ⟨sideCount_eq_one, sideCount_eq_two, sideCount_eq_none⟩, fun x => ⟨rfl, fun f hf => ?_⟩,
    fun p e g k s hs ha => ⟨fun h => leaves_owner_eq (k := readyTaken g k) hs ha (readyTaken_of_none h),
      fun n r d x hg hk hx => ?_⟩⟩
  · rw [sidesAllowed, hf]
    rfl
  · have htaken : readyTaken g k e (counted p s) = if sidesAllowed x d then readyRecord n r d (counted p s) else counted p s :=
      readyTaken_of_some (s := counted p s) hg hk hx
    refine ⟨fun hw => leaves_owner_eq (k := readyTaken g k) hs ha (htaken.trans ?_), fun hok hi hst =>
      leaves_owner_eq (k := readyTaken g k) hs ha ((htaken.trans (if_pos hok)).trans ?_), fun hok hi hst =>
      leaves_owner_eq (k := readyTaken g k) hs ha ((htaken.trans (if_pos hok)).trans ?_)⟩
    · rcases hw with hw | hw | hw | hw
      · rw [hw]
        rfl
      · rw [readyRecord, hw]
        exact ite_self _
      · rw [readyRecord, hw]
        simp
      · rw [readyRecord, hw]
        simp
    · rw [readyRecord, hi]
      rcases hst with hst | hst <;> (rw [hst]; rfl)
    · rw [readyRecord, hi, hst]
      rfl

end Sys2Proof.Machine
end

section
/-! The archive's answers by window entry (R146, R149–R151, R156, R173). -/

set_option Elab.async false

namespace Sys2Proof.Machine

variable {s t : State} {l : Fin 4} {d : DelivNo} {w : WindowEntry} {x : Lane}

theorem entry_eq_none : x.entry d = none ↔ ∀ w ∈ x.window, w.number ≠ d := by
  simp only [Lane.entry, List.find?_eq_none, decide_eq_true_eq, ne_eq]

theorem entry_spec (h : x.entry d = some w) : w ∈ x.window ∧ w.number = d :=
  ⟨List.mem_of_find?_eq_some h, by simpa using List.find?_some h⟩

/-! The word before its answer (R173) -/

theorem takeAnswer_of_listening {k : State → State} (hs : s.lanes[l].state = .up ∨ s.lanes[l].state = .suspended) :
    takeAnswer l k s = k (laneCounted l s) := by
  rw [← takeLaneWord_of_listening (k := k) hs]
  rcases hs with hs | hs <;> rw [takeAnswer, hs]

theorem takeAnswer_of_loopback {k : State → State} (hs : s.lanes[l].state = .loopback) : takeAnswer l k s = s := by
  rw [takeAnswer, hs]
  exact takeLaneWord_of_deaf (.inr (.inl hs))

theorem takeAnswer_of_aligning {k : State → State} (hs : s.lanes[l].state = .aligning) :
    takeAnswer l k s = arbitrate (laneCounted l (modLane l Lane.strayed s)) := by
  rw [takeAnswer, hs]
  refine takeLaneWord_of_aligning ?_
  rw [getElem_modLane_self]
  exact hs

theorem takeAnswer_of_closed {k : State → State} (hs : s.lanes[l].state = .failed ∨ s.lanes[l].state = .down) :
    takeAnswer l k s = modLane l Lane.strayed s := by
  rcases hs with hs | hs <;> rw [takeAnswer, hs]

/-! The three answers -/

theorem acceptTaken_of_none (h : s.lanes[l].entry d = none) : acceptTaken l d s = modLane l Lane.strayed s := by
  rw [acceptTaken, h]

theorem securedTaken_of_none (h : s.lanes[l].entry d = none) : securedTaken l d s = modLane l Lane.strayed s := by
  rw [securedTaken, h]

theorem refuseTaken_of_none (r : RefuseReason) (h : s.lanes[l].entry d = none) :
    refuseTaken l d r s = modLane l Lane.strayed s := by
  rw [refuseTaken, h]

theorem endDone_eq {hs es : List Nat} (ho : ownersOf s w.slot = (hs, es)) :
    endDone l w s = settle hs es s.lastAlloc (arbitrate (deliveryDone l w s)) := by
  rw [endDone, ho]

theorem acceptTaken_of_awaiting (h : s.lanes[l].entry d = some w) (hp : w.phase = .awaitAccept) (hw : w.secure = false) :
    acceptTaken l d s = endDone l w s := by
  rw [acceptTaken, h]
  dsimp only
  rw [hp, hw]

theorem acceptTaken_of_secure (h : s.lanes[l].entry d = some w) (hp : w.phase = .awaitAccept) (hw : w.secure = true) :
    acceptTaken l d s = awaitSecure l w s := by
  rw [acceptTaken, h]
  dsimp only
  rw [hp, hw]

theorem acceptTaken_of_other (h : s.lanes[l].entry d = some w) (hp : w.phase ≠ .awaitAccept) :
    acceptTaken l d s = modLane l Lane.strayed s := by
  rw [acceptTaken, h]
  dsimp only
  split
  · exact absurd ‹_› hp
  · exact absurd ‹_› hp
  · rfl

theorem securedTaken_of_awaiting (h : s.lanes[l].entry d = some w) (hp : w.phase = .awaitSecure) :
    securedTaken l d s = endDone l w s := by
  rw [securedTaken, h]
  dsimp only
  rw [hp]

theorem securedTaken_of_other (h : s.lanes[l].entry d = some w) (hp : w.phase ≠ .awaitSecure) :
    securedTaken l d s = modLane l Lane.strayed s := by
  rw [securedTaken, h]
  dsimp only
  split
  · exact absurd ‹_› hp
  all_goals rfl

theorem refuseTaken_of_some (r : RefuseReason) {hs es : List Nat} (h : s.lanes[l].entry d = some w)
    (ho : ownersOf s w.slot = (hs, es)) :
    refuseTaken l d r s = settle hs es s.lastAlloc (arbitrate (refuseEntry l w r s)) := by
  rw [refuseTaken, h]
  dsimp only
  rw [ho]

/-- A counted word leaves the window of its lane. -/
theorem window_laneCounted (hs : s.lanes[l].state = .up ∨ s.lanes[l].state = .suspended) :
    (laneCounted l s).lanes[l].entry d = s.lanes[l].entry d := by
  rw [laneCounted_of_listening hs, getElem_modLane_self]
  rfl

/-- Settles O56, by the lane's state and the entry's phase. -/
theorem archiveAnswersMoveTheWindow : Obligations.ArchiveAnswersMoveTheWindow := by
  unfold Obligations.ArchiveAnswersMoveTheWindow
  refine ⟨fun l s => ⟨laneCounted_of_listening, fun hs => ?_⟩, fun x d => ⟨entry_eq_none, fun w => entry_spec, rfl⟩, ?_⟩
  · by_cases ha : 7 ≤ s.lanes[l].align
    · exact (laneCounted_of_aligned hs ha).trans (modLane_congr (by rw [if_pos ha, if_pos ha]))
    · refine (laneCounted_of_aligning hs (Nat.not_le.1 ha)).trans (modLane_congr ?_)
      rw [if_neg ha, if_neg ha, ← hs]
  · rintro l d s u v hr rfl rfl
    refine ⟨fun hs r a => ⟨?_, ?_, ?_, ?_⟩, fun hs r a => ⟨?_, ?_, ?_, ?_⟩, fun hs r a => ⟨?_, ?_, ?_, ?_⟩,
      fun hs => ⟨fun a => ?_, fun h r => ?_, fun w hs' es h ho => ?_⟩⟩
    · exact leaves_eq (f := takeAnswer l _) hr (takeAnswer_of_closed hs)
    · exact leaves_eq (f := takeAnswer l _) hr (takeAnswer_of_closed hs)
    · exact leaves_eq (f := takeAnswer l _) hr (takeAnswer_of_closed hs)
    · exact leaves_eq (f := takeLaneWord l _) hr (takeLaneWord_of_deaf (hs.elim (fun h => .inr (.inr h)) .inl))
    · exact leaves_eq (f := takeAnswer l _) hr (takeAnswer_of_aligning hs)
    · exact leaves_eq (f := takeAnswer l _) hr (takeAnswer_of_aligning hs)
    · exact leaves_eq (f := takeAnswer l _) hr (takeAnswer_of_aligning hs)
    · exact leaves_eq (f := takeLaneWord l _) hr (takeLaneWord_of_aligning hs)
    · exact leaves_eq (f := takeAnswer l _) hr (takeAnswer_of_loopback hs)
    · exact leaves_eq (f := takeAnswer l _) hr (takeAnswer_of_loopback hs)
    · exact leaves_eq (f := takeAnswer l _) hr (takeAnswer_of_loopback hs)
    · exact leaves_eq (f := takeLaneWord l _) hr (takeLaneWord_of_deaf (.inr (.inl hs)))
    · have hreport : Lane.report a = fun x : Lane => { x with view := some a, refusing := x.refusing && decide (a = .busy) } := by
        cases a <;> rfl
      have htake := takeLaneWord_of_listening (k := fun t => arbitrate (modLane l (Lane.report a) t)) hs
      rw [hreport] at htake
      exact leaves_eq (f := takeLaneWord l fun t => arbitrate (modLane l (Lane.report a) t)) hr (hreport ▸ htake)
    · have hu : (laneCounted l s).lanes[l].entry d = none := (window_laneCounted hs).trans h
      exact ⟨leaves_eq (f := takeAnswer l (acceptTaken l d)) hr ((takeAnswer_of_listening hs).trans (acceptTaken_of_none hu)),
        leaves_eq (f := takeAnswer l (securedTaken l d)) hr ((takeAnswer_of_listening hs).trans (securedTaken_of_none hu)),
        leaves_eq (f := takeAnswer l (refuseTaken l d r)) hr ((takeAnswer_of_listening hs).trans (refuseTaken_of_none r hu))⟩
    · have hu : (laneCounted l s).lanes[l].entry d = some w := (window_laneCounted hs).trans h
      have hown : ownersOf (laneCounted l s) w.slot = (hs', es) := ho
      refine ⟨fun hp hw => leaves_eq (f := takeAnswer l (acceptTaken l d)) hr ((takeAnswer_of_listening hs).trans
          ((acceptTaken_of_awaiting hu hp hw).trans (endDone_eq hown))),
        fun hp hw => leaves_eq (f := takeAnswer l (acceptTaken l d)) hr ((takeAnswer_of_listening hs).trans
          (acceptTaken_of_secure hu hp hw)),
        fun hp => leaves_eq (f := takeAnswer l (acceptTaken l d)) hr ((takeAnswer_of_listening hs).trans
          (acceptTaken_of_other hu hp)),
        fun hp => leaves_eq (f := takeAnswer l (securedTaken l d)) hr ((takeAnswer_of_listening hs).trans
          ((securedTaken_of_awaiting hu hp).trans (endDone_eq hown))),
        fun hp => leaves_eq (f := takeAnswer l (securedTaken l d)) hr ((takeAnswer_of_listening hs).trans
          (securedTaken_of_other hu hp)),
        fun r => leaves_eq (f := takeAnswer l (refuseTaken l d r)) hr ((takeAnswer_of_listening hs).trans
          (refuseTaken_of_some r hu hown))⟩

end Sys2Proof.Machine
end

section
/-! Delivery entries by side and role; and what a lane that fails or is reset gives back (R130, R141, R145, R152–R155). -/

set_option Elab.async false

namespace Sys2Proof.Machine

variable {s t : State} {l m : Fin 4} {w : WindowEntry} {r q : Sheet} {n e : Nat} {d : Delivery} {a : Side} {o : Role}

/-! The delivery entry of a side and role (R130) -/

theorem deliveryOf_eq_none : deliveryOf r a o = none ↔ ∀ d ∈ r.deliveries.getD [], d.side ≠ a ∨ d.role ≠ o := by
  unfold deliveryOf
  cases r.deliveries <;> simp [List.find?_eq_none, imp_iff_not_or]

theorem deliveryOf_spec (h : deliveryOf r a o = some d) : d ∈ r.deliveries.getD [] ∧ d.side = a ∧ d.role = o := by
  obtain ⟨ds, hds, hfind⟩ := Option.bind_eq_some_iff.1 h
  have htest := List.find?_some hfind
  rw [hds]
  exact ⟨List.mem_of_find?_eq_some hfind, by simpa using htest⟩

/-- A change of every entry that keeps sides and roles changes the entry of each. -/
theorem deliveryOf_mapDeliveries {f : Delivery → Delivery} (hf : ∀ d, (f d).side = d.side ∧ (f d).role = d.role) :
    deliveryOf (r.mapDeliveries f) a o = (deliveryOf r a o).map f := by
  have htest : (fun d : Delivery => decide (d.side = a) && decide (d.role = o)) ∘ f =
      fun d => decide (d.side = a) && decide (d.role = o) := funext fun d => by
    obtain ⟨hside, hrole⟩ := hf d
    rw [Function.comp, hside, hrole]
  unfold deliveryOf Sheet.mapDeliveries
  cases r.deliveries with
  | none => rfl
  | some ds =>
    simp only [Option.map_some, Option.bind_some, List.find?_map]
    rw [htest]

/-- The change of one entry keeps sides and roles. -/
theorem changeOne_keeps {f : Delivery → Delivery} (hf : ∀ d, (f d).side = d.side ∧ (f d).role = d.role) (d : Delivery) :
    (if d.side = a ∧ d.role = o then f d else d).side = d.side ∧ (if d.side = a ∧ d.role = o then f d else d).role = d.role := by
  split
  · exact hf d
  · exact ⟨rfl, rfl⟩

/-- The record with the entry of a side and role changed, as `modDelivery` changes it. -/
def Sheet.changeDelivery (a : Side) (o : Role) (f : Delivery → Delivery) (r : Sheet) : Sheet :=
  r.mapDeliveries fun d => if d.side = a ∧ d.role = o then f d else d

theorem get_sheets_modDelivery_self (f : Delivery → Delivery) (hr : s.sheets.get n = some r) :
    (modDelivery n a o f s).sheets.get n = some (r.changeDelivery a o f) := by
  rw [modDelivery, modSheet_sheets, Tab.get_modify_self, hr, Option.map_some]
  rfl

theorem get_sheets_modDelivery_ne (f : Delivery → Delivery) {k : Nat} (hk : k ≠ n) :
    (modDelivery n a o f s).sheets.get k = s.sheets.get k := by
  rw [modDelivery, modSheet_sheets, Tab.get_modify_other _ _ hk]

theorem changeDelivery_frame (f : Delivery → Delivery) :
    r.changeDelivery a o f = { r with deliveries := (r.changeDelivery a o f).deliveries } := rfl

theorem deliveryOf_changeDelivery_self {f : Delivery → Delivery} (hf : ∀ d, (f d).side = d.side ∧ (f d).role = d.role)
    (h : deliveryOf r a o = some d) : deliveryOf (r.changeDelivery a o f) a o = some (f d) := by
  obtain ⟨-, hd⟩ := deliveryOf_spec h
  rw [Sheet.changeDelivery, deliveryOf_mapDeliveries (changeOne_keeps hf), h, Option.map_some, if_pos hd]

theorem deliveryOf_changeDelivery_ne {f : Delivery → Delivery} {b : Side} {c : Role}
    (hf : ∀ d, (f d).side = d.side ∧ (f d).role = d.role) (hne : b ≠ a ∨ c ≠ o) :
    deliveryOf (r.changeDelivery a o f) b c = deliveryOf r b c := by
  rw [Sheet.changeDelivery, deliveryOf_mapDeliveries (changeOne_keeps hf)]
  cases h : deliveryOf r b c with
  | none => rfl
  | some d =>
    obtain ⟨-, rfl, rfl⟩ := deliveryOf_spec h
    rw [Option.map_some, if_neg (not_and_or.2 hne)]

/-! Placement (R153, R154) -/

theorem placeBack_of_carries {row : Row} (hl : roleLane row d.role = some l) (hs : s.lanes[l].state = .up ∨ s.lanes[l].state = .loopback) :
    placeBack s row d = { d with lane := l, rerouted := false } := by
  rw [placeBack, hl]
  rcases hs with hs | hs <;> (dsimp only; rw [hs]; rfl)

theorem placeBack_of_not {row : Row}
    (hl : ∀ l : Fin 4, roleLane row d.role = some l → s.lanes[l].state ≠ .up ∧ s.lanes[l].state ≠ .loopback) :
    placeBack s row d = d := by
  unfold placeBack
  split
  · next l h =>
    obtain ⟨hup, hloop⟩ := hl l h
    refine if_neg ?_
    cases hs : s.lanes[l].state <;> simp_all [LaneState.carries]
  · rfl

theorem placeBack_keeps (s : State) (row : Row) (d : Delivery) :
    (placeBack s row d).side = d.side ∧ (placeBack s row d).role = d.role := by
  unfold placeBack
  split
  · split <;> exact ⟨rfl, rfl⟩
  · exact ⟨rfl, rfl⟩

/-- A placement asks of the state only which lanes carry deliveries. -/
theorem placeBack_congr {row : Row} (h : ∀ m : Fin 4, t.lanes[m].state = s.lanes[m].state) :
    placeBack t row d = placeBack s row d := by
  unfold placeBack
  split
  · rw [h]
  · rfl

theorem state_failureEffects (l : Fin 4) (s : State) (m : Fin 4) :
    (failureEffects l s).lanes[m].state = s.lanes[m].state := by
  by_cases hm : m = l
  · subst hm
    rw [lanes_failureEffects_self]
    rfl
  · rw [lanes_failureEffects_ne hm]

theorem placeEntry_of_fallback {row : Row} {f : Fin 4} (hd : d.rerouted = false) (hf : row.fallback = some f) :
    placeEntry s row d = { d with lane := f, rerouted := true } := by
  rw [placeEntry, hd, hf]

theorem placeEntry_of_no_fallback {row : Row} (hd : d.rerouted = false) (hf : row.fallback = none) : placeEntry s row d = d := by
  rw [placeEntry, hd, hf]

theorem placeEntry_of_rerouted {row : Row} (hd : d.rerouted = true) : placeEntry s row d = placeBack s row d := by
  rw [placeEntry, hd]

theorem placeEntry_keeps (s : State) (row : Row) (d : Delivery) :
    (placeEntry s row d).side = d.side ∧ (placeEntry s row d).role = d.role := by
  unfold placeEntry
  split
  · exact ⟨rfl, rfl⟩
  · exact ⟨rfl, rfl⟩
  · exact placeBack_keeps s row d

/-- The entry a window gives back, placed by its record's row if it has one. -/
def givenBack (s : State) (row : Option Row) (d : Delivery) : Delivery :=
  match row with
  | some x => placeEntry s x d.back
  | none => d.back

theorem givenBack_keeps (s : State) (row : Option Row) (d : Delivery) :
    (givenBack s row d).side = d.side ∧ (givenBack s row d).role = d.role := by
  cases row with
  | none => exact ⟨rfl, rfl⟩
  | some x => exact placeEntry_keeps s x d.back

/-! One delivery given back -/

theorem sheets_giveBack (l : Fin 4) (s : State) (w : WindowEntry) : (giveBack l s w).sheets =
    (modDelivery w.slot w.side w.role (givenBack s ((s.sheets.get w.slot).bind (planRow s))) s).sheets := by
  unfold giveBack
  dsimp only
  split
  · rw [loseDest_frame]
    rfl
  · rfl

/-- What a record keeps while the deliveries of `ws` are given back, and what each delivery of the record becomes. -/
structure GivenBack (s : State) (ws : List WindowEntry) (n : Nat) (r q : Sheet) : Prop where
  frame : q = { r with deliveries := q.deliveries }
  placed : ∀ w ∈ ws, w.slot = n → ∀ d row, deliveryOf r w.side w.role = some d → planRow s r = some row →
    deliveryOf q w.side w.role = some (placeEntry s row d.back)
  others : ∀ a o, (∀ w ∈ ws, w.slot = n → w.side ≠ a ∨ w.role ≠ o) → deliveryOf q a o = deliveryOf r a o

theorem foldl_giveBack_spec (l : Fin 4) (ws : List WindowEntry) (s : State)
    (hnodup : (ws.map fun w => (w.slot, w.side, w.role)).Nodup) (hr : s.sheets.get n = some r) :
    ∃ q, (ws.foldl (giveBack l) s).sheets.get n = some q ∧ GivenBack s ws n r q := by
  induction ws generalizing s r with
  | nil => exact ⟨r, hr, rfl, nofun, fun _ _ _ => rfl⟩
  | cons w ws ih =>
    rw [List.map_cons, List.nodup_cons] at hnodup
    obtain ⟨hw, hnodup⟩ := hnodup
    have hapart : ∀ v ∈ ws, v.slot = w.slot → w.side ≠ v.side ∨ w.role ≠ v.role := fun v hv hslot => by
      by_contra hsame
      simp only [not_or, not_not, ne_eq] at hsame
      exact hw (List.mem_map.2 ⟨v, hv, by rw [hslot, hsame.1, hsame.2]⟩)
    have hplace : ∀ row d, placeEntry (giveBack l s w) row d = placeEntry s row d := fun row d => by
      rw [giveBack_frame]
      rfl
    have hplan : ∀ r, planRow (giveBack l s w) r = planRow s r := fun r => by
      rw [giveBack_frame]
      rfl
    by_cases hn : w.slot = n
    · subst hn
      have hkeeps := givenBack_keeps s ((s.sheets.get w.slot).bind (planRow s))
      have hget := sheets_giveBack l s w ▸ get_sheets_modDelivery_self (s := s) (a := w.side) (o := w.role) (givenBack s _) hr
      obtain ⟨q, hq, hframe, hplaced, hothers⟩ := ih (giveBack l s w) hnodup hget
      refine ⟨q, hq, hframe, fun v hv hslot d row hd hrow => ?_, fun a o hao => ?_⟩
      · rcases List.mem_cons.1 hv with rfl | hv
        · rw [hothers _ _ (fun u hu huslot => (hapart u hu huslot).imp Ne.symm Ne.symm),
            deliveryOf_changeDelivery_self hkeeps hd, hr, Option.bind_some, hrow]
          rfl
        · rw [hplaced v hv hslot d row ?_ ?_, hplace]
          · rw [deliveryOf_changeDelivery_ne hkeeps ((hapart v hv hslot).imp Ne.symm Ne.symm)]
            exact hd
          · exact (hplan _).trans hrow
      · rw [hothers a o fun v hv => hao v (List.mem_cons_of_mem w hv),
          deliveryOf_changeDelivery_ne hkeeps ((hao w List.mem_cons_self rfl).imp Ne.symm Ne.symm)]
    · have hget : (giveBack l s w).sheets.get n = some r := by
        rw [sheets_giveBack, get_sheets_modDelivery_ne _ (Ne.symm hn)]
        exact hr
      obtain ⟨q, hq, hframe, hplaced, hothers⟩ := ih (giveBack l s w) hnodup hget
      refine ⟨q, hq, hframe, fun v hv hslot d row hd hrow => ?_, fun a o hao => hothers a o fun v hv =>
        hao v (List.mem_cons_of_mem w hv)⟩
      rcases List.mem_cons.1 hv with rfl | hv
      · exact absurd hslot hn
      · rw [hplaced v hv hslot d row hd ((hplan r).trans hrow), hplace]

/-! The uploads that lose the lane (R141, R153) -/

/-- No upload has the lane as a destination. -/
def NoDest (l : Fin 4) (s : State) : Prop := ∀ p ∈ s.uploads, ∀ d ∈ p.2.dests, d.1 ≠ l

theorem loseDest_of_noDest (h : NoDest l s) : loseDest l s = s := loseDest_of_none (uploaderOf_eq_none.2 h)

theorem dests_judgeGo {p : Nat × Upload} (hp : p ∈ (judgeGo e s).uploads) :
    ∃ u, (p.1, u) ∈ s.uploads ∧ p.2.dests = u.dests := by
  cases hu : s.uploads.get e with
  | none =>
    rw [judgeGo_of_none hu] at hp
    exact ⟨p.2, hp, rfl⟩
  | some u =>
    rw [judgeGo_of_get hu] at hp
    split at hp
    · rw [onQueues_uploads, modUpload_uploads] at hp
      obtain ⟨v, hv, rfl⟩ := List.mem_map.1 hp
      refine ⟨v.2, ?_, ?_⟩ <;> split
      · exact hv
      · exact hv
      · rfl
      · rfl
    · exact ⟨p.2, hp, rfl⟩

/-- Where at most one upload has the lane, its loss leaves none. -/
theorem noDest_loseDest (hwf : Tab.wf Config.entryCount s.uploads)
    (hone : ∀ p ∈ s.uploads, ∀ q ∈ s.uploads, (∃ d ∈ p.2.dests, d.1 = l) → (∃ d ∈ q.2.dests, d.1 = l) → p = q) :
    NoDest l (loseDest l s) := by
  cases he : uploaderOf s l with
  | none =>
    rw [loseDest_of_none he]
    exact uploaderOf_eq_none.1 he
  | some e =>
    obtain ⟨u, hu, hdest⟩ := uploaderOf_spec he
    have hnot : ∀ p ∈ (withoutDest l e s).uploads, ∀ d ∈ p.2.dests, d.1 ≠ l := fun p hp d hd hdl => by
      rw [withoutDest, modUpload_uploads] at hp
      obtain ⟨v, hv, rfl⟩ := List.mem_map.1 hp
      split at hd
      · exact of_decide_eq_true (List.mem_filter.1 hd).2 hdl
      · next hkey => exact hkey (congrArg Prod.fst (hone v hv (e, u) hu ⟨d, hd, hdl⟩ hdest))
    rw [loseDest_of_some he (Tab.get_of_mem hwf hu)]
    split
    · rw [endUpload_frame]
      exact fun p hp => hnot p (Tab.mem_of_mem_del hp)
    · intro p hp
      obtain ⟨v, hv, hsame⟩ := dests_judgeGo hp
      rw [hsame]
      exact hnot _ hv

theorem giveBack_of_transmitting (h : w.phase = .transmitting) : giveBack l s w =
    loseDest l (modDelivery w.slot w.side w.role (givenBack s ((s.sheets.get w.slot).bind (planRow s))) s) := if_pos h

theorem giveBack_of_not (h : w.phase ≠ .transmitting) : giveBack l s w =
    modDelivery w.slot w.side w.role (givenBack s ((s.sheets.get w.slot).bind (planRow s))) s := if_neg h

theorem noDest_giveBack (h : NoDest l s) : NoDest l (giveBack l s w) := by
  by_cases hw : w.phase = .transmitting
  · rw [giveBack_of_transmitting hw, loseDest_of_noDest (s := modDelivery _ _ _ _ s) h]
    exact h
  · rw [giveBack_of_not hw]
    exact h

theorem noDest_foldl_giveBack (ws : List WindowEntry) (s : State) (h : NoDest l s) : NoDest l (ws.foldl (giveBack l) s) := by
  induction ws generalizing s with
  | nil => exact h
  | cons w ws ih => exact ih _ (noDest_giveBack h)

theorem noDest_of_transmitting (ws : List WindowEntry) (s : State) (hwf : Tab.wf Config.entryCount s.uploads)
    (hone : ∀ p ∈ s.uploads, ∀ q ∈ s.uploads, (∃ d ∈ p.2.dests, d.1 = l) → (∃ d ∈ q.2.dests, d.1 = l) → p = q)
    (hw : ∃ w ∈ ws, w.phase = .transmitting) : NoDest l (ws.foldl (giveBack l) s) := by
  induction ws generalizing s with
  | nil =>
    obtain ⟨w, hw, -⟩ := hw
    cases hw
  | cons v ws ih =>
    by_cases hv : v.phase = .transmitting
    · refine noDest_foldl_giveBack ws _ ?_
      rw [giveBack_of_transmitting hv]
      exact noDest_loseDest hwf hone
    · obtain ⟨w, hmem, hphase⟩ := hw
      have hin : w ∈ ws := (List.mem_cons.1 hmem).resolve_left fun h => hv (h ▸ hphase)
      rw [List.foldl_cons]
      refine ih _ ?_ ?_ ⟨w, hin, hphase⟩ <;> rw [giveBack_of_not hv]
      · exact hwf
      · exact hone

theorem foldl_giveBack_of_quiet (ws : List WindowEntry) (s : State) (hw : ∀ w ∈ ws, w.phase ≠ .transmitting) :
    (ws.foldl (giveBack l) s).uploads = s.uploads ∧ (ws.foldl (giveBack l) s).ports = s.ports := by
  induction ws generalizing s with
  | nil => exact ⟨rfl, rfl⟩
  | cons w ws ih =>
    obtain ⟨huploads, hports⟩ := ih (giveBack l s w) fun v hv => hw v (List.mem_cons_of_mem w hv)
    rw [giveBack_of_not (hw w List.mem_cons_self)] at huploads hports
    rw [List.foldl_cons, giveBack_of_not (hw w List.mem_cons_self)]
    exact ⟨huploads, hports⟩

/-! A reset places the waiting rerouted entries again (R154) -/

/-- The record as a reset of lane `l` leaves it. -/
def replaced (l : Fin 4) (s : State) (r : Sheet) : Sheet :=
  match planRow s r with
  | some row => r.mapDeliveries (replaceEntry l s row)
  | none => r

theorem get_sheets_replaceWaiting_self (hr : s.sheets.get n = some r) :
    (replaceWaiting l s n).sheets.get n = some (replaced l s r) := by
  unfold replaceWaiting replaced
  rw [hr, Option.bind_some]
  cases planRow s r with
  | none => exact hr
  | some row => rw [modSheet_sheets, Tab.get_modify_self, hr, Option.map_some]

theorem get_sheets_replaceWaiting_ne {k : Nat} (hk : k ≠ n) : (replaceWaiting l s n).sheets.get k = s.sheets.get k := by
  unfold replaceWaiting
  split
  · rw [modSheet_sheets, Tab.get_modify_other _ _ hk]
  · rfl

theorem replaced_replaceWaiting (n : Nat) : replaced l (replaceWaiting l s n) = replaced l s := by
  rw [replaceWaiting_frame]
  rfl

theorem replaceWaiting_of_none (hr : s.sheets.get n = none) : replaceWaiting l s n = s := by
  rw [replaceWaiting, hr]
  rfl

theorem get_sheets_foldl_replaceWaiting {ns : List Nat} (hns : ns.Nodup) (s : State) (n : Nat) :
    (ns.foldl (replaceWaiting l) s).sheets.get n =
      if n ∈ ns then (s.sheets.get n).map (replaced l s) else s.sheets.get n := by
  induction ns generalizing s with
  | nil => rfl
  | cons k ns ih =>
    rw [List.nodup_cons] at hns
    obtain ⟨hk, hns⟩ := hns
    rw [List.foldl_cons, ih hns, replaced_replaceWaiting]
    by_cases hn : n = k
    · subst hn
      rw [if_neg hk, if_pos List.mem_cons_self]
      cases hr : s.sheets.get n with
      | none => rw [replaceWaiting_of_none hr, hr, Option.map_none]
      | some r => rw [get_sheets_replaceWaiting_self hr, Option.map_some]
    · simp only [get_sheets_replaceWaiting_ne hn, List.mem_cons, hn, false_or]

theorem keys_giveBack (l : Fin 4) (s : State) (w : WindowEntry) :
    (giveBack l s w).sheets.map Prod.fst = s.sheets.map Prod.fst := by
  rw [sheets_giveBack]
  exact Tab.keys_modify _ _ _

theorem keys_failureEffects (l : Fin 4) (s : State) : (failureEffects l s).sheets.map Prod.fst = s.sheets.map Prod.fst := by
  rw [failureEffects, modLane_sheets]
  generalize s.lanes[l].window = ws
  induction ws generalizing s with
  | nil => rfl
  | cons w ws ih => rw [List.foldl_cons, ih, keys_giveBack]

/-! A lost line (R145) -/

theorem loseLine_of_failing (hs : s.lanes[l].state = .up) (hw : s.lanes[l].window ≠ []) : loseLine l s = failLane l s := by
  rw [loseLine, hs]
  exact if_neg (by rwa [List.isEmpty_iff])

theorem loseLine_of_down (hs : s.lanes[l].state = .aligning ∨ s.lanes[l].state = .suspended ∨
    (s.lanes[l].state = .up ∧ s.lanes[l].window = [])) : loseLine l s = modLane l Lane.toDown s := by
  rcases hs with hs | hs | ⟨hs, hw⟩
  · rw [loseLine, hs]
  · rw [loseLine, hs]
  · rw [loseLine, hs, hw]
    rfl

theorem roleLane_eq (row : Row) (o : Role) : roleLane row o = if o = .primary then row.primary else row.copy := by
  cases o <;> rfl

/-- Settles O59: placement, the failure effects, a lost line and a reset. -/
theorem failedLanesGiveBack : Obligations.FailedLanesGiveBack := by
  unfold Obligations.FailedLanesGiveBack
  refine ⟨fun s row d => ⟨fun f => placeEntry_of_fallback, placeEntry_of_no_fallback, fun m hm => ?_⟩, ?_, fun l s => ⟨rfl, fun down hdown =>
    ⟨fun hs => ?_, loseLine_of_failing, fun ht => ?_⟩⟩, fun l s ht => replies_of (owner := ownResetLane) ht (withLane_val l _)⟩
  · rw [← roleLane_eq] at hm
    subst hm
    refine ⟨fun l hl hs => ⟨fun hd => ?_, placeBack_of_carries hl hs⟩, fun hl => ⟨fun hd => ?_, placeBack_of_not hl⟩⟩
    · exact (placeEntry_of_rerouted hd).trans (placeBack_of_carries hl hs)
    · exact (placeEntry_of_rerouted hd).trans (placeBack_of_not hl)
  · rintro l s u rfl
    refine ⟨failureEffects_frame l s, lanes_failureEffects_self l s, fun m => lanes_failureEffects_ne, fun hnodup n r hr => ?_,
      fun hw => foldl_giveBack_of_quiet _ s hw, fun hw ht hone => noDest_of_transmitting _ s ht.2.2.2.2 hone hw⟩
    obtain ⟨q, hq, hframe, hplaced, hothers⟩ := foldl_giveBack_spec l s.lanes[l].window s hnodup hr
    exact ⟨q, hq, hframe, hplaced, hothers⟩
  · rw [loseLine_of_down hs, hdown]
    rfl
  · have hkeys : ((failureEffects l s).sheets.map Prod.fst).Nodup := by
      rw [keys_failureEffects]
      exact (sheetsWf ht).1.imp Nat.ne_of_lt
    obtain ⟨v, hv⟩ : ∃ v, ((failureEffects l s).sheets.map Prod.fst).foldl (replaceWaiting l) (failureEffects l s) = v := ⟨_, rfl⟩
    have hframe : v = { failureEffects l s with sheets := v.sheets } := hv ▸ foldl_replaceWaiting_frame l _ _
    have hget : ∀ n, v.sheets.get n = ((failureEffects l s).sheets.get n).map (replaced l (failureEffects l s)) := fun n => by
      rw [← hv, get_sheets_foldl_replaceWaiting hkeys]
      split
      · rfl
      · next hn => rw [Tab.get_eq_none.2 hn, Option.map_none]
    refine ⟨failureEffects l s, v, rfl, ?_, hframe, fun n => ⟨fun hr => ?_, fun r hr => ⟨fun hrow => ?_, fun row hrow => ?_⟩⟩⟩
    · rw [resetLane, hv, hdown]
      rfl
    · rw [hget, hr, Option.map_none]
    · rw [hget, hr, Option.map_some, replaced, hrow]
    · have hplace : replaceEntry l (failureEffects l s) row = fun d =>
          if d.lane = l ∧ d.status = .waiting ∧ d.rerouted = true then placeBack s row d else d := funext fun d => by
        rw [replaceEntry, placeBack_congr (state_failureEffects l s)]
      rw [hget, hr, Option.map_some, replaced, hrow, ← hplace]
      rfl

end Sys2Proof.Machine
end

section
/-! Deliveries abandoned on their lanes: what an abandonment, the end of an upload and a withdrawal leave in the record, the
windows and the FIFOs (R43a, R140, R148). -/

set_option Elab.async false

namespace Sys2Proof.Machine

variable {s t u : State} {l : Fin 4} {x y : Lane} {k m : DelivNo} {r : Sheet} {n e : Nat} {d : Delivery} {a : Side} {o : Role}
  {told : Prop} {ds : List (Fin 4 × Role)}

/-! Abandoning on one lane (R148) -/

theorem settleSuspend_frame (x : Lane) : x.settleSuspend = { x with
    state := x.settleSuspend.state, suspendPending := x.settleSuspend.suspendPending, silence := x.settleSuspend.silence
    malformed := x.settleSuspend.malformed } := by
  unfold Lane.settleSuspend
  split <;> rfl

theorem settleSuspend_ne_loopback (h : x.state ≠ .loopback) : x.settleSuspend.state ≠ .loopback := by
  unfold Lane.settleSuspend
  split
  · nofun
  · exact h

theorem abandon_window (k : DelivNo) (x : Lane) : (x.abandon k).window = x.window.filter fun w => decide (w.number ≠ k) := by
  rw [Lane.abandon, settleSuspend_frame, Lane.addCtrl_eq]
  rfl

theorem abandon_fifo (k : DelivNo) (x : Lane) : (x.abandon k).fifo = x.fifo.filter fun c => decide (c.1 ≠ k) := by
  rw [Lane.abandon, settleSuspend_frame, Lane.addCtrl_eq]
  rfl

theorem abandon_counters (k : DelivNo) (x : Lane) :
    (x.abandon k).counters = { x.counters with abandoned := bump x.counters.abandoned } := by
  rw [Lane.abandon, settleSuspend_frame, Lane.addCtrl_eq]
  rfl

theorem abandon_ctrl (hx : x.state ≠ .loopback) :
    (x.abandon k).ctrl = (x.ctrl.filter fun c => !c.offersOrEnds k) ++ [.abandon k] := by
  rw [Lane.abandon, settleSuspend_frame, Lane.addCtrl]
  exact congrArg Lane.ctrl (if_neg hx)

theorem abandon_ctrl_of_loopback (hx : x.state = .loopback) :
    (x.abandon k).ctrl = x.ctrl.filter fun c => !c.offersOrEnds k := by
  rw [Lane.abandon, settleSuspend_frame, Lane.addCtrl]
  exact congrArg Lane.ctrl (if_pos hx)

theorem abandon_ne_loopback (hx : x.state ≠ .loopback) : (x.abandon k).state ≠ .loopback := by
  rw [Lane.abandon]
  refine settleSuspend_ne_loopback ?_
  rw [Lane.addCtrl_eq]
  exact hx

/-- Delivery `m` is off the lane, and the archive is told where `told` holds. -/
structure Abandoned (m : DelivNo) (told : Prop) (y : Lane) : Prop where
  window : ∀ w ∈ y.window, w.number ≠ m
  fifo : ∀ c ∈ y.fifo, c.1 ≠ m
  ctrl : told → .abandon m ∈ y.ctrl

theorem abandoned_abandon_self (hx : told → x.state ≠ .loopback) : Abandoned m told (x.abandon m) where
  window w hw := by
    rw [abandon_window] at hw
    exact of_decide_eq_true (List.mem_filter.1 hw).2
  fifo c hc := by
    rw [abandon_fifo] at hc
    exact of_decide_eq_true (List.mem_filter.1 hc).2
  ctrl h := by
    rw [abandon_ctrl (hx h)]
    exact List.mem_append_right _ (List.mem_singleton.2 rfl)

theorem Abandoned.abandon (h : Abandoned m told x) (k : DelivNo) : Abandoned m told (x.abandon k) where
  window w hw := by
    rw [abandon_window] at hw
    exact h.window w (List.mem_filter.1 hw).1
  fifo c hc := by
    rw [abandon_fifo] at hc
    exact h.fifo c (List.mem_filter.1 hc).1
  ctrl ht := by
    have hkept : CtrlWord.abandon m ∈ x.ctrl.filter fun c => !c.offersOrEnds k := List.mem_filter.2 ⟨h.ctrl ht, rfl⟩
    by_cases hx : x.state = .loopback
    · rw [abandon_ctrl_of_loopback hx]
      exact hkept
    · rw [abandon_ctrl hx]
      exact List.mem_append_left _ hkept

/-! Steps that only abandon -/

/-- From `s` to `t` an abandoned delivery stays abandoned, and no lane enters LOOPBACK. -/
structure Abandons (s t : State) : Prop where
  keeps : ∀ (l : Fin 4) (m : DelivNo) (told : Prop), Abandoned m told s.lanes[l] → Abandoned m told t.lanes[l]
  state : ∀ l : Fin 4, s.lanes[l].state ≠ .loopback → t.lanes[l].state ≠ .loopback

theorem Abandons.of_lanes (h : t.lanes = s.lanes := by rfl) : Abandons s t :=
  ⟨fun _ _ _ hm => h ▸ hm, fun _ hl => h ▸ hl⟩

theorem Abandons.refl (s : State) : Abandons s s := .of_lanes

theorem Abandons.trans (h : Abandons s t) (i : Abandons t u) : Abandons s u :=
  ⟨fun l m told hm => i.keeps l m told (h.keeps l m told hm), fun l hl => i.state l (h.state l hl)⟩

theorem abandons_foldl {α : Type} {f : State → α → State} (hf : ∀ t b, Abandons t (f t b)) (bs : List α) (s : State) :
    Abandons s (bs.foldl f s) := by
  induction bs generalizing s with
  | nil => exact .refl s
  | cons b bs ih => exact (hf s b).trans (ih _)

theorem abandonOn_of_number (hd : d.onLane = true) (hm : d.number = some m) :
    abandonOn d s = modLane d.lane (Lane.abandon m) s := by
  rw [abandonOn, hd, hm]

theorem abandonOn_of_not (h : d.onLane = false ∨ d.number = none) : abandonOn d s = s := by
  unfold abandonOn
  split
  · next hd hm => exact h.elim (fun h => nomatch h.symm.trans hd) fun h => nomatch h.symm.trans hm
  · rfl

theorem abandonOn_cases (d : Delivery) (s : State) : abandonOn d s = s ∨
    ∃ m, d.number = some m ∧ abandonOn d s = modLane d.lane (Lane.abandon m) s := by
  cases hd : d.onLane with
  | false => exact .inl (abandonOn_of_not (.inl hd))
  | true =>
    cases hm : d.number with
    | none => exact .inl (abandonOn_of_not (.inr hm))
    | some m => exact .inr ⟨m, rfl, abandonOn_of_number hd hm⟩

theorem abandonOn_frame (d : Delivery) (s : State) : abandonOn d s = { s with lanes := (abandonOn d s).lanes } := by
  rcases abandonOn_cases d s with h | ⟨m, -, h⟩ <;> rw [h]
  rfl

theorem abandons_abandonOn (d : Delivery) (s : State) : Abandons s (abandonOn d s) := by
  rcases abandonOn_cases d s with h | ⟨k, -, h⟩ <;> rw [h]
  · exact .refl s
  · constructor
    · intro l m told hm
      rw [getElem_modLane]
      split
      · next hl => exact (hl ▸ hm).abandon k
      · exact hm
    · intro l hl
      rw [getElem_modLane]
      split
      · next hd => exact abandon_ne_loopback (hd ▸ hl)
      · exact hl

theorem abandoned_abandonOn (hd : d.onLane = true) (hm : d.number = some m) (ht : told → s.lanes[d.lane].state ≠ .loopback) :
    Abandoned m told (abandonOn d s).lanes[d.lane] := by
  rw [abandonOn_of_number hd hm, getElem_modLane_self]
  exact abandoned_abandon_self ht

theorem abandoned_foldl_abandonOn {l : List Delivery} (hmem : d ∈ l) (hd : d.onLane = true) (hm : d.number = some m)
    (ht : told → s.lanes[d.lane].state ≠ .loopback) :
    Abandoned m told (l.foldl (fun t d => abandonOn d t) s).lanes[d.lane] := by
  induction l generalizing s with
  | nil => cases hmem
  | cons c l ih =>
    rcases List.mem_cons.1 hmem with rfl | hmem
    · exact (abandons_foldl (fun t d => abandons_abandonOn d t) l _).keeps _ _ _ (abandoned_abandonOn hd hm ht)
    · exact ih hmem fun h => (abandons_abandonOn c s).state _ (ht h)

theorem foldl_abandonOn_frame (l : List Delivery) (s : State) : l.foldl (fun t d => abandonOn d t) s =
    { s with lanes := (l.foldl (fun t d => abandonOn d t) s).lanes } := by
  induction l generalizing s with
  | nil => rfl
  | cons d l ih =>
    obtain ⟨v, hv⟩ : ∃ v, (d :: l).foldl (fun t d => abandonOn d t) s = v := ⟨_, rfl⟩
    have hstep : v = { abandonOn d s with lanes := v.lanes } := hv ▸ ih (abandonOn d s)
    rw [hv]
    exact hstep.trans (congrArg (fun t : State => { t with lanes := v.lanes }) (abandonOn_frame d s))

/-! The destinations of an upload (R140) -/

theorem Delivery.back_keeps (d : Delivery) : d.back.side = d.side ∧ d.back.role = d.role := ⟨rfl, rfl⟩

theorem mapDeliveries_mapDeliveries (f g : Delivery → Delivery) :
    (r.mapDeliveries f).mapDeliveries g = r.mapDeliveries (g ∘ f) := by
  simp only [Sheet.mapDeliveries, Option.map_map, List.map_comp_map]

theorem mapDeliveries_congr {f g : Delivery → Delivery} (h : ∀ d ∈ r.deliveries.getD [], f d = g d) :
    r.mapDeliveries f = r.mapDeliveries g := by
  unfold Sheet.mapDeliveries
  cases hr : r.deliveries with
  | none => rfl
  | some l =>
    have hall : ∀ d ∈ l, f d = g d := fun d hd => h d (by rw [hr]; exact hd)
    rw [Option.map_some, Option.map_some, List.map_congr_left hall]

theorem mapDeliveries_of_fixed {f : Delivery → Delivery} (h : ∀ d ∈ r.deliveries.getD [], f d = d) : r.mapDeliveries f = r := by
  rw [mapDeliveries_congr (g := id) h]
  unfold Sheet.mapDeliveries
  rw [List.map_id_fun, Option.map_id_fun]
  rfl

theorem changeDelivery_of_none {f : Delivery → Delivery} (h : deliveryOf r a o = none) : r.changeDelivery a o f = r :=
  mapDeliveries_of_fixed fun d hd => if_neg fun ⟨hside, hrole⟩ => (deliveryOf_eq_none.1 h d hd).elim (· hside) (· hrole)

theorem abandonDest_of_some {c : Fin 4 × Role} (hr : s.sheets.get n = some r) (hd : deliveryOf r a c.2 = some d) :
    abandonDest n a s c = modDelivery n a c.2 Delivery.back (abandonOn d s) := by
  rw [abandonDest, hr, Option.bind_some, hd]

theorem abandonDest_of_none {c : Fin 4 × Role} (h : (s.sheets.get n).bind (fun r => deliveryOf r a c.2) = none) :
    abandonDest n a s c = s := by
  rw [abandonDest, h]

theorem abandonDest_frame (n : Nat) (a : Side) (s : State) (c : Fin 4 × Role) : abandonDest n a s c =
    { s with sheets := (abandonDest n a s c).sheets, lanes := (abandonDest n a s c).lanes } := by
  unfold abandonDest
  split
  · rfl
  · rw [abandonOn_frame]
    rfl

theorem get_sheets_abandonDest_self (c : Fin 4 × Role) (hr : s.sheets.get n = some r) :
    (abandonDest n a s c).sheets.get n = some (r.changeDelivery a c.2 Delivery.back) := by
  cases hd : deliveryOf r a c.2 with
  | none => rw [abandonDest_of_none (by rw [hr, Option.bind_some, hd]), changeDelivery_of_none hd, hr]
  | some d =>
    rw [abandonDest_of_some hr hd]
    refine get_sheets_modDelivery_self _ ?_
    rw [abandonOn_frame]
    exact hr

theorem get_sheets_abandonDest_ne {i : Nat} (c : Fin 4 × Role) (hi : i ≠ n) :
    (abandonDest n a s c).sheets.get i = s.sheets.get i := by
  unfold abandonDest
  split
  · rfl
  · rw [get_sheets_modDelivery_ne _ hi, abandonOn_frame]

theorem abandons_abandonDest (n : Nat) (a : Side) (s : State) (c : Fin 4 × Role) : Abandons s (abandonDest n a s c) := by
  unfold abandonDest
  split
  · exact .refl s
  · exact (abandons_abandonOn _ s).trans .of_lanes

/-- An entry of the destinations given back. -/
def destBack (a : Side) (ds : List (Fin 4 × Role)) (d : Delivery) : Delivery :=
  if d.side = a ∧ d.role ∈ ds.map Prod.snd then d.back else d

theorem destBack_keeps (a : Side) (ds : List (Fin 4 × Role)) (d : Delivery) :
    (destBack a ds d).side = d.side ∧ (destBack a ds d).role = d.role := by
  unfold destBack
  split <;> exact ⟨rfl, rfl⟩

theorem destBack_cons (a : Side) (c : Fin 4 × Role) (ds : List (Fin 4 × Role)) (d : Delivery) :
    destBack a ds (if d.side = a ∧ d.role = c.2 then d.back else d) = destBack a (c :: ds) d := by
  by_cases hc : d.side = a ∧ d.role = c.2
  · have hmem : d.side = a ∧ d.role ∈ (c :: ds).map Prod.snd := ⟨hc.1, List.mem_cons.2 (.inl hc.2)⟩
    rw [if_pos hc, destBack, destBack, if_pos hmem]
    exact ite_self _
  · rw [if_neg hc, destBack, destBack]
    refine if_congr (and_congr_right fun hside => ?_) rfl rfl
    rw [List.map_cons, List.mem_cons, or_iff_right fun h => hc ⟨hside, h⟩]

theorem get_sheets_foldl_abandonDest_self (ds : List (Fin 4 × Role)) (hr : s.sheets.get n = some r) :
    (ds.foldl (abandonDest n a) s).sheets.get n = some (r.mapDeliveries (destBack a ds)) := by
  induction ds generalizing s r with
  | nil =>
    have hnone : r.mapDeliveries (destBack a []) = r := mapDeliveries_of_fixed fun d _ => if_neg fun h => nomatch h.2
    rw [hnone]
    exact hr
  | cons c ds ih =>
    rw [List.foldl_cons, ih (get_sheets_abandonDest_self c hr), Sheet.changeDelivery, mapDeliveries_mapDeliveries]
    exact congrArg some (mapDeliveries_congr fun d _ => destBack_cons a c ds d)

theorem get_sheets_foldl_abandonDest_ne {i : Nat} (ds : List (Fin 4 × Role)) (hi : i ≠ n) (s : State) :
    (ds.foldl (abandonDest n a) s).sheets.get i = s.sheets.get i := by
  induction ds generalizing s with
  | nil => rfl
  | cons c ds ih => rw [List.foldl_cons, ih, get_sheets_abandonDest_ne c hi]

theorem foldl_abandonDest_frame (n : Nat) (a : Side) (ds : List (Fin 4 × Role)) (s : State) : ds.foldl (abandonDest n a) s =
    { s with sheets := (ds.foldl (abandonDest n a) s).sheets, lanes := (ds.foldl (abandonDest n a) s).lanes } := by
  induction ds generalizing s with
  | nil => rfl
  | cons c ds ih =>
    obtain ⟨v, hv⟩ : ∃ v, (c :: ds).foldl (abandonDest n a) s = v := ⟨_, rfl⟩
    have hstep : v = { abandonDest n a s c with sheets := v.sheets, lanes := v.lanes } := hv ▸ ih (abandonDest n a s c)
    rw [hv]
    exact hstep.trans (congrArg (fun t : State => { t with sheets := v.sheets, lanes := v.lanes }) (abandonDest_frame n a s c))

/-- The destinations' deliveries are in flight, each on its destination's lane. -/
def DestsFly (a : Side) (ds : List (Fin 4 × Role)) (r : Sheet) : Prop :=
  ∀ c ∈ ds, ∃ z m, deliveryOf r a c.2 = some z ∧ z.lane = c.1 ∧ z.status = .inFlight ∧ z.number = some m

theorem DestsFly.tail {c : Fin 4 × Role} (h : DestsFly a (c :: ds) r) (hc : c.2 ∉ ds.map Prod.snd) :
    DestsFly a ds (r.changeDelivery a c.2 Delivery.back) := fun b hb => by
  have hne : b.2 ≠ c.2 := fun h => hc (h ▸ List.mem_map_of_mem hb)
  rw [deliveryOf_changeDelivery_ne Delivery.back_keeps (.inr hne)]
  exact h b (List.mem_cons_of_mem c hb)

theorem lanes_abandonDest {c : Fin 4 × Role} (hr : s.sheets.get n = some r) (hd : deliveryOf r a c.2 = some d)
    (hl : d.lane = c.1) (hs : d.status = .inFlight) (hm : d.number = some m) :
    (abandonDest n a s c).lanes = (modLane c.1 (Lane.abandon m) s).lanes := by
  rw [abandonDest_of_some hr hd, abandonOn_of_number (by rw [Delivery.onLane, hs]) hm, hl]
  rfl

theorem lanes_foldl_abandonDest_ne (hroles : (ds.map Prod.snd).Nodup) (hr : s.sheets.get n = some r) (hfly : DestsFly a ds r)
    (hl : ∀ c ∈ ds, c.1 ≠ l) : (ds.foldl (abandonDest n a) s).lanes[l] = s.lanes[l] := by
  induction ds generalizing s r with
  | nil => rfl
  | cons c ds ih =>
    rw [List.map_cons, List.nodup_cons] at hroles
    obtain ⟨z, m, hz, hlane, hstatus, hm⟩ := hfly c List.mem_cons_self
    rw [List.foldl_cons, ih hroles.2 (get_sheets_abandonDest_self c hr) (hfly.tail hroles.1) fun b hb =>
      hl b (List.mem_cons_of_mem c hb), lanes_abandonDest hr hz hlane hstatus hm]
    exact getElem_modLane_ne _ _ (hl c List.mem_cons_self).symm

/-- The lane of each destination, where no two share a lane or a role. -/
theorem lanes_foldl_abandonDest_self (hlanes : (ds.map Prod.fst).Nodup) (hroles : (ds.map Prod.snd).Nodup)
    (hr : s.sheets.get n = some r) (hfly : DestsFly a ds r) {c : Fin 4 × Role} (hc : c ∈ ds)
    (hd : deliveryOf r a c.2 = some d) (hm : d.number = some m) :
    (ds.foldl (abandonDest n a) s).lanes[c.1] = s.lanes[c.1].abandon m := by
  induction ds generalizing s r with
  | nil => cases hc
  | cons b ds ih =>
    rw [List.map_cons, List.nodup_cons] at hlanes hroles
    obtain ⟨z, k, hz, hlane, hstatus, hk⟩ := hfly b List.mem_cons_self
    have hget := get_sheets_abandonDest_self (a := a) b hr
    have htail := hfly.tail hroles.1
    rw [List.foldl_cons]
    rcases List.mem_cons.1 hc with rfl | hc
    · obtain rfl : d = z := Option.some.inj (hd.symm.trans hz)
      have hne : ∀ i ∈ ds, i.1 ≠ c.1 := fun i hi h => hlanes.1 (h ▸ List.mem_map_of_mem hi)
      rw [lanes_foldl_abandonDest_ne hroles.2 hget htail hne, lanes_abandonDest hr hd hlane hstatus hm]
      exact getElem_modLane_self _ _ _
    · have hrole : c.2 ≠ b.2 := fun h => hroles.1 (h ▸ List.mem_map_of_mem hc)
      have hne : c.1 ≠ b.1 := fun h => hlanes.1 (h ▸ List.mem_map_of_mem hc)
      rw [ih hlanes.2 hroles.2 hget htail hc (by
        rw [deliveryOf_changeDelivery_ne Delivery.back_keeps (.inr hrole)]; exact hd), lanes_abandonDest hr hz hlane hstatus hk]
      exact congrArg (Lane.abandon m) (getElem_modLane_ne _ _ hne)

/-- A delivery in flight to a destination is off its lane. -/
theorem abandoned_foldl_abandonDest {c : Fin 4 × Role} (hr : s.sheets.get n = some r) (hc : c ∈ ds)
    (hd : deliveryOf r a c.2 = some d) (hs : d.onLane = true) (hm : d.number = some m)
    (ht : told → s.lanes[d.lane].state ≠ .loopback) : Abandoned m told (ds.foldl (abandonDest n a) s).lanes[d.lane] := by
  induction ds generalizing s r with
  | nil => cases hc
  | cons b ds ih =>
    by_cases hrole : c.2 = b.2
    · refine (abandons_foldl (abandons_abandonDest n a) ds _).keeps _ _ _ ?_
      rw [abandonDest_of_some hr (hrole ▸ hd)]
      exact abandoned_abandonOn hs hm ht
    · have hc : c ∈ ds := (List.mem_cons.1 hc).resolve_left fun h => hrole (h ▸ rfl)
      refine ih (get_sheets_abandonDest_self b hr) hc ?_ fun h => (abandons_abandonDest n a s b).state _ (ht h)
      rw [deliveryOf_changeDelivery_ne Delivery.back_keeps (.inr hrole)]
      exact hd

end Sys2Proof.Machine
end

section
/-! What answers, ends of uploads and failures leave in the delivery entry, the window and the counters (R43a, R138, R140,
R148–R150, R155, R156). -/

set_option Elab.async false

namespace Sys2Proof.Machine

variable {s t u : State} {l : Fin 4} {x y : Lane} {w : WindowEntry} {m : DelivNo} {r q : Sheet} {n e : Nat} {d : Delivery}
  {a : Side} {o : Role} {v : Upload} {k : FaultCause}

/-! The end of an upload with every destination abandoned (R140) -/

theorem abandonUpload_of_get (hv : s.uploads.get e = some v) :
    abandonUpload e s = endUpload e (v.dests.foldl (abandonDest v.slot v.side) s) := by
  rw [abandonUpload, hv]

theorem abandonUpload_frame (hv : s.uploads.get e = some v) : abandonUpload e s = { s with
    sheets := (abandonUpload e s).sheets, lanes := (abandonUpload e s).lanes, uploads := s.uploads.del e
    ports := (abandonUpload e s).ports } := by
  obtain ⟨z, hz⟩ : ∃ z, v.dests.foldl (abandonDest v.slot v.side) s = z := ⟨_, rfl⟩
  have hframe : z = { s with sheets := z.sheets, lanes := z.lanes } := hz ▸ foldl_abandonDest_frame _ _ _ s
  rw [abandonUpload_of_get hv, hz, endUpload_frame]
  exact congrArg (fun t : State => { t with uploads := t.uploads.del e, ports := (endUpload e z).ports }) hframe

theorem lanes_abandonUpload (hv : s.uploads.get e = some v) :
    (abandonUpload e s).lanes = (v.dests.foldl (abandonDest v.slot v.side) s).lanes := by
  rw [abandonUpload_of_get hv, endUpload_frame]

theorem sheets_abandonUpload (hv : s.uploads.get e = some v) :
    (abandonUpload e s).sheets = (v.dests.foldl (abandonDest v.slot v.side) s).sheets := by
  rw [abandonUpload_of_get hv, endUpload_frame]

theorem ports_abandonUpload {x : Entry} {p : Fin 16} (hv : s.uploads.get e = some v) (hx : s.entries.get e = some x)
    (hp : x.port = some p) : (abandonUpload e s).ports[p] =
      { s.ports[p] with queues := { s.ports[p].queues with upload := none, flow := none } } := by
  obtain ⟨z, hz⟩ : ∃ z, v.dests.foldl (abandonDest v.slot v.side) s = z := ⟨_, rfl⟩
  have hframe : z = { s with sheets := z.sheets, lanes := z.lanes } := hz ▸ foldl_abandonDest_frame _ _ _ s
  have hentry : z.entries.get e = some x := by rw [hframe]; exact hx
  rw [abandonUpload_of_get hv, hz, ports_endUpload_self hentry hp, hframe]

/-- What becomes of record `n` where the active upload of its station is abandoned if it is one of the record: the entries of
`ds` are given back and off their lanes, and the station has no upload of the record. -/
structure UploadGone (n : Nat) (r : Sheet) (a : Side) (ds : List (Fin 4 × Role)) (s t : State) : Prop where
  frame : t = { s with sheets := t.sheets, lanes := t.lanes, uploads := t.uploads, ports := t.ports }
  sheet : t.sheets.get n = some (r.mapDeliveries (destBack a ds))
  others : ∀ i, i ≠ n → t.sheets.get i = s.sheets.get i
  upload : ∀ v, t.uploads.get r.station = some v → v.slot ≠ n
  lanes : Abandons s t
  gone : ∀ c ∈ ds, ∀ d m told, deliveryOf r a c.2 = some d → d.onLane = true → d.number = some m →
    (told → s.lanes[d.lane].state ≠ .loopback) → Abandoned m told t.lanes[d.lane]

theorem uploadGone_nil (hr : s.sheets.get n = some r) (hu : ∀ v, s.uploads.get r.station = some v → v.slot ≠ n) :
    UploadGone n r a [] s s where
  frame := rfl
  sheet := by
    have hnone : r.mapDeliveries (destBack a []) = r := mapDeliveries_of_fixed fun d _ => if_neg fun h => nomatch h.2
    rw [hnone]
    exact hr
  others _ _ := rfl
  upload := hu
  lanes := .refl s
  gone := nofun

theorem uploadGone_abandonUpload (hr : s.sheets.get n = some r) (hv : s.uploads.get r.station = some v) (hn : v.slot = n) :
    UploadGone n r v.side v.dests s (abandonUpload r.station s) := by
  subst hn
  have hframe := abandonUpload_frame hv
  refine ⟨?_, ?_, fun i hi => ?_, fun z hz => ?_, ?_, fun c hc d m told hd hs hm ht => ?_⟩
  · have huploads : (abandonUpload r.station s).uploads = s.uploads.del r.station := by rw [hframe]
    rw [huploads]
    exact hframe
  · rw [sheets_abandonUpload hv]
    exact get_sheets_foldl_abandonDest_self _ hr
  · rw [sheets_abandonUpload hv]
    exact get_sheets_foldl_abandonDest_ne _ hi s
  · rw [hframe, Tab.get_del_self] at hz
    cases hz
  · exact (abandons_foldl (abandons_abandonDest _ _) v.dests s).trans (.of_lanes (lanes_abandonUpload hv))
  · rw [lanes_abandonUpload hv]
    exact abandoned_foldl_abandonDest hr hc hd hs hm ht

theorem abandonUploadOf_spec (hr : s.sheets.get n = some r)
    (hfly : ∀ v, s.uploads.get r.station = some v → v.slot = n → ∀ d ∈ v.dests, ∀ z, deliveryOf r v.side d.2 = some z →
      z.status = .inFlight) :
    ∃ a ds, UploadGone n r a ds s (abandonUploadOf n r s) ∧
      ∀ c ∈ ds, ∀ z, deliveryOf r a c.2 = some z → z.status = .inFlight := by
  unfold abandonUploadOf
  cases hv : s.uploads.get r.station with
  | none => exact ⟨.one, [], uploadGone_nil hr (by rw [hv]; nofun), nofun⟩
  | some v =>
    dsimp only
    by_cases hn : v.slot = n
    · rw [if_pos hn]
      exact ⟨v.side, v.dests, uploadGone_abandonUpload hr hv hn, hfly v hv hn⟩
    · rw [if_neg hn]
      refine ⟨.one, [], uploadGone_nil hr fun z hz => ?_, nofun⟩
      obtain rfl : v = z := Option.some.inj (hv.symm.trans hz)
      exact hn

/-! The withdrawal of a record's deliveries (R43a) -/

/-- An entry that is on a lane, given back. -/
def Delivery.withdrawn (d : Delivery) : Delivery := if d.onLane then d.back else d

theorem withdrawDeliveries_of_get (hr : s.sheets.get n = some r) : withdrawDeliveries n s =
    modSheet n (Sheet.mapDeliveries Delivery.withdrawn) ((r.deliveries.getD []).foldl (fun t d => abandonOn d t) s) := by
  rw [withdrawDeliveries, hr]
  rfl

theorem get_sheets_withdrawDeliveries_self (hr : s.sheets.get n = some r) :
    (withdrawDeliveries n s).sheets.get n = some (r.mapDeliveries Delivery.withdrawn) := by
  rw [withdrawDeliveries_of_get hr, modSheet_sheets, foldl_abandonOn_frame, Tab.get_modify_self, hr, Option.map_some]

theorem get_sheets_withdrawDeliveries_ne {i : Nat} (hr : s.sheets.get n = some r) (hi : i ≠ n) :
    (withdrawDeliveries n s).sheets.get i = s.sheets.get i := by
  rw [withdrawDeliveries_of_get hr, modSheet_sheets, foldl_abandonOn_frame, Tab.get_modify_other _ _ hi]

theorem withdrawDeliveries_frame (hr : s.sheets.get n = some r) : withdrawDeliveries n s =
    { s with sheets := (withdrawDeliveries n s).sheets, lanes := (withdrawDeliveries n s).lanes } := by
  rw [withdrawDeliveries_of_get hr, foldl_abandonOn_frame]
  rfl

theorem lanes_withdrawDeliveries (hr : s.sheets.get n = some r) : (withdrawDeliveries n s).lanes =
    ((r.deliveries.getD []).foldl (fun t d => abandonOn d t) s).lanes := by
  rw [withdrawDeliveries_of_get hr]
  rfl

theorem abandons_withdrawDeliveries (hr : s.sheets.get n = some r) : Abandons s (withdrawDeliveries n s) :=
  (abandons_foldl (fun t d => abandons_abandonOn d t) (r.deliveries.getD []) s).trans (.of_lanes (lanes_withdrawDeliveries hr))

/-! An entry to FAULT (R43a) -/

theorem onLane_iff : d.onLane = true ↔ d.status = .inFlight ∨ d.status = .sent ∨ d.status = .accepted := by
  unfold Delivery.onLane
  cases d.status <;> simp

theorem enterFault_of_routing (hr : s.sheets.get n = some r) (hs : r.state = .routing) : enterFault n k s =
    raise .sheetFault r.batch (modBatch r.batch (fun b => { b with openSuspects := b.openSuspects + 1 })
      (modSheet n (Sheet.toFault k) (withdrawDeliveries n (abandonUploadOf n r s)))) := by
  have hne : ¬ (r.state = .fault ∧ r.fault = some k) := by
    rw [hs]
    exact fun h => nomatch h.1
  rw [enterFault, hr]
  dsimp only
  rw [hs]
  dsimp only
  rw [faultRecord, if_neg hne, if_pos hs]

theorem deliveryOf_of_mem (hp : (r.deliveries.getD []).Pairwise (fun a d => a.side ≠ d.side ∨ a.role ≠ d.role))
    (hd : d ∈ r.deliveries.getD []) : deliveryOf r d.side d.role = some d := by
  cases hz : deliveryOf r d.side d.role with
  | none => exact absurd ⟨rfl, rfl⟩ (not_and_or.2 (deliveryOf_eq_none.1 hz d hd))
  | some z =>
    obtain ⟨hmem, hside, hrole⟩ := deliveryOf_spec hz
    by_contra hne
    have hsymm : Std.Symm fun a d : Delivery => a.side ≠ d.side ∨ a.role ≠ d.role := ⟨fun _ _ h => h.imp Ne.symm Ne.symm⟩
    have happart := hp.forall hmem hd fun h => hne (congrArg some h)
    exact happart.elim (· hside) (· hrole)

/-- Giving the entries of an upload's destinations back, and then those on a lane, is giving back those on a lane, where the
destinations' entries are in flight. -/
theorem withdrawn_destBack {ds : List (Fin 4 × Role)}
    (hp : (r.deliveries.getD []).Pairwise (fun a d => a.side ≠ d.side ∨ a.role ≠ d.role))
    (hfly : ∀ c ∈ ds, ∀ z, deliveryOf r a c.2 = some z → z.status = .inFlight) (hd : d ∈ r.deliveries.getD []) :
    (destBack a ds d).withdrawn = d.withdrawn := by
  unfold destBack
  split
  · next h =>
    obtain ⟨rfl, hmem⟩ := h
    obtain ⟨c, hc, hrole⟩ := List.mem_map.1 hmem
    have hon : d.onLane = true := onLane_iff.2 (.inl (hfly c hc d (hrole ▸ deliveryOf_of_mem hp hd)))
    rw [Delivery.withdrawn, Delivery.withdrawn, if_pos hon]
    rfl
  · rfl

/-- The entry of a record in ROUTING to FAULT, with its hypotheses as `AnswersAndFailuresMoveTheEntry` gives them. -/
theorem enterFault_spec {b : Batch} (hr : s.sheets.get n = some r) (hs : r.state = .routing)
    (hb : s.batches.get r.batch = some b) (hlt : r.batch < 48) (hatt : ∀ a ∈ s.attention, a.2 < 256)
    (hp : (r.deliveries.getD []).Pairwise (fun a d => a.side ≠ d.side ∨ a.role ≠ d.role))
    (hfly : ∀ v, s.uploads.get r.station = some v → v.slot = n → ∀ d ∈ v.dests, ∀ z, deliveryOf r v.side d.2 = some z →
      z.status = .inFlight) (hu : enterFault n k s = u) :
    u.batches.get r.batch = some { b with openSuspects := b.openSuspects + 1 } ∧
    u.sheets.get n = some ((r.mapDeliveries Delivery.withdrawn).toFault k) ∧
    (∀ m, m ≠ n → u.sheets.get m = s.sheets.get m) ∧ (∀ v, u.uploads.get r.station = some v → v.slot ≠ n) ∧
    (AttnKind.sheetFault ∉ s.room.mask → (.sheetFault, r.batch) ∈ u.attention) ∧
    ∀ d ∈ r.deliveries.getD [], ∀ m, d.onLane = true → d.number = some m →
      Abandoned m (s.lanes[d.lane].state ≠ .loopback) u.lanes[d.lane] := by
  obtain ⟨a, ds, hgone, hds⟩ := abandonUploadOf_spec hr hfly
  obtain ⟨x, hx⟩ : ∃ x, abandonUploadOf n r s = x := ⟨_, rfl⟩
  rw [hx] at hgone
  obtain ⟨y, hy⟩ : ∃ y, withdrawDeliveries n x = y := ⟨_, rfl⟩
  have hyframe : y = { x with sheets := y.sheets, lanes := y.lanes } := hy ▸ withdrawDeliveries_frame hgone.sheet
  have hysheet : y.sheets.get n = some (r.mapDeliveries Delivery.withdrawn) := by
    rw [← hy, get_sheets_withdrawDeliveries_self hgone.sheet, mapDeliveries_mapDeliveries]
    exact congrArg some (mapDeliveries_congr fun d hd => withdrawn_destBack hp hds hd)
  have hbatches : y.batches = s.batches := by rw [hyframe, hgone.frame]
  have huploads : y.uploads = x.uploads := by rw [hyframe]
  have hattention : y.attention = s.attention := by rw [hyframe, hgone.frame]
  have hroom : y.room = s.room := by rw [hyframe, hgone.frame]
  rw [enterFault_of_routing hr hs, hx, hy] at hu
  subst hu
  refine ⟨?_, ?_, fun i hi => ?_, fun v hv => ?_, fun hmask => ?_, fun d hd m hon hm => ?_⟩
  · rw [raise_batches, get_batches_modBatch_self (s := modSheet n _ y) _ (hbatches ▸ hb)]
  · rw [raise_sheets, modBatch_sheets, modSheet_sheets, Tab.get_modify_self, hysheet, Option.map_some]
  · rw [raise_sheets, modBatch_sheets, modSheet_sheets, Tab.get_modify_other _ _ hi, ← hy,
      get_sheets_withdrawDeliveries_ne hgone.sheet hi, hgone.others i hi]
  · rw [raise_uploads, modBatch_uploads, modSheet_uploads, huploads] at hv
    exact hgone.upload v hv
  · exact mem_attention_raise_self (s := modBatch _ _ (modSheet n _ y)) (hroom ▸ hmask) (hlt.trans (by decide)) (hattention ▸ hatt)
  · rw [raise_lanes]
    show Abandoned m _ y.lanes[d.lane]
    rw [← hy]
    by_cases hc : d.side = a ∧ d.role ∈ ds.map Prod.snd
    · obtain ⟨rfl, hmem⟩ := hc
      obtain ⟨c, hc, hrole⟩ := List.mem_map.1 hmem
      exact (abandons_withdrawDeliveries hgone.sheet).keeps _ _ _
        (hgone.gone c hc d m _ (hrole ▸ deliveryOf_of_mem hp hd) hon hm id)
    · have hstay : d ∈ (r.mapDeliveries (destBack a ds)).deliveries.getD [] := by
        unfold Sheet.mapDeliveries
        cases hdl : r.deliveries with
        | none =>
          rw [hdl] at hd
          cases hd
        | some ld =>
          rw [hdl] at hd
          exact List.mem_map.2 ⟨d, hd, if_neg hc⟩
      rw [lanes_withdrawDeliveries hgone.sheet]
      exact abandoned_foldl_abandonOn hstay hon hm fun h => hgone.lanes.state _ h

/-! One delivery that moves on its lane (R149, R150) -/

/-- The states in which only lane `l` and the delivery of `w` differ from `s`. -/
def OnlyDelivery (l : Fin 4) (w : WindowEntry) (r : Sheet) (s u : State) : Prop :=
  (∀ m : Fin 4, m ≠ l → u.lanes[m] = s.lanes[m]) ∧ (∀ m, m ≠ w.slot → u.sheets.get m = s.sheets.get m) ∧
  u = { s with lanes := u.lanes, sheets := u.sheets } ∧
  ∃ q, u.sheets.get w.slot = some q ∧ q = { r with deliveries := q.deliveries } ∧
    ∀ a o, a ≠ w.side ∨ o ≠ w.role → deliveryOf q a o = deliveryOf r a o

/-- A delivery and its lane changed. -/
def moveDelivery (l : Fin 4) (w : WindowEntry) (g : Lane → Lane) (f : Delivery → Delivery) (s : State) : State :=
  modDelivery w.slot w.side w.role f (modLane l g s)

theorem lanes_moveDelivery (l : Fin 4) (w : WindowEntry) (g : Lane → Lane) (f : Delivery → Delivery) (s : State) :
    (moveDelivery l w g f s).lanes[l] = g s.lanes[l] := getElem_modLane_self l g s

theorem get_sheets_moveDelivery (g : Lane → Lane) (f : Delivery → Delivery) (hr : s.sheets.get w.slot = some r) :
    (moveDelivery l w g f s).sheets.get w.slot = some (r.changeDelivery w.side w.role f) :=
  get_sheets_modDelivery_self (s := modLane l g s) f hr

theorem onlyDelivery_moveDelivery (g : Lane → Lane) {f : Delivery → Delivery}
    (hf : ∀ d, (f d).side = d.side ∧ (f d).role = d.role) (hr : s.sheets.get w.slot = some r) :
    OnlyDelivery l w r s (moveDelivery l w g f s) :=
  ⟨fun _ hm => getElem_modLane_ne g s hm, fun _ hm => get_sheets_modDelivery_ne (s := modLane l g s) f hm, rfl,
    _, get_sheets_moveDelivery g f hr, rfl, fun _ _ hne => deliveryOf_changeDelivery_ne hf hne⟩

theorem deliveryDone_eq (l : Fin 4) (w : WindowEntry) (s : State) : deliveryDone l w s =
    completeIfDone w.slot (moveDelivery l w (Lane.finish w.number) Delivery.finish s) := rfl

/-- The suspension judged on a window that lost its last delivery, or did not (R155). -/
theorem settleSuspend_state (hw : x.window ≠ [] ∨ x.suspendPending = false) : x.settleSuspend.state = x.state := by
  rw [settleSuspend_of_not (hw.elim (fun h => .inr (.inl h)) .inl)]

theorem settleSuspend_state_suspended (hw : x.window = []) (hp : x.suspendPending = true)
    (hs : x.state = .up ∨ x.state = .loopback) : x.settleSuspend.state = .suspended := by
  rcases hs with hs | hs
  · rw [settleSuspend_of_up hp hw hs]
  · rw [settleSuspend_of_loopback hp hw hs]

/-- The lane without a refused delivery, before its suspension is judged. -/
def Lane.refused (m : DelivNo) (k : RefuseReason) (x : Lane) : Lane :=
  { x with
    window := x.window.filter fun w => decide (w.number ≠ m), fifo := x.fifo.filter fun b => decide (b.1 ≠ m)
    ctrl := x.ctrl.filter fun c => !c.ends m, counters := x.counters.refuse k
    refusing := x.refusing || decide (k = RefuseReason.full) }

theorem refuse_eq (m : DelivNo) (k : RefuseReason) (x : Lane) : x.refuse m k = (x.refused m k).settleSuspend := rfl

theorem ends_iff {c : CtrlWord} : c.ends m = true ↔ ∃ n h, c = .endWord m n h := by
  cases c <;> simp [CtrlWord.ends, eq_comm]

theorem mem_refused_ctrl {k : RefuseReason} {c : CtrlWord} :
    c ∈ (x.refused m k).ctrl ↔ c ∈ x.ctrl ∧ ∀ n h, c ≠ .endWord m n h := by
  rw [Lane.refused, List.mem_filter, Bool.not_eq_true', Bool.eq_false_iff, ne_eq, ends_iff]
  simp only [not_exists, ne_eq]

theorem counters_refuse (k : RefuseReason) (c : LaneCounters) : c.refuse k = match k with
    | .check => { c with refusedCheck := bump c.refusedCheck }
    | .format => { c with refusedFormat := bump c.refusedFormat }
    | .full => { c with refusedFull := bump c.refusedFull } := by
  cases k <;> rfl

theorem refuseEntry_eq (l : Fin 4) (w : WindowEntry) (k : RefuseReason) (s : State) : refuseEntry l w k s =
    match k with
    | .check | .format => countFailure w.slot (if w.phase = .transmitting then
        loseDest l (moveDelivery l w (Lane.refuse w.number k) Delivery.back s)
        else moveDelivery l w (Lane.refuse w.number k) Delivery.back s)
    | .full => raise .laneRefusing l (if w.phase = .transmitting then
        loseDest l (moveDelivery l w (Lane.refuse w.number k) Delivery.back s)
        else moveDelivery l w (Lane.refuse w.number k) Delivery.back s) := by
  cases k <;> rfl

/-! Failures counted (R140) -/

theorem countFailure_of_few (hr : s.sheets.get n = some r) (hf : r.failures < 2) :
    countFailure n s = modSheet n (fun r => { r with failures := r.failures + 1 }) s := by
  rw [countFailure, hr]
  exact if_neg (Nat.not_le.2 (Nat.succ_lt_succ hf))

theorem countFailure_of_third (hr : s.sheets.get n = some r) (hf : 2 ≤ r.failures) :
    countFailure n s = enterFault n .uploadFailed (modSheet n (fun r => { r with failures := r.failures + 1 }) s) := by
  rw [countFailure, hr]
  exact if_pos (Nat.succ_le_succ hf)

theorem failUpload_of_get (hv : s.uploads.get e = some v) : failUpload e s = countFailure v.slot (abandonUpload e s) := by
  rw [failUpload, hv]

/-! The close of a delivery (R148, R156) -/

theorem closeDelivery_of_open (he : s.lanes[l].entry m = some w)
    (h : w.phase ≠ .ending ∨ w.closing = none ∨ ∃ c ∈ s.lanes[l].fifo, c.1 = m) : closeDelivery l m s = s := by
  unfold closeDelivery
  dsimp only
  rw [he]
  dsimp only
  split
  · next hp hc =>
    rcases h with h | h | ⟨c, hmem, hcm⟩
    · exact absurd hp h
    · exact nomatch h.symm.trans hc
    · exact if_pos (List.any_eq_true.2 ⟨c, hmem, decide_eq_true hcm⟩)
  · rfl

theorem closeDelivery_of_drained {i : Nat} {h : Check} (he : s.lanes[l].entry m = some w) (hp : w.phase = .ending)
    (hc : w.closing = some (i, h)) (hf : ∀ c ∈ s.lanes[l].fifo, c.1 ≠ m) : closeDelivery l m s =
      if s.lanes[l].state = .loopback then loopbackDone l w s else modLane l (Lane.addCtrl (.endWord m i h)) s := by
  have hnone : ¬ (s.lanes[l].fifo.any fun b => decide (b.1 = m)) = true := fun hany => by
    obtain ⟨c, hmem, hcm⟩ := List.any_eq_true.1 hany
    exact hf c hmem (of_decide_eq_true hcm)
  unfold closeDelivery
  dsimp only
  rw [he]
  dsimp only
  rw [hp, hc]
  exact if_neg hnone

/-- Settles O57, operation by operation. -/
theorem answersAndFailuresMoveTheEntry : Obligations.AnswersAndFailuresMoveTheEntry := by
  unfold Obligations.AnswersAndFailuresMoveTheEntry
  refine ⟨fun n => rfl, fun r a o => ⟨deliveryOf_eq_none, fun d => deliveryOf_spec⟩, fun n a o f s => rfl, ?_,
    fun n r s hr => ⟨_, rfl, countFailure_of_few hr, countFailure_of_third hr⟩, ?_, ?_, ?_, ?_⟩
  · intro l w r s hr others hothers left hleft
    subst hleft
    refine ⟨⟨_, _, deliveryDone_eq l w s, (hothers _).2 (onlyDelivery_moveDelivery _ (fun _ => ⟨rfl, rfl⟩) hr),
      get_sheets_moveDelivery _ _ hr, fun d hd => deliveryOf_changeDelivery_self (fun _ => ⟨rfl, rfl⟩) hd, ?_⟩,
      ⟨_, _, rfl, (hothers _).2 (onlyDelivery_moveDelivery _ (fun _ => ⟨rfl, rfl⟩) hr), get_sheets_moveDelivery _ _ hr,
        fun d hd => deliveryOf_changeDelivery_self (fun _ => ⟨rfl, rfl⟩) hd, lanes_moveDelivery ..⟩, fun k => ?_⟩
    · rw [lanes_moveDelivery, Lane.finish]
      refine ⟨?_, ?_, ?_, ?_, fun h => settleSuspend_state h, fun hw hp hs => settleSuspend_state_suspended hw hp hs⟩ <;>
        (rw [settleSuspend_frame]; rfl)
    · obtain ⟨u, hu⟩ : ∃ u, moveDelivery l w (Lane.refuse w.number k) Delivery.back s = u := ⟨_, rfl⟩
      have hlane : u.lanes[l] = (s.lanes[l].refused w.number k).settleSuspend := hu ▸ lanes_moveDelivery l w _ _ s
      refine ⟨u, if w.phase = .transmitting then loseDest l u else u, r.changeDelivery w.side w.role Delivery.back,
        (hothers u).2 (hu ▸ onlyDelivery_moveDelivery _ Delivery.back_keeps hr), hu ▸ get_sheets_moveDelivery _ _ hr,
        fun d hd => deliveryOf_changeDelivery_self Delivery.back_keeps hd, ?_, ?_,
        fun c => ?_, ?_, ?_, fun hw hp hs => ?_, fun hp => if_pos hp, fun hp => if_neg hp, fun hk => ?_, fun hk => ?_⟩
      · rw [hlane, settleSuspend_frame]
        rfl
      · rw [hlane, settleSuspend_frame]
        rfl
      · rw [hlane, settleSuspend_frame]
        exact mem_refused_ctrl (k := k)
      · rintro c rfl
        rw [hlane, settleSuspend_frame]
        exact counters_refuse k _
      · rw [hlane, settleSuspend_frame]
        rfl
      · rw [hlane]
        exact settleSuspend_state_suspended hw hp hs
      · subst hk
        rw [refuseEntry_eq, hu]
      · rw [refuseEntry_eq, hu]
        cases k with
        | full => exact absurd rfl hk
        | check => rfl
        | format => rfl
  · intro n r b k s u hr hs hb hlt hatt hp hfly hu
    obtain ⟨hbatch, hsheet, hsheets, hupload, hattn, hgone⟩ := enterFault_spec hr hs hb hlt hatt hp hfly hu
    have hwithdrawn : Delivery.withdrawn = fun d => if d.status = .inFlight ∨ d.status = .sent ∨ d.status = .accepted then
        { d with status := .waiting, number := none } else d := funext fun d => by
      rw [Delivery.withdrawn]
      exact if_congr onLane_iff rfl rfl
    rw [Sheet.toFault, Sheet.mapDeliveries, hwithdrawn] at hsheet
    refine ⟨hbatch, hsheet, hsheets, hupload, hattn, fun d hd m hst hm => ?_⟩
    obtain ⟨hwindow, hfifo, hctrl⟩ := hgone d hd m (onLane_iff.2 hst) hm
    exact ⟨hwindow, hfifo, hctrl⟩
  · rintro e x v r s u ht hx hv hr hlanes hroles hfly rfl
    refine ⟨failUpload_of_get hv, abandonUpload_frame hv, fun p hp => by rw [ports_abandonUpload hv hx hp], fun l hl => ?_,
      ⟨_, (congrArg (Tab.get · v.slot) (sheets_abandonUpload hv)).trans (get_sheets_foldl_abandonDest_self v.dests hr), rfl,
        fun a o => ⟨fun hao => ?_, fun c hc z hco hz => ?_⟩⟩, fun c hc z m hz hm => ?_⟩
    · rw [lanes_abandonUpload hv]
      exact lanes_foldl_abandonDest_ne hroles hr hfly hl
    · rw [deliveryOf_mapDeliveries (destBack_keeps _ _)]
      cases hz : deliveryOf r a o with
      | none => rfl
      | some z =>
        obtain ⟨-, rfl, rfl⟩ := deliveryOf_spec hz
        refine congrArg some (if_neg fun ⟨hside, hmem⟩ => ?_)
        obtain ⟨c, hc, hrole⟩ := List.mem_map.1 hmem
        exact hao.elim (· hside) fun h => h c hc hrole
    · obtain ⟨-, hside, hrole⟩ := deliveryOf_spec hz
      rw [deliveryOf_mapDeliveries (destBack_keeps _ _), hz]
      exact congrArg some (if_pos ⟨hside, List.mem_map.2 ⟨c, hc, hco.trans hrole.symm⟩⟩)
    · rw [lanes_abandonUpload hv, lanes_foldl_abandonDest_self hlanes hroles hr hfly hc hz hm]
      exact ⟨abandon_window m _, abandon_fifo m _, abandon_counters m _, abandon_ctrl⟩
  · intro v k d m s hm
    refine ⟨_, ?_, rfl⟩
    rw [endDest, hm]
    rfl
  · intro l w m n k s he
    refine ⟨closeDelivery_of_open he, fun hp hc hf => ⟨fun hs => ?_, fun hs => ?_⟩⟩
    · rw [closeDelivery_of_drained he hp hc hf, if_neg hs]
      exact modLane_congr (if_neg hs)
    · rw [closeDelivery_of_drained he hp hc hf, if_pos hs]
      rfl

end Sys2Proof.Machine
end

section
/-! The upload arbiter: eligible sides, the choice of a station, the round, and what the start of an upload makes (R130,
R133–R135, R146, R147). -/

set_option Elab.async false

namespace Sys2Proof.Machine

variable {s t u : State} {l : Fin 4} {e n : Nat} {r : Sheet} {d : Side} {c : Eligible} {ds : List Delivery} {row : Row}

/-! Rows, presence and entry lists (R130) -/

theorem planRow_eq_some : planRow s r = some row ↔ ∃ c k a, r.captured = some c ∧ r.cls = some (k, a) ∧
    ∃ (_ : c.plan < 16) (_ : a < 8), row = s.plans[c.plan].body.rows[a] := by
  unfold planRow
  constructor
  · intro h
    split at h
    · next c k a hc hk =>
      split at h
      · next hlt => exact ⟨c, k, a, hc, hk, hlt.1, hlt.2, (Option.some.inj h).symm⟩
      · cases h
    · cases h
  · rintro ⟨c, k, a, hc, hk, hp, ha, rfl⟩
    rw [hc, hk]
    exact dif_pos ⟨hp, ha⟩

theorem present_iff : present s e = true ↔ ∃ x p, s.entries.get e = some x ∧ x.port = some p := by
  simp only [present, Option.isSome_iff_exists, Option.bind_eq_some_iff]
  constructor
  · rintro ⟨p, x, hx, hp⟩
    exact ⟨x, p, hx, hp⟩
  · rintro ⟨x, p, hx, hp⟩
    exact ⟨p, x, hx, hp⟩

theorem sideEntries_eq (row : Row) (d : Side) : sideEntries row d =
    (row.primary.map fun l => { side := d, role := .primary, lane := l }).toList ++
      (if row.primary = none then [] else (row.copy.map fun l => { side := d, role := .copy, lane := l }).toList) := by
  unfold sideEntries
  cases row.primary with
  | none => rfl
  | some p => cases row.copy <;> rfl

theorem buildEntries_of_due {k : Side} (hr : s.sheets.get n = some r) (hs : r.state = .routing) (hi : r.images = some k)
    (hd : r.deliveries = none) (hrow : planRow s r = some row) :
    buildEntries n s = modSheet n (fun r => { r with deliveries := some (buildList row k) }) s := by
  rw [buildEntries, hr]
  dsimp only
  rw [hs, hi, hd, hrow]

/-! Free lanes and eligible sides (R133, R146) -/

theorem laneUploading_eq_false : laneUploading s l = false ↔ ∀ u ∈ s.uploads, ∀ d ∈ u.2.dests, d.1 ≠ l := by
  simp only [laneUploading, Bool.eq_false_iff, ne_eq, List.any_eq_true, decide_eq_true_eq, not_exists, not_and]

theorem laneFree_iff : laneFree s l = true ↔
    ((s.lanes[l].state = .up ∧ s.lanes[l].refusing = false ∧ s.lanes[l].view ≠ some .busy) ∨ s.lanes[l].state = .loopback) ∧
    s.lanes[l].suspendPending = false ∧ s.lanes[l].window.length < s.lanes[l].params.window ∧ s.lanes[l].fifo = [] ∧
    ∀ u ∈ s.uploads, ∀ d ∈ u.2.dests, d.1 ≠ l := by
  rw [laneFree, transmitterIdle, Bool.and_eq_true, Bool.and_eq_true, gateOpen_iff, List.isEmpty_iff, Bool.not_eq_true',
    laneUploading_eq_false, and_assoc, and_assoc]

/-- The waiting entries of a side. -/
def waitingOf (ds : List Delivery) (d : Side) : List Delivery := ds.filter fun x => decide (x.side = d ∧ x.status = .waiting)

theorem sideTakes_eq_cons {x : Delivery} {m : List Delivery} (h : waitingOf ds d = x :: m) :
    sideTakes ds d = x :: (m.find? fun y => decide (y.lane ≠ x.lane)).toList := by
  have hfilter : (ds.filter fun y => decide (y.side = d) && decide (y.status = .waiting)) = x :: m := by
    rw [← h]
    exact List.filter_congr fun y _ => (Bool.decide_and ..).symm
  rw [sideTakes, hfilter]

theorem sideTakes_eq_nil (h : waitingOf ds d = []) : sideTakes ds d = [] := by
  have hfilter : (ds.filter fun y => decide (y.side = d) && decide (y.status = .waiting)) = [] := by
    rw [← h]
    exact List.filter_congr fun y _ => (Bool.decide_and ..).symm
  rw [sideTakes, hfilter]

/-- What a side takes: its first waiting entry, and the first after it on another lane. -/
theorem toList_find_eq {x : Delivery} {m t : List Delivery} : x :: (m.find? fun y => decide (y.lane ≠ x.lane)).toList = t ↔
    ((∀ y ∈ m, y.lane = x.lane) → t = [x]) ∧
    ∀ m₁ y m₂, m = m₁ ++ y :: m₂ → (∀ z ∈ m₁, z.lane = x.lane) → y.lane ≠ x.lane → t = [x, y] := by
  cases hf : m.find? fun y => decide (y.lane ≠ x.lane) with
  | none =>
    have hall : ∀ y ∈ m, y.lane = x.lane := fun y hy => by
      simpa using List.find?_eq_none.1 hf y hy
    refine ⟨fun h => ⟨fun _ => h.symm, fun m₁ y m₂ hm _ hy => absurd (hall y ?_) hy⟩, fun h => (h.1 hall).symm⟩
    rw [hm]
    exact List.mem_append_right _ List.mem_cons_self
  | some y =>
    obtain ⟨hy, m₁, m₂, hm, hpre⟩ := List.find?_eq_some_iff_append.1 hf
    have hy : y.lane ≠ x.lane := of_decide_eq_true hy
    have hpre : ∀ z ∈ m₁, z.lane = x.lane := fun z hz => by simpa using hpre z hz
    constructor
    · rintro rfl
      refine ⟨fun hall => absurd (hall y ?_) hy, fun n₁ z n₂ hn hnpre hz => ?_⟩
      · rw [hm]
        exact List.mem_append_right _ List.mem_cons_self
      · have hfind : m.find? (fun y => decide (y.lane ≠ x.lane)) = some z :=
          List.find?_eq_some_iff_append.2 ⟨decide_eq_true hz, n₁, n₂, hn, fun w hw => by simpa using hnpre w hw⟩
        rw [Option.some.inj (hfind.symm.trans hf)]
        rfl
    · exact fun h => (h.2 m₁ y m₂ hm hpre hy).symm

theorem sideWithin_iff {k : Side} : sideWithin d k = true ↔ d = .one ∨ k = .two := by
  simp only [sideWithin, Bool.or_eq_true, decide_eq_true_eq]

theorem sideEligible_iff {t : List Delivery} : sideEligible s r d = some t ↔
    r.state = .routing ∧ (∃ k, r.images = some k ∧ (d = .one ∨ k = .two)) ∧ (∀ x ∈ t, laneFree s x.lane = true) ∧
    ∃ l, r.deliveries = some l ∧ sideTakes l d = t ∧ t ≠ [] := by
  unfold sideEligible
  constructor
  · intro h
    split at h
    · next k l hs hi hd =>
      dsimp only at h
      split at h
      · next hc =>
        simp only [Bool.and_eq_true, List.all_eq_true, Bool.not_eq_true', List.isEmpty_eq_false_iff] at hc
        obtain ⟨⟨hwithin, hne⟩, hfree⟩ := hc
        obtain rfl := Option.some.inj h
        exact ⟨hs, ⟨k, hi, sideWithin_iff.1 hwithin⟩, hfree, l, hd, rfl, hne⟩
      · cases h
    · cases h
  · rintro ⟨hs, ⟨k, hi, hk⟩, hfree, l, hd, rfl, hne⟩
    rw [hs, hi, hd]
    refine if_pos ?_
    simp only [Bool.and_eq_true, List.all_eq_true, Bool.not_eq_true', List.isEmpty_eq_false_iff]
    exact ⟨⟨sideWithin_iff.2 hk, hne⟩, hfree⟩

/-- The entries taken, by the side's waiting entries. -/
theorem sideTakes_eq_iff {t : List Delivery} : sideTakes ds d = t ∧ t ≠ [] ↔ ∃ x m, waitingOf ds d = x :: m ∧
    ((∀ y ∈ m, y.lane = x.lane) → t = [x]) ∧
    ∀ m₁ y m₂, m = m₁ ++ y :: m₂ → (∀ z ∈ m₁, z.lane = x.lane) → y.lane ≠ x.lane → t = [x, y] := by
  cases hw : waitingOf ds d with
  | nil =>
    rw [sideTakes_eq_nil hw]
    exact ⟨fun ⟨h, hne⟩ => absurd h.symm hne, fun ⟨_, _, h, _⟩ => nomatch h⟩
  | cons x m =>
    rw [sideTakes_eq_cons hw]
    constructor
    · exact fun ⟨h, _⟩ => ⟨x, m, rfl, toList_find_eq.1 h⟩
    · rintro ⟨y, m', h, hspec⟩
      obtain ⟨rfl, rfl⟩ := List.cons.inj h
      obtain rfl := toList_find_eq.2 hspec
      exact ⟨rfl, nofun⟩

/-! The choice of a station (R134) -/

theorem leastSide_le {l : List Eligible} (h : leastSide l = some c) : ∀ a ∈ l, c.key ≤ a.key := by
  induction l generalizing c with
  | nil => cases h
  | cons b l ih =>
    unfold leastSide at h
    cases hl : leastSide l with
    | none =>
      rw [hl] at h
      obtain rfl := Option.some.inj h
      cases l with
      | nil => exact fun a ha => le_of_eq (by rw [List.mem_singleton.1 ha])
      | cons a l =>
        unfold leastSide at hl
        cases hl' : leastSide l with
        | none => rw [hl'] at hl; cases hl
        | some z =>
          rw [hl'] at hl
          dsimp only at hl
          split at hl <;> cases hl
    | some z =>
      rw [hl] at h
      dsimp only at h
      have hz := ih hl
      intro a ha
      rcases List.mem_cons.1 ha with rfl | ha <;> split at h <;> obtain rfl := Option.some.inj h
      · exact le_of_lt ‹_›
      · exact le_rfl
      · exact hz a ha
      · exact (Nat.le_of_not_lt ‹_›).trans (hz a ha)

theorem leastSide_eq_none {l : List Eligible} : leastSide l = none ↔ l = [] := by
  cases l with
  | nil => exact ⟨fun _ => rfl, fun _ => rfl⟩
  | cons b l =>
    refine ⟨fun h => ?_, nofun⟩
    unfold leastSide at h
    cases hl : leastSide l with
    | none => rw [hl] at h; cases h
    | some z =>
      rw [hl] at h
      dsimp only at h
      split at h <;> cases h

theorem mem_eligibleSides_of {p : Nat × Sheet} {t : List Delivery} (hp : p ∈ s.sheets) (he : p.2.station = e)
    (ht : sideEligible s p.2 d = some t) :
    { key := sideKey p.2 d, slot := p.1, record := p.2, side := d, takes := t } ∈ eligibleSides s e := by
  refine List.mem_flatMap.2 ⟨p, List.mem_filter.2 ⟨hp, decide_eq_true he⟩, List.mem_filterMap.2 ⟨d, ?_, ?_⟩⟩
  · cases d <;> decide
  · rw [ht, Option.map_some]

theorem eligibleSides_eq_nil : eligibleSides s e = [] ↔
    ∀ p ∈ s.sheets, p.2.station = e → ∀ d, sideEligible s p.2 d = none := by
  constructor
  · intro h p hp he d
    by_contra hne
    obtain ⟨t, ht⟩ := Option.ne_none_iff_exists'.1 hne
    have hmem := mem_eligibleSides_of hp he ht
    rw [h] at hmem
    cases hmem
  · intro h
    refine List.eq_nil_iff_forall_not_mem.2 fun c hc => ?_
    obtain ⟨helig, hmem, he, -⟩ := mem_eligibleSides hc
    rw [h _ hmem he c.side] at helig
    cases helig

/-- A side's key orders by sequence, then batch handle, then side. -/
theorem sideKey_le {p : Sheet} {k : Side} (hr : r.batch < 48) (hp : p.batch < 48) (h : sideKey r d ≤ sideKey p k) :
    r.seq.getD 0 < p.seq.getD 0 ∨ (r.seq.getD 0 = p.seq.getD 0 ∧
      (r.batch < p.batch ∨ (r.batch = p.batch ∧ (d = .one ∨ k = .two)))) := by
  have hcount : Config.batchCount = 48 := rfl
  unfold sideKey at h
  rw [hcount] at h
  cases d <;> cases k <;> dsimp only at h <;>
    simp only [reduceCtorEq, or_false, or_true, and_true] <;> omega

theorem stationChoice_eq_none : stationChoice s e = none ↔ present s e = false ∨ s.uploads.get e ≠ none ∨
    ∀ p ∈ s.sheets, p.2.station = e → ∀ d, sideEligible s p.2 d = none := by
  unfold stationChoice
  by_cases hp : present s e = true
  · by_cases hu : s.uploads.get e = none
    · rw [if_pos (by rw [hp, hu]; rfl), leastSide_eq_none, eligibleSides_eq_nil]
      simp [hp, hu]
    · rw [if_neg (by simp [hu])]
      exact ⟨fun _ => .inr (.inl hu), fun _ => rfl⟩
  · rw [Bool.not_eq_true] at hp
    rw [if_neg (by simp [hp])]
    exact ⟨fun _ => .inl hp, fun _ => rfl⟩

theorem stationChoice_least (h : stationChoice s e = some c) (hlt : ∀ p ∈ s.sheets, p.2.batch < 48) {p : Nat × Sheet}
    (hp : p ∈ s.sheets) (he : p.2.station = e) (hd : (sideEligible s p.2 d).isSome = true) :
    c.record.seq.getD 0 < p.2.seq.getD 0 ∨ (c.record.seq.getD 0 = p.2.seq.getD 0 ∧
      (c.record.batch < p.2.batch ∨ (c.record.batch = p.2.batch ∧ (c.side = .one ∨ d = .two)))) := by
  obtain ⟨hmem, hpres, hnone⟩ := mem_of_stationChoice h
  obtain ⟨-, hrec, -, hkey⟩ := mem_eligibleSides hmem
  obtain ⟨t, ht⟩ := Option.isSome_iff_exists.1 hd
  have hleast : leastSide (eligibleSides s e) = some c := by
    rw [stationChoice, if_pos (by rw [hpres, hnone]; rfl)] at h
    exact h
  have hle := leastSide_le hleast _ (mem_eligibleSides_of hp he ht)
  rw [hkey] at hle
  exact sideKey_le (hlt _ hrec) (hlt p hp) hle

/-! The round (R134) -/

theorem firstChoice_eq_none {es : List Nat} : firstChoice s es = none ↔ ∀ e ∈ es, stationChoice s e = none := by
  induction es with
  | nil => exact ⟨fun _ => nofun, fun _ => rfl⟩
  | cons e es ih =>
    rw [firstChoice, List.forall_mem_cons, ← ih]
    cases stationChoice s e with
    | none => exact ⟨fun h => ⟨rfl, h⟩, fun h => h.2⟩
    | some c => exact ⟨nofun, fun h => nomatch h.1⟩

theorem firstChoice_append {pre es : List Nat} (hpre : ∀ j ∈ pre, stationChoice s j = none) :
    firstChoice s (pre ++ es) = firstChoice s es := by
  induction pre with
  | nil => rfl
  | cons j pre ih =>
    rw [List.cons_append, firstChoice, hpre j List.mem_cons_self]
    exact ih fun i hi => hpre i (List.mem_cons_of_mem j hi)

theorem arbitrate_of_none (h : ∀ i < 24, stationChoice s ((s.lastUpload + 1 + i) % 24) = none) : arbitrate s = s := by
  refine arbitrateN_of_none 3 (firstChoice_eq_none.2 fun e he => ?_)
  obtain ⟨i, hi, rfl⟩ := List.mem_map.1 he
  exact h i (List.mem_range.1 hi)

theorem arbitrate_of_first {i : Nat} (hi : i < 24) (hc : stationChoice s ((s.lastUpload + 1 + i) % 24) = some c)
    (hpre : ∀ j < i, stationChoice s ((s.lastUpload + 1 + j) % 24) = none) :
    arbitrate s = arbitrateN 3 (startUpload ((s.lastUpload + 1 + i) % 24) c s) := by
  refine arbitrateN_of_some 3 ?_
  show firstChoice s (roundOrder 24 s.lastUpload) = _
  rw [roundOrder_cut hi, firstChoice_append, firstChoice, hc]
  intro j hj
  obtain ⟨k, hk, rfl⟩ := List.mem_map.1 hj
  exact hpre k (List.mem_range.1 hk)

/-! After four starts every lane is taken (R133, R134) -/

/-- The lanes that no upload has. -/
def idleLanes (s : State) : Finset (Fin 4) := Finset.univ.filter fun l => laneUploading s l = false

theorem mem_idleLanes : l ∈ idleLanes s ↔ laneUploading s l = false := by
  rw [idleLanes, Finset.mem_filter, and_iff_right (Finset.mem_univ l)]

theorem uploads_foldl_offerEntry (slot : Nat) (g : Serial) (b : Bool) (ds : List Delivery) (s : State) :
    (ds.foldl (offerEntry slot g b) s).uploads = s.uploads := by
  induction ds generalizing s with
  | nil => rfl
  | cons d ds ih => exact ih _

/-- The serial of an eligible side's record. -/
def Eligible.serial (c : Eligible) : Serial := { batch := c.record.batch, seq := c.record.seq.getD 0 }

/-- The upload an eligible side starts with. -/
def Eligible.upload (c : Eligible) : Upload :=
  { slot := c.slot, serial := c.serial, tag := c.record.tag, side := c.side, dests := c.takes.map fun d => (d.lane, d.role) }

theorem uploads_startUpload (e : Nat) (c : Eligible) (s : State) :
    (startUpload e c s).uploads = s.uploads.put e c.upload := by
  rw [startUpload, onQueues_uploads]
  exact congrArg (fun t => Tab.put t e _) (uploads_foldl_offerEntry _ _ _ _ s)

/-- The start of an upload takes at least one idle lane, and gives none back. -/
theorem idleLanes_startUpload (hu : s.uploads.get e = none) (hc : sideEligible s c.record c.side = some c.takes) :
    idleLanes (startUpload e c s) ⊂ idleLanes s := by
  obtain ⟨-, -, hfree, l, -, -, hne⟩ := sideEligible_iff.1 hc
  have hmem : ∀ p, p ∈ s.uploads.put e c.upload ↔ p ∈ (e, c.upload) :: s.uploads := fun p =>
    (Tab.put_perm c.upload hu).mem_iff
  obtain ⟨d, ds, htakes⟩ := List.exists_cons_of_ne_nil hne
  have hd : d ∈ c.takes := htakes ▸ List.mem_cons_self
  refine Finset.ssubset_iff_of_subset (fun l hl => ?_) |>.2 ⟨d.lane, ?_, fun hl => ?_⟩
  · rw [mem_idleLanes, laneUploading_eq_false, uploads_startUpload] at hl
    rw [mem_idleLanes, laneUploading_eq_false]
    exact fun u hu => hl u ((hmem u).2 (List.mem_cons_of_mem _ hu))
  · rw [mem_idleLanes, laneUploading_eq_false]
    exact (laneFree_iff.1 (hfree d hd)).2.2.2.2
  · rw [mem_idleLanes, laneUploading_eq_false, uploads_startUpload] at hl
    exact hl _ ((hmem _).2 List.mem_cons_self) (d.lane, d.role) (List.mem_map_of_mem hd) rfl

theorem stationChoice_of_busy (h : idleLanes s = ∅) : stationChoice s e = none := by
  refine stationChoice_eq_none.2 (.inr (.inr fun p _ _ d => ?_))
  by_contra hne
  obtain ⟨t, ht⟩ := Option.ne_none_iff_exists'.1 hne
  obtain ⟨-, -, hfree, l, -, -, htne⟩ := sideEligible_iff.1 ht
  obtain ⟨x, m, rfl⟩ := List.exists_cons_of_ne_nil htne
  have hmem : x.lane ∈ idleLanes s :=
    mem_idleLanes.2 (laneUploading_eq_false.2 (laneFree_iff.1 (hfree x List.mem_cons_self)).2.2.2.2)
  rw [h] at hmem
  exact absurd hmem (Finset.notMem_empty _)

theorem stationChoice_arbitrateN (k : Nat) (s : State) (hk : (idleLanes s).card ≤ k) (he : e < 24) :
    stationChoice (arbitrateN k s) e = none := by
  induction k generalizing s with
  | zero => exact stationChoice_of_busy (Finset.card_eq_zero.1 (Nat.le_zero.1 hk))
  | succ k ih =>
    cases hc : firstChoice s (roundOrder Config.entryCount s.lastUpload) with
    | none =>
      rw [arbitrateN_of_none k hc]
      exact firstChoice_eq_none.1 hc e (mem_roundOrder he)
    | some q =>
      obtain ⟨j, c⟩ := q
      obtain ⟨-, hchoice⟩ := firstChoice_spec hc
      obtain ⟨hmem, -, hu⟩ := mem_of_stationChoice hchoice
      have hlt := Finset.card_lt_card (idleLanes_startUpload hu (mem_eligibleSides hmem).1)
      rw [arbitrateN_of_some k hc]
      exact ih _ (Nat.le_of_lt_succ (hlt.trans_le hk))

theorem stationChoice_arbitrate (s : State) (he : e < 24) : stationChoice (arbitrate s) e = none :=
  stationChoice_arbitrateN _ s (Finset.card_le_univ _) he

/-! The number of a delivery (R147) -/

theorem freeNumberFrom_spec {held : DelivNo → Bool} (n : Nat) (d : DelivNo) :
    (∃ k < n, freeNumberFrom held n d = d + BitVec.ofNat 12 k ∧ ∀ j < k, held (d + BitVec.ofNat 12 j) = true) ∨
    (freeNumberFrom held n d = d + BitVec.ofNat 12 n ∧ ∀ j < n, held (d + BitVec.ofNat 12 j) = true) := by
  induction n generalizing d with
  | zero => exact .inr ⟨(BitVec.add_zero d).symm, nofun⟩
  | succ n ih =>
    have hstep : ∀ i : Nat, d + 1 + BitVec.ofNat 12 i = d + BitVec.ofNat 12 (i + 1) := fun i => by
      rw [BitVec.add_assoc, BitVec.add_comm 1, BitVec.ofNat_add]
      rfl
    by_cases hd : held d = true
    · have hfrom : freeNumberFrom held (n + 1) d = freeNumberFrom held n (d + 1) := if_pos hd
      have hshift : ∀ k, (∀ j < k, held (d + 1 + BitVec.ofNat 12 j) = true) → ∀ j < k + 1, held (d + BitVec.ofNat 12 j) = true := by
        intro k hk j hj
        cases j with
        | zero => exact (congrArg held (BitVec.add_zero d)).trans hd
        | succ j => exact hstep j ▸ hk j (Nat.lt_of_succ_lt_succ hj)
      rw [hfrom]
      rcases ih (d + 1) with ⟨k, hk, heq, hall⟩ | ⟨heq, hall⟩
      · exact .inl ⟨k + 1, Nat.succ_lt_succ hk, heq.trans (hstep k), hshift k hall⟩
      · exact .inr ⟨heq.trans (hstep n), hshift n hall⟩
    · exact .inl ⟨0, Nat.succ_pos n, (if_neg hd).trans (BitVec.add_zero d).symm, nofun⟩

/-- The number a delivery takes is the first from the next number on that the window does not hold. -/
theorem takeNumber_spec {x : Lane} (hx : x.window.length ≤ 32) : ∃ k < 4096, x.takeNumber = x.nextNo + BitVec.ofNat 12 k ∧
    (∀ w ∈ x.window, w.number ≠ x.takeNumber) ∧ ∀ j < k, ∃ w ∈ x.window, w.number = x.nextNo + BitVec.ofNat 12 j := by
  have hfree : ∀ w ∈ x.window, w.number ≠ x.takeNumber := fun w hw h =>
    entry_takeNumber (x := x) (Nat.lt_of_le_of_lt hx (by decide)) (List.mem_map.2 ⟨w, hw, h⟩)
  have hheld : ∀ d, (x.entry d).isSome = true → ∃ w ∈ x.window, w.number = d := fun d hd => by
    obtain ⟨w, hw⟩ := Option.isSome_iff_exists.1 hd
    exact ⟨w, entry_spec hw⟩
  rcases freeNumberFrom_spec (held := fun d => (x.entry d).isSome) 4096 x.nextNo with ⟨k, hk, heq, hall⟩ | ⟨heq, hall⟩
  · exact ⟨k, hk, heq, hfree, fun j hj => hheld _ (hall j hj)⟩
  · obtain ⟨w, hw, hnum⟩ := hheld _ (hall 0 (by decide))
    exact absurd (hnum.trans heq.symm) (hfree w hw)

/-! The start of an upload (R135) -/

/-- A delivery in flight under a number. -/
def Delivery.fly (m : DelivNo) (d : Delivery) : Delivery := { d with status := .inFlight, number := some m }

theorem Delivery.fly_keeps (m : DelivNo) (d : Delivery) : (d.fly m).side = d.side ∧ (d.fly m).role = d.role := ⟨rfl, rfl⟩

theorem get_sheets_offerEntry_self {slot : Nat} {g : Serial} {b : Bool} {d : Delivery} (hr : s.sheets.get slot = some r) :
    (offerEntry slot g b s d).sheets.get slot =
      some (r.changeDelivery d.side d.role (Delivery.fly s.lanes[d.lane].takeNumber)) :=
  get_sheets_modDelivery_self (s := modLane d.lane _ s) _ hr

theorem lanes_offerEntry_self (slot : Nat) (g : Serial) (b : Bool) (s : State) (d : Delivery) :
    (offerEntry slot g b s d).lanes[d.lane] = s.lanes[d.lane].offer slot g d.side d.role b := getElem_modLane_self d.lane _ s

theorem foldl_offerEntry_frame (slot : Nat) (g : Serial) (b : Bool) (ds : List Delivery) (s : State) :
    ds.foldl (offerEntry slot g b) s = { s with
      sheets := (ds.foldl (offerEntry slot g b) s).sheets, lanes := (ds.foldl (offerEntry slot g b) s).lanes } := by
  induction ds generalizing s with
  | nil => rfl
  | cons d ds ih => exact ih (offerEntry slot g b s d)

theorem get_sheets_foldl_offerEntry_ne {slot m : Nat} (g : Serial) (b : Bool) (ds : List Delivery) (hm : m ≠ slot) (s : State) :
    (ds.foldl (offerEntry slot g b) s).sheets.get m = s.sheets.get m := by
  induction ds generalizing s with
  | nil => rfl
  | cons d ds ih => exact (ih _).trans (get_sheets_modDelivery_ne (s := modLane d.lane _ s) _ hm)

theorem lanes_foldl_offerEntry_self {slot : Nat} {g : Serial} {b : Bool} (hnodup : (ds.map (·.lane)).Nodup) {d : Delivery}
    (hd : d ∈ ds) (s : State) :
    (ds.foldl (offerEntry slot g b) s).lanes[d.lane] = s.lanes[d.lane].offer slot g d.side d.role b := by
  induction ds generalizing s with
  | nil => cases hd
  | cons a ds ih =>
    rw [List.map_cons, List.nodup_cons] at hnodup
    rw [List.foldl_cons]
    rcases List.mem_cons.1 hd with rfl | hd
    · have hne : ∀ c ∈ ds, c.lane ≠ d.lane := fun c hc h => hnodup.1 (h ▸ List.mem_map_of_mem hc)
      rw [lanes_foldl_offerEntry _ _ _ hne, lanes_offerEntry_self]
    · have hne : d.lane ≠ a.lane := fun h => hnodup.1 (h ▸ List.mem_map_of_mem hd)
      rw [ih hnodup.2 hd]
      exact congrArg (Lane.offer slot g d.side d.role b) (lanes_offerEntry_of_ne _ _ _ hne)

/-- The record whose entries are offered. -/
theorem get_sheets_foldl_offerEntry_self {slot : Nat} {g : Serial} {b : Bool} (hnodup : (ds.map (·.lane)).Nodup)
    (hp : ds.Pairwise (fun a d => a.side ≠ d.side ∨ a.role ≠ d.role)) (hr : s.sheets.get slot = some r) :
    ∃ q, (ds.foldl (offerEntry slot g b) s).sheets.get slot = some q ∧ q = { r with deliveries := q.deliveries } ∧
      (∀ d ∈ ds, ∀ z, deliveryOf r d.side d.role = some z →
        deliveryOf q d.side d.role = some (z.fly s.lanes[d.lane].takeNumber)) ∧
      ∀ a o, (∀ d ∈ ds, d.side ≠ a ∨ d.role ≠ o) → deliveryOf q a o = deliveryOf r a o := by
  induction ds generalizing s r with
  | nil => exact ⟨r, hr, rfl, nofun, fun _ _ _ => rfl⟩
  | cons a ds ih =>
    rw [List.map_cons, List.nodup_cons] at hnodup
    rw [List.pairwise_cons] at hp
    obtain ⟨q, hq, hframe, hself, hothers⟩ := ih hnodup.2 hp.2 (get_sheets_offerEntry_self (g := g) (b := b) (d := a) hr)
    refine ⟨q, hq, hframe, fun d hd z hz => ?_, fun i o hio => ?_⟩
    · rcases List.mem_cons.1 hd with rfl | hd
      · rw [hothers _ _ fun c hc => (hp.1 c hc).imp Ne.symm Ne.symm]
        exact deliveryOf_changeDelivery_self (Delivery.fly_keeps _) hz
      · have hne : d.lane ≠ a.lane := fun h => hnodup.1 (h ▸ List.mem_map_of_mem hd)
        have hlane : (offerEntry slot g b s a).lanes[d.lane] = s.lanes[d.lane] := lanes_offerEntry_of_ne _ _ _ hne
        rw [hself d hd z, hlane]
        rw [deliveryOf_changeDelivery_ne (Delivery.fly_keeps _) ((hp.1 d hd).imp Ne.symm Ne.symm)]
        exact hz
    · rw [hothers i o fun d hd => hio d (List.mem_cons_of_mem a hd)]
      exact deliveryOf_changeDelivery_ne (Delivery.fly_keeps _) ((hio a List.mem_cons_self).imp Ne.symm Ne.symm)

theorem offer_eq (slot : Nat) (g : Serial) (a : Side) (o : Role) (b : Bool) (x : Lane) : x.offer slot g a o b = { x with
    nextNo := x.takeNumber + 1
    window := x.window ++ [{ number := x.takeNumber, slot := slot, serial := g, side := a, role := o, secure := b }]
    ctrl := if x.state = .loopback then x.ctrl else x.ctrl ++ [.offer x.takeNumber g a o b]
    counters := { x.counters with offered := bump x.counters.offered } } := by
  unfold Lane.offer Lane.addCtrl
  dsimp only
  split <;> rfl

/-- Whether the deliveries of a record are to be secured (R147). -/
theorem secure_eq (s : State) (r : Sheet) : (match planRow s r with | some w => w.secure | none => false) =
    ((planRow s r).map (·.secure)).getD false := by
  cases planRow s r <;> rfl

theorem startUpload_eq (e : Nat) (c : Eligible) (s : State) : ∃ v, v = c.takes.foldl (offerEntry c.slot c.serial
      (((planRow s c.record).map (·.secure)).getD false)) s ∧
    startUpload e c s = onQueues e (Queues.addUpload c.record.tag c.side)
      { v with uploads := v.uploads.put e c.upload, lastUpload := e } := by
  refine ⟨_, rfl, ?_⟩
  rw [← secure_eq]
  rfl

/-- Settles O52, from the row of a record to the start of its upload. -/
theorem arbiterStartsUploads : Obligations.ArbiterStartsUploads := by
  unfold Obligations.ArbiterStartsUploads
  refine ⟨fun s r row => planRow_eq_some, fun s e => present_iff, fun n r row k s hr hs hi hd hrow one hone => ?_,
    fun s l => laneFree_iff, fun s r d t => ?_, fun s e => ⟨fun c hc => ?_, stationChoice_eq_none⟩, fun s => arbitrate_of_none,
    fun s i c => arbitrate_of_first, fun s e he => stationChoice_arbitrate s he, fun x => takeNumber_spec, ?_⟩
  · rw [buildEntries_of_due hr hs hi hd hrow]
    have hlist : buildList row k = if k = .one then one .one else one .one ++ one .two := by
      cases k <;> simp only [buildList, hone, ← sideEntries_eq, reduceCtorEq, if_true, if_false]
    rw [hlist]
  · rw [sideEligible_iff]
    refine and_congr_right fun _ => and_congr_right fun _ => and_congr_right fun _ => ?_
    constructor
    · rintro ⟨l, hl, h⟩
      obtain ⟨x, m, hw, hspec⟩ := sideTakes_eq_iff.1 h
      exact ⟨l, _, hl, rfl, x, m, hw, hspec⟩
    · rintro ⟨l, w, hl, rfl, x, m, hw, hspec⟩
      exact ⟨l, hl, sideTakes_eq_iff.2 ⟨x, m, hw, hspec⟩⟩
  · obtain ⟨hmem, hpres, hnone⟩ := mem_of_stationChoice hc
    obtain ⟨helig, hrec, hst, -⟩ := mem_eligibleSides hmem
    exact ⟨hpres, hnone, hrec, hst, helig, fun hlt p hp he d hd => stationChoice_least hc hlt hp he hd⟩
  · intro e c x s u hx hr hnodup hp hu
    obtain ⟨v, hv, hstart⟩ := startUpload_eq e c s
    obtain ⟨z, hz⟩ : ∃ z, ({ v with uploads := v.uploads.put e c.upload, lastUpload := e } : State) = z := ⟨_, rfl⟩
    have hvf : v = { s with sheets := v.sheets, lanes := v.lanes } := hv ▸ foldl_offerEntry_frame _ _ _ _ s
    have hzf : z = { s with sheets := v.sheets, lanes := v.lanes, uploads := z.uploads, lastUpload := e } := by
      rw [← hz]
      exact congrArg (fun t : State => { t with uploads := v.uploads.put e c.upload, lastUpload := e }) hvf
    have huploads : z.uploads = s.uploads.put e c.upload := by
      rw [← hz, hvf]
    have huf : u = { z with ports := u.ports } := by rw [← hu, hstart, hz]; exact onQueues_frame _ _ _
    refine ⟨?_, fun p hpt => ?_, fun f hf => ?_, fun g hg => ?_⟩
    · rw [huf, hzf]
    · rw [← hu, hstart, hz, ports_onQueues_self (s := z) (x := x) _ (by rw [hzf]; exact hx) hpt, hzf]
      rfl
    · rw [huf, huploads, Tab.get_put_other _ _ hf]
    · subst hg
      refine ⟨?_, fun m hm => ?_, fun l hl => ?_, ?_, fun d hd n b hn hb => ?_⟩
      · rw [huf, huploads, Tab.get_put_self]
        rfl
      · rw [huf, hzf, hv]
        exact get_sheets_foldl_offerEntry_ne _ _ _ hm s
      · rw [huf, hzf, hv]
        exact lanes_foldl_offerEntry _ _ _ hl s
      · rw [huf, hzf, hv]
        exact get_sheets_foldl_offerEntry_self hnodup hp hr
      · subst hn hb
        rw [huf, hzf, hv]
        exact (lanes_foldl_offerEntry_self hnodup hd s).trans (offer_eq _ _ _ _ _ _)

end Sys2Proof.Machine
end

section
/-! The verdict: its evidence under a policy (R92, R96, R97), and what its class kind does to the batch (R110, R111). -/

set_option Elab.async false

namespace Sys2Proof.Machine

variable {r : Sheet} {k : Captured} {x : Bool}

theorem system_iff {v : Evidence} : v.system = true ↔ v.cleared = true ∨ v.linkLost = true ∨ v.beyondEnd = true ∨ v.passed = true := by
  simp only [Evidence.system, Bool.or_eq_true, or_assoc]

theorem length_filter_true (l : List Bool) : (l.filter (· = true)).length = (l.map Bool.toNat).sum := by
  induction l with
  | nil => rfl
  | cons b l ih =>
    cases b with
    | false => rw [List.filter_cons_of_neg (by decide), ih, List.map_cons, List.sum_cons, Bool.toNat_false, Nat.zero_add]
    | true => rw [List.filter_cons_of_pos (by decide), List.length_cons, ih, List.map_cons, List.sum_cons, Bool.toNat_true, Nat.add_comm]

theorem maskable_eq (v : Evidence) :
    v.maskable = ([v.thickness, v.length, v.shortLength, v.shortGap].filter (· = true)).length := by
  rw [length_filter_true, Evidence.maskable]
  simp only [List.map_cons, List.map_nil, List.sum_cons, List.sum_nil, Nat.add_zero, Nat.add_assoc]

theorem thicknessEvidence_iff {v : ThickVerdict × Byte} (hv : r.thick = some v) : thicknessEvidence r k x = true ↔ x = false ∧
    (v.1 = .multiple ∨ (v.1 = .unknown ∧ k.policy.unknownCounts = true)) := by
  obtain ⟨a, n⟩ := v
  rw [thicknessEvidence, hv, Bool.and_eq_true, Bool.not_eq_true']
  refine and_congr_right fun _ => ?_
  cases a <;> simp

theorem lengthEvidence_iff : lengthEvidence r k = true ↔ ∃ n b, r.length = some n ∧ k.band = some b ∧ b.max < n := by
  unfold lengthEvidence
  cases r.length <;> cases k.band <;> simp

theorem shortLengthEvidence_iff : shortLengthEvidence r k = true ↔
    ∃ n b, r.length = some n ∧ k.band = some b ∧ n < b.min := by
  unfold shortLengthEvidence
  cases r.length <;> cases k.band <;> simp

theorem shortGapEvidence_iff : shortGapEvidence r k = true ↔ ∃ g, r.gap = some g ∧ g < k.minGap := by
  unfold shortGapEvidence
  cases r.gap <;> simp

theorem decideVerdict_eq_suspect {v : Evidence} {a : Agreement} : decideVerdict v a = .suspect ↔ v.system = true ∨
    (a = .any ∧ 1 ≤ v.maskable) ∨ (a = .two ∧ 2 ≤ v.maskable) := by
  have hif : decideVerdict v a = .suspect ↔ (v.system || decide (agreementCount a ≤ v.maskable)) = true := by
    unfold decideVerdict
    split <;> simp_all
  rw [hif, Bool.or_eq_true, decide_eq_true_eq]
  cases a <;> simp [agreementCount]

theorem decideVerdict_cases (v : Evidence) (a : Agreement) : decideVerdict v a = .clear ∨ decideVerdict v a = .suspect := by
  unfold decideVerdict
  split
  · exact .inr rfl
  · exact .inl rfl

/-- Settles O48, member by member. -/
theorem verdictFollowsThePolicy : Obligations.VerdictFollowsThePolicy := by
  unfold Obligations.VerdictFollowsThePolicy
  refine ⟨fun v => ⟨system_iff, maskable_eq v⟩, fun r k classes => ⟨_, rfl, rfl, rfl, rfl, rfl, ?_, ?_, ?_, ?_, rfl, rfl, rfl, rfl,
    decideVerdict_eq_suspect, decideVerdict_cases _ _, rfl, rfl, rfl⟩⟩
  · exact (Bool.and_eq_true ..).to_iff.trans (and_congr_right fun _ => thicknessEvidence_iff rfl)
  · exact (Bool.and_eq_true ..).to_iff.trans (and_congr_right fun _ => lengthEvidence_iff)
  · exact (Bool.and_eq_true ..).to_iff.trans (and_congr_right fun _ => shortLengthEvidence_iff)
  · exact (Bool.and_eq_true ..).to_iff.trans (and_congr_right fun _ => shortGapEvidence_iff)

/-! A batch table with a key twice -/

/-- A state whose batch table has the handle 0 twice, once with its document open. No step leads to it, and the statement does
not exclude it. -/
def twoBatches : State :=
  { State.reset with batches := [(0, { label := [0x41] }), (0, { label := [0x42], documentOpen := true })] }

/-- Refutes O49: where the batch table has a handle twice, a DOCUMENT verdict leaves the second record, whose document is open,
as it is, while the change of both that the statement gives begins a document in it. -/
theorem not_verdictDisposesAndActs : ¬ Obligations.VerdictDisposesAndActs := by
  unfold Obligations.VerdictDisposesAndActs
  rintro ⟨-, -, -, hkind, -⟩
  obtain ⟨hdocument, -⟩ := hkind 0 0 { batch := 0, station := 0, tag := 0 } { label := [0x41] } twoBatches (by decide)
  have hbatches := congrArg State.batches (hdocument rfl)
  revert hbatches
  decide

end Sys2Proof.Machine
end

section
/-! What a STATUS makes of its entry, and the judgments of the cover, of reverse motion and of jams (R65, R76, R77, R88). -/

set_option Elab.async false

namespace Sys2Proof.Machine

variable {s t u : State} {p q : Fin 16} {e h n : Nat} {x y : Entry} {w : StatusWord} {f : StationFacts} {c : Place} {o : Pos}

/-! A judgment of an entry in use -/

theorem onEntry_of_get {k : Entry → State → State} (hx : s.entries.get e = some x) : onEntry e k s = k x s := by
  rw [onEntry, hx]

/-! Jams and reverse motion -/

theorem placeJammed_of_no_lead (hc : c.gaugeLead = none) :
    placeJammed s f o c = true ↔ f.pickToGauge + s.room.jamSlack < posDiff c.pickLead o := by
  rw [placeJammed, hc]
  exact decide_eq_true_iff

theorem placeJammed_of_no_trail {a : Pos} (ha : c.gaugeLead = some a) (hc : c.gaugeTrail = none) :
    placeJammed s f o c = true ↔ 5000 + s.room.jamSlack < posDiff a o := by
  rw [placeJammed, ha, hc]
  exact decide_eq_true_iff

theorem placeJammed_of_trail {a b : Pos} {r : Sheet} (ha : c.gaugeLead = some a) (hb : c.gaugeTrail = some b)
    (hr : s.sheets.get c.slot = some r) (hn : r.length = some n) :
    placeJammed s f o c = true ↔ f.gaugeToExit + n + s.room.jamSlack < posDiff b o := by
  simp only [placeJammed, ha, hb, hr, hn, Option.bind_some, Option.getD_some, decide_eq_true_eq]

/-- A jam is one of the sheets' lengths and the slack alone. -/
theorem placeJammed_congr (hs : t.sheets = s.sheets) (hr : t.room = s.room) : placeJammed t f o c = placeJammed s f o c := by
  unfold placeJammed
  rw [hs, hr]

theorem pathJammed_iff : pathJammed s x = true ↔
    ∃ f o, x.facts = some f ∧ x.lastPos = some o ∧ ∃ c ∈ x.path, placeJammed s f o c = true := by
  unfold pathJammed
  cases x.facts <;> cases x.lastPos <;> simp

theorem reversing_iff : x.reversing = true ↔ ∃ v, x.view = some v ∧ v.direction = .reverse := by
  unfold Entry.reversing
  cases x.view <;> simp

/-- What halts a station with JAM (R88). -/
def Entry.Jams (s : State) (x : Entry) : Prop :=
  x.feed.moving = true ∧ x.reversing = false ∧ pathJammed s x = true

/-- What halts a station with REVERSE (R77). -/
def Entry.Backs (x : Entry) : Prop := x.feed.moving = true ∧ x.reversing = true ∧ x.path ≠ []

theorem jams_iff : x.Jams s ↔ (x.feed = .running ∨ x.feed = .ready) ∧ (∀ v, x.view = some v → v.direction ≠ .reverse) ∧
    ∃ f o, x.facts = some f ∧ x.lastPos = some o ∧ ∃ c ∈ x.path, placeJammed s f o c = true := by
  have hrev : x.reversing = false ↔ ∀ v, x.view = some v → v.direction ≠ .reverse := by
    rw [← Bool.not_eq_true, reversing_iff, not_exists]
    exact forall_congr' fun v => not_and
  rw [Entry.Jams, moving_iff, hrev, pathJammed_iff]

theorem backs_iff : x.Backs ↔ (x.feed = .running ∨ x.feed = .ready) ∧ x.path ≠ [] ∧
    ∃ v, x.view = some v ∧ v.direction = .reverse := by
  rw [Entry.Backs, moving_iff, reversing_iff, and_comm (a := x.path ≠ [])]

theorem judgeJam_of_jams (h : x.Jams s) : judgeJam e x s = halt e .jam s := by
  obtain ⟨hm, hr, hj⟩ := h
  rw [judgeJam, if_pos]
  rw [hm, hr, hj]
  rfl

theorem judgeJam_of_not (h : ¬ x.Jams s) : judgeJam e x s = s := by
  rw [judgeJam, if_neg]
  rw [Bool.and_eq_true, Bool.and_eq_true, Bool.not_eq_true', and_assoc]
  exact h

theorem judgeReverse_of_backs (h : x.Backs) : judgeReverse e x s = halt e .reverse s := by
  obtain ⟨hm, hr, hp⟩ := h
  rw [judgeReverse, if_pos]
  rw [hm, hr]
  simpa using hp

theorem judgeReverse_of_not (h : ¬ x.Backs) : judgeReverse e x s = s := by
  rw [judgeReverse, if_neg]
  rw [Bool.and_eq_true, Bool.and_eq_true, Bool.not_eq_true', and_assoc, List.isEmpty_eq_false_iff]
  exact h

/-! The cover and the end of clearing -/

theorem judgeCover_of_closed (h : x.coverOpen = false) : judgeCover e x s = s := by
  rw [judgeCover, h]
  rfl

theorem judgeClearing_of_ne (h : x.feed ≠ .clearing) : judgeClearing e x s = s :=
  if_neg fun ⟨hf, _, _⟩ => h hf

/-! The call flag and the view -/

/-- The word makes a new call (R65). -/
def newCall (p : Fin 16) (w : StatusWord) (s : State) : Bool := w.call && !s.ports[p].lastCall

/-- The entry as a STATUS leaves it, before it is judged. -/
def Entry.reported (w : StatusWord) (call picking : Bool) (x : Entry) : Entry :=
  { x with
    view := some w.view, lastPos := some w.position
    traySeenEmpty := x.traySeenEmpty || (picking && w.view.trayEmpty), identify := x.identify && !call }

/-- The state as a STATUS leaves it, before it is judged. -/
def reported (p : Fin 16) (w : StatusWord) (e : Nat) (s : State) : State := fillView e w (takeCall e p w.call s)

theorem takeCall_of_old (h : newCall p w s = false) : takeCall e p w.call s = modPort p (fun x => { x with lastCall := w.call }) s :=
  if_neg (Bool.eq_false_iff.1 h)

theorem takeCall_of_new_lit (h : newCall p w s = true) (hx : s.entries.get e = some x) (hi : x.identify = true) :
    takeCall e p w.call s = onQueues e (Queues.addIdentify false) (modEntry e (fun x => { x with identify := false })
      (raise .stationCall e (modPort p (fun x => { x with lastCall := w.call }) s))) := by
  refine (if_pos h).trans ?_
  rw [hx]
  exact if_pos hi

theorem takeCall_of_new_dark (h : newCall p w s = true) (hx : s.entries.get e = some x) (hi : x.identify = false) :
    takeCall e p w.call s = raise .stationCall e (modPort p (fun x => { x with lastCall := w.call }) s) := by
  refine (if_pos h).trans ?_
  rw [hx]
  exact if_neg (Bool.eq_false_iff.1 hi)

theorem takeCall_frame (e : Nat) (p : Fin 16) (c : Bool) (s : State) : takeCall e p c s =
    { s with
      entries := (takeCall e p c s).entries, ports := (takeCall e p c s).ports
      attention := (takeCall e p c s).attention } := by
  obtain ⟨r, hr⟩ : ∃ r, raise .stationCall e (modPort p (fun x => { x with lastCall := c }) s) = r := ⟨_, rfl⟩
  have hframe : r = { modPort p (fun x => { x with lastCall := c }) s with attention := r.attention } := hr ▸ raise_frame ..
  unfold takeCall
  dsimp only
  rw [hr]
  split
  · split
    · split
      · rw [onQueues_frame, hframe]
        rfl
      · rw [hframe]
        rfl
    · rw [hframe]
      rfl
  · rfl

theorem get_entries_takeCall_self (hx : s.entries.get e = some x) :
    (takeCall e p w.call s).entries.get e = some { x with identify := x.identify && !newCall p w s } := by
  cases hn : newCall p w s with
  | false => simp [takeCall_of_old hn, hx]
  | true =>
    cases hi : x.identify with
    | false => simp [takeCall_of_new_dark hn hx hi, hx, ← hi]
    | true => simp [takeCall_of_new_lit hn hx hi, hx]

theorem get_entries_takeCall_ne {c : Bool} {j : Nat} (hj : j ≠ e) : (takeCall e p c s).entries.get j = s.entries.get j := by
  unfold takeCall
  dsimp only
  split
  · split
    · split
      · rw [onQueues_entries, get_entries_modEntry_ne _ hj, raise_entries, modPort_entries]
      · rw [raise_entries, modPort_entries]
    · rw [raise_entries, modPort_entries]
  · rw [modPort_entries]

theorem reported_frame (p : Fin 16) (w : StatusWord) (e : Nat) (s : State) : reported p w e s =
    { s with
      entries := (reported p w e s).entries, ports := (reported p w e s).ports
      attention := (reported p w e s).attention } :=
  congrArg (fun t : State => { t with entries := (reported p w e s).entries }) (takeCall_frame e p w.call s)

@[simp] theorem reported_sheets : (reported p w e s).sheets = s.sheets := by rw [reported_frame]
@[simp] theorem reported_room : (reported p w e s).room = s.room := by rw [reported_frame]
@[simp] theorem reported_batches : (reported p w e s).batches = s.batches := by rw [reported_frame]

theorem pickingOf_congr (h : t.sheets = s.sheets) : pickingOf t e = pickingOf s e := by
  rw [pickingOf, pickingOf, h]

theorem get_entries_reported_self (hx : s.entries.get e = some x) : (reported p w e s).entries.get e =
    some (x.reported w (newCall p w s) (pickingOf s e).isSome) := by
  have hsheets : (takeCall e p w.call s).sheets = s.sheets := by rw [takeCall_frame]
  rw [reported, fillView, get_entries_modEntry_self _ (get_entries_takeCall_self hx), pickingOf_congr hsheets]
  rfl

theorem get_entries_reported_ne {j : Nat} (hj : j ≠ e) : (reported p w e s).entries.get j = s.entries.get j := by
  rw [reported, fillView, get_entries_modEntry_ne _ hj, get_entries_takeCall_ne hj]

theorem attention_reported (hx : s.entries.get e = some x) : (reported p w e s).attention =
    if newCall p w s then (raise .stationCall e s).attention else s.attention := by
  rw [reported, fillView, modEntry_attention]
  cases hn : newCall p w s with
  | false =>
    rw [takeCall_of_old hn]
    rfl
  | true =>
    rw [if_pos rfl]
    cases hi : x.identify with
    | false =>
      rw [takeCall_of_new_dark hn hx hi]
      exact raise_attention_congr rfl rfl
    | true =>
      rw [takeCall_of_new_lit hn hx hi, onQueues_attention, modEntry_attention]
      exact raise_attention_congr rfl rfl

/-- Every raise keeps indices below 256 in the attention set (R162). -/
theorem attention_lt_raise {k : AttnKind} {i : Nat} (hi : i < 256) (ha : ∀ a ∈ s.attention, a.2 < 256) :
    ∀ a ∈ (raise k i s).attention, a.2 < 256 := by
  intro a hm
  unfold raise at hm
  split at hm
  · exact ha a hm
  · rcases mem_of_mem_attnInsert hm with rfl | hm
    · exact hi
    · exact ha a hm

theorem attention_lt_reported (hx : s.entries.get e = some x) (he : e < 256) (ha : ∀ a ∈ s.attention, a.2 < 256) :
    ∀ a ∈ (reported p w e s).attention, a.2 < 256 := by
  rw [attention_reported hx]
  split
  · exact attention_lt_raise he ha
  · exact ha

/-! The judgments of a STATUS -/

/-- The state a STATUS is judged in, once the cover, the direction and the jams are. -/
def judgedStatus (e : Nat) (s : State) : State :=
  onEntry e (judgeClearing e) (onEntry e (judgeJam e) (onEntry e (judgeReverse e) (onEntry e (judgeCover e) s)))

theorem statusTaken_eq (p : Fin 16) (w : StatusWord) (e : Nat) (s : State) :
    statusTaken p w e s = settle (stationBatches s e) [e] s.lastAlloc (judgedStatus e (reported p w e s)) := rfl

theorem leaves_status (hs : Runs s) (ha : AttachedTo s p e) : Leaves (.status p w) s
    (settle (stationBatches s e) [e] s.lastAlloc (judgedStatus e (reported p w e (counted p s)))) :=
  leaves_of_attached (k := statusTaken p w) hs ha

/-- The cause that halts a moving station with a closed cover. -/
theorem judgedStatus_of_closed (hx : s.entries.get e = some x) (hm : x.feed.moving = true) (hc : x.coverOpen = false) :
    (x.Backs → judgedStatus e s = halt e .reverse s) ∧ (x.Jams s → judgedStatus e s = halt e .jam s) ∧
    (¬ x.Backs → ¬ x.Jams s → judgedStatus e s = s) := by
  have hhalted : ∀ k, (x.halted k).feed = .halted := fun k => by rw [halted_of_moving hm, hc]; rfl
  have hget : ∀ k, (halt e k s).entries.get e = some (x.halted k) := fun k => get_entries_halt_self hx
  have hquiet : ∀ k, onEntry e (judgeClearing e) (halt e k s) = halt e k s := fun k => by
    rw [onEntry_of_get (hget k), judgeClearing_of_ne (by rw [hhalted]; nofun)]
  have hstill : x.feed ≠ .clearing := fun h => by rw [h] at hm; cases hm
  unfold judgedStatus
  rw [onEntry_of_get hx, judgeCover_of_closed hc, onEntry_of_get hx]
  refine ⟨fun hb => ?_, fun hj => ?_, fun hb hj => ?_⟩
  · rw [judgeReverse_of_backs hb, onEntry_of_get (hget _), judgeJam_of_not, hquiet]
    rintro ⟨hmoving, -⟩
    rw [hhalted] at hmoving
    cases hmoving
  · have hb : ¬ x.Backs := fun ⟨_, hr, _⟩ => by obtain ⟨-, hr', -⟩ := hj; rw [hr] at hr'; cases hr'
    rw [judgeReverse_of_not hb, onEntry_of_get hx, judgeJam_of_jams hj, hquiet]
  · rw [judgeReverse_of_not hb, onEntry_of_get hx, judgeJam_of_not hj, onEntry_of_get hx, judgeClearing_of_ne hstill]

theorem mem_attention_halt {k : HaltCause} (hx : s.entries.get e = some x) (hr : haltRaises x.feed k = true)
    (hk : AttnKind.stationHalted ∉ s.room.mask) (he : e < 256) (ha : ∀ a ∈ s.attention, a.2 < 256) :
    (.stationHalted, e) ∈ (halt e k s).attention := by
  rw [attention_halt hx, if_pos hr]
  exact mem_attention_raise_self hk he ha

theorem haltRaises_of_moving {k : HaltCause} {a : FeedState} (ha : a.moving = true) : haltRaises a k = true := by
  rcases moving_iff.1 ha with rfl | rfl <;> rfl

/-- Settles O46, by what halts the station. -/
theorem jamsAndReverseMotionHalt : Obligations.JamsAndReverseMotionHalt := by
  unfold Obligations.JamsAndReverseMotionHalt
  refine ⟨fun f o c s => ⟨placeJammed_of_no_lead, fun a => placeJammed_of_no_trail, fun a b r n => placeJammed_of_trail⟩,
    fun e x s jams backs hjams hbacks => ?_, fun p e w s x hs ha hx he hattn hfeed hclosed => ?_⟩
  · rw [← jams_iff] at hjams
    rw [← backs_iff] at hbacks
    exact ⟨fun h => judgeJam_of_jams (hjams.1 h), fun h => judgeJam_of_not (h ∘ hjams.2),
      fun h => judgeReverse_of_backs (hbacks.1 h), fun h => judgeReverse_of_not (h ∘ hbacks.2)⟩
  · obtain ⟨v, hv⟩ : ∃ v, reported p w e (counted p s) = v := ⟨_, rfl⟩
    obtain ⟨y, hy⟩ : ∃ y, x.reported w (newCall p w (counted p s)) (pickingOf (counted p s) e).isSome = y := ⟨_, rfl⟩
    have hget : v.entries.get e = some y := hv ▸ hy ▸ get_entries_reported_self hx
    have hyfeed : y.feed = x.feed := by rw [← hy]; rfl
    have hypath : y.path = x.path := by rw [← hy]; rfl
    have hyfacts : y.facts = x.facts := by rw [← hy]; rfl
    have hypos : y.lastPos = some w.position := by rw [← hy]; rfl
    have hycause : y.cause = x.cause := by rw [← hy]; rfl
    have hyview : y.view = some w.view := by rw [← hy]; rfl
    have hmoving : y.feed.moving = true := moving_iff.2 (hyfeed ▸ hfeed)
    have hycover : y.coverOpen = false := by rw [Entry.coverOpen, hyview]; exact hclosed
    have hsheets : v.sheets = s.sheets := by rw [← hv, reported_sheets]; rfl
    have hroom : v.room = s.room := by rw [← hv, reported_room]; rfl
    have hplace : ∀ f o c, placeJammed v f o c = placeJammed s f o c := fun f o c => placeJammed_congr hsheets hroom
    have hrev : y.reversing = true ↔ w.view.direction = .reverse := by rw [Entry.reversing, hyview]; exact decide_eq_true_iff
    have hlt : ∀ a ∈ v.attention, a.2 < 256 := hv ▸ attention_lt_reported hx (he.trans (by decide)) hattn
    obtain ⟨hbacked, hjammed, hquiet⟩ := judgedStatus_of_closed hget hmoving hycover
    have hleaves : Leaves (.status p w) s (settle (stationBatches s e) [e] s.lastAlloc (judgedStatus e v)) :=
      hv ▸ leaves_status hs ha
    have hhalt : ∀ k, ∃ z, (halt e k v).entries.get e = some z ∧ z.path = x.path ∧ z.feed = .halted ∧ z.cause = some k ∧
        (AttnKind.stationHalted ∉ s.room.mask → (.stationHalted, e) ∈ (halt e k v).attention) := fun k => by
      refine ⟨_, get_entries_halt_self hget, ?_, ?_, ?_, fun hk =>
        mem_attention_halt hget (haltRaises_of_moving hmoving) (hroom.symm ▸ hk) (he.trans (by decide)) hlt⟩
      · rw [halted_of_moving hmoving, ← hypath]
      · rw [halted_of_moving hmoving, hycover]
        rfl
      · rw [halted_of_moving hmoving]
    have hjamsOf : y.Jams v ↔ w.view.direction ≠ .reverse ∧ ∃ f, x.facts = some f ∧
        ∃ c ∈ x.path, placeJammed s f w.position c = true := by
      rw [Entry.Jams, and_iff_right hmoving, ← Bool.not_eq_true, hrev, pathJammed_iff]
      refine and_congr_right fun _ => ?_
      rw [hyfacts, hypath, hypos]
      simp [hplace]
    have hbacksOf : y.Backs ↔ w.view.direction = .reverse ∧ x.path ≠ [] := by
      rw [Entry.Backs, and_iff_right hmoving, hrev, hypath]
    by_cases hb : y.Backs
    · obtain ⟨z, hz, hzpath, hzfeed, hzcause, hraise⟩ := hhalt .reverse
      obtain ⟨hdir, hpath⟩ := hbacksOf.1 hb
      rw [hbacked hb] at hleaves
      exact ⟨_, z, hleaves, hz, hzpath, fun _ _ => ⟨hzfeed, hzcause, hraise⟩, fun f hd => absurd hdir hd,
        fun f hf hno hd => absurd hd (not_or.2 ⟨not_not.2 hdir, hpath⟩)⟩
    · by_cases hj : y.Jams v
      · obtain ⟨z, hz, hzpath, hzfeed, hzcause, hraise⟩ := hhalt .jam
        obtain ⟨hdir, g, hg, c, hc, hcj⟩ := hjamsOf.1 hj
        rw [hjammed hj] at hleaves
        refine ⟨_, z, hleaves, hz, hzpath, fun hd _ => absurd hd hdir, fun f _ _ _ => ⟨hzfeed, hzcause, hraise⟩,
          fun f hf hno _ => ?_⟩
        cases hg.symm.trans hf
        rw [hno c hc] at hcj
        cases hcj
      · rw [hquiet hb hj] at hleaves
        exact ⟨_, y, hleaves, hget, hypath, fun hd hp => absurd (hbacksOf.2 ⟨hd, hp⟩) hb,
          fun f hd hf hex => absurd (hjamsOf.2 ⟨hd, f, hf, hex⟩) hj, fun f hf hno _ => ⟨hyfeed, hycause⟩⟩

end Sys2Proof.Machine
end

section
/-! What the judgments that end an event keep of the records: of an entry all but its binding, feed state and grant counts, of a
batch its counts, every sheet, every raised condition, and of a port all but a waiting GRANT (R13, R22, R30–R33, R80, R123). -/

set_option Elab.async false

namespace Sys2Proof.Machine

variable {s t u : State} {p q : Fin 16} {e h n j : Nat} {x y z : Entry} {a b d : Batch} {g : Tag} {c : Prop}

/-! The records of one entry and one batch -/

/-- What the judgments leave of the entry `x`: `c` says whether a batch may part from it, `free` whether a grant may be
decided for it. -/
structure EntrySettled (c free : Prop) (x y : Entry) : Prop where
  frame : y = { x with
    bound := y.bound, feed := y.feed, cause := y.cause, nextTag := y.nextTag, liveCount := y.liveCount
    traySeenEmpty := y.traySeenEmpty }
  feed : (y.feed = x.feed ∧ y.cause = x.cause ∧ y.bound = x.bound) ∨
    (c ∧ x.feed ≠ .clearing ∧ y.feed = .idle ∧ y.cause = none ∧ y.bound = none)
  tray : y.traySeenEmpty = x.traySeenEmpty ∨ (free ∧ x.feed = .running ∧ y.traySeenEmpty = false)

theorem EntrySettled.refl (c free : Prop) (x : Entry) : EntrySettled c free x x := ⟨rfl, .inl ⟨rfl, rfl, rfl⟩, .inl rfl⟩

theorem EntrySettled.trans {c free free' : Prop} (h : EntrySettled c free x y) (k : EntrySettled c free' y z)
    (hfree : free' → free) : EntrySettled c free x z where
  frame := k.frame.trans (congrArg (fun w : Entry => { w with
    bound := z.bound, feed := z.feed, cause := z.cause, nextTag := z.nextTag, liveCount := z.liveCount
    traySeenEmpty := z.traySeenEmpty }) h.frame)
  feed := by
    rcases k.feed with ⟨hf, hc, hb⟩ | ⟨hc, hf, hlast⟩
    · rw [hf, hc, hb]
      exact h.feed
    · rcases h.feed with ⟨hf', -, -⟩ | ⟨-, hf', -⟩
      · exact .inr ⟨hc, hf' ▸ hf, hlast⟩
      · exact .inr ⟨hc, hf', hlast⟩
  tray := by
    rcases k.tray with ht | ⟨hfree', hrun, ht⟩
    · rw [ht]
      exact h.tray
    · rcases h.feed with ⟨hf, -, -⟩ | ⟨-, -, hf, -⟩
      · exact .inr ⟨hfree hfree', hf ▸ hrun, ht⟩
      · rw [hf] at hrun
        cases hrun

/-- What the judgments leave of a batch. -/
structure BatchSettled (b d : Batch) : Prop where
  frame : d = { b with
    picking := d.picking, pauses := d.pauses, state := d.state, outcome := d.outcome, bound := d.bound, target := d.target
    pendingAmend := d.pendingAmend, last := d.last, passed := d.passed, plan := d.plan, policy := d.policy, band := d.band
    minGap := d.minGap }
  closed : b.state = .closed → d = b

theorem BatchSettled.refl (b : Batch) : BatchSettled b b := ⟨rfl, fun _ => rfl⟩

theorem BatchSettled.of_open (hb : b.state ≠ .closed) (hd : d = { b with
    picking := d.picking, pauses := d.pauses, state := d.state, outcome := d.outcome, bound := d.bound, target := d.target
    pendingAmend := d.pendingAmend, last := d.last, passed := d.passed, plan := d.plan, policy := d.policy, band := d.band
    minGap := d.minGap } := by rfl) : BatchSettled b d := ⟨hd, fun hc => absurd hc hb⟩

theorem BatchSettled.trans (h : BatchSettled a b) (k : BatchSettled b d) : BatchSettled a d where
  frame := k.frame.trans (congrArg (fun w : Batch => { w with
    picking := d.picking, pauses := d.pauses, state := d.state, outcome := d.outcome, bound := d.bound, target := d.target
    pendingAmend := d.pendingAmend, last := d.last, passed := d.passed, plan := d.plan, policy := d.policy, band := d.band
    minGap := d.minGap }) h.frame)
  closed hc := by
    obtain rfl := h.closed hc
    exact k.closed hc

/-! The records of a state -/

/-- From `s` to `t` the records are those the judgments leave; `c` says whether a batch may part from its station. -/
structure Settles (c : Prop) (s t : State) : Prop where
  entry : ∀ e x, s.entries.get e = some x →
    ∃ y, t.entries.get e = some y ∧ EntrySettled c (pickingOf s e = none) x y
  absent : ∀ e, s.entries.get e = none → t.entries.get e = none
  batch : ∀ h b, s.batches.get h = some b → ∃ d, t.batches.get h = some d ∧ BatchSettled b d
  sheet : ∀ n r, s.sheets.get n = some r → t.sheets.get n = some r
  listed : ∀ q ∈ s.sheets, q ∈ t.sheets
  made : ∀ q ∈ t.sheets, q ∈ s.sheets ∨ (s.sheets.get q.1 = none ∧ (∃ h e g, q.2 = newSheet h e g) ∧
    ∀ b, s.batches.get q.2.batch = some b → b.state ≠ .closed)
  raised : ∀ a ∈ s.attention, a ∈ t.attention
  port : ∀ p : Fin 16, t.ports[p] =
    { s.ports[p] with queues := { s.ports[p].queues with grant := t.ports[p].queues.grant } }
  grant : ∀ p : Fin 16, t.ports[p].queues.grant = s.ports[p].queues.grant ∨
    ∃ e x g, s.entries.get e = some x ∧ x.port = some p ∧ t.ports[p].queues.grant = some g ∧
      ∀ q ∈ s.sheets, q.2.station = e → q.2.tag ≠ g

theorem settles_of_records (he : t.entries = s.entries) (hb : t.batches = s.batches) (hs : t.sheets = s.sheets)
    (hp : t.ports = s.ports) (ha : ∀ a ∈ s.attention, a ∈ t.attention) : Settles c s t where
  entry e x hx := ⟨x, he ▸ hx, .refl ..⟩
  absent e hx := he ▸ hx
  batch h b hb' := ⟨b, hb ▸ hb', .refl b⟩
  sheet n r hr := hs ▸ hr
  listed q hq := hs ▸ hq
  made q hq := .inl (hs ▸ hq)
  raised := ha
  port p := by rw [hp]
  grant p := .inl (by rw [hp])

theorem Settles.refl (s : State) : Settles c s s := settles_of_records rfl rfl rfl rfl fun _ => id

theorem pickingOf_eq_none_of_listed (hl : ∀ q ∈ s.sheets, q ∈ t.sheets) (hp : pickingOf t e = none) :
    pickingOf s e = none := by
  rw [pickingOf_eq_none] at hp ⊢
  exact fun q hq => hp q (hl q hq)

theorem Settles.trans (h : Settles c s t) (k : Settles c t u) : Settles c s u where
  entry e x hx := by
    obtain ⟨y, hy, hxy⟩ := h.entry e x hx
    obtain ⟨z, hz, hyz⟩ := k.entry e y hy
    exact ⟨z, hz, hxy.trans hyz (pickingOf_eq_none_of_listed h.listed)⟩
  absent e hx := k.absent e (h.absent e hx)
  batch i b hb := by
    obtain ⟨d, hd, hbd⟩ := h.batch i b hb
    obtain ⟨f, hf, hdf⟩ := k.batch i d hd
    exact ⟨f, hf, hbd.trans hdf⟩
  sheet n r hr := k.sheet n r (h.sheet n r hr)
  listed q hq := k.listed q (h.listed q hq)
  made q hq := by
    rcases k.made q hq with hq | ⟨hfree, hnew, hopen⟩
    · exact h.made q hq
    · refine .inr ⟨?_, hnew, fun b hb hc => ?_⟩
      · cases hs : s.sheets.get q.1 with
        | none => rfl
        | some r => exact nomatch hfree.symm.trans (h.sheet _ r hs)
      · obtain ⟨d, hd, hbd⟩ := h.batch _ b hb
        exact hopen d hd (hbd.closed hc ▸ hc)
  raised a ha := k.raised a (h.raised a ha)
  port p := (k.port p).trans (congrArg (fun y : Port =>
    { y with queues := { y.queues with grant := u.ports[p].queues.grant } }) (h.port p))
  grant p := by
    rcases k.grant p with hk | ⟨e, y, g, hy, hp, hg, hfree⟩
    · rw [hk]
      exact h.grant p
    · refine .inr ?_
      cases hx : s.entries.get e with
      | none => exact nomatch (h.absent e hx).symm.trans hy
      | some x =>
        obtain ⟨z, hz, hxz⟩ := h.entry e x hx
        cases hy.symm.trans hz
        have hport : y.port = x.port := by rw [hxz.frame]
        exact ⟨e, x, g, hx, hport ▸ hp, hg, fun q hq => hfree q (h.listed q hq)⟩

theorem EntrySettled.mono {c c' free : Prop} (h : EntrySettled c free x y) (hc : c → c') : EntrySettled c' free x y :=
  ⟨h.frame, h.feed.imp_right fun ⟨k, hrest⟩ => ⟨hc k, hrest⟩, h.tray⟩

theorem Settles.mono {c' : Prop} (h : Settles c s t) (hc : c → c') : Settles c' s t :=
  { h with
    entry := fun e x hx => by
      obtain ⟨y, hy, hxy⟩ := h.entry e x hx
      exact ⟨y, hy, hxy.mono hc⟩ }

theorem settles_foldl {α : Type} {f : State → α → State} (hf : ∀ t a, Settles c t (f t a)) (l : List α) (s : State) :
    Settles c s (l.foldl f s) := by
  induction l generalizing s with
  | nil => exact .refl s
  | cons a l ih => exact (hf s a).trans (ih _)

/-! Changes of one record -/

theorem mem_attention_raise {k : AttnKind} {i : Nat} {w : Attn} (h : w ∈ s.attention) : w ∈ (raise k i s).attention := by
  unfold raise
  split
  · exact h
  · exact mem_attnInsert_of_mem h

theorem settles_raise (k : AttnKind) (i : Nat) (s : State) : Settles c s (raise k i s) :=
  settles_of_records (by simp) (by simp) (by simp) (by simp) fun _ => mem_attention_raise

theorem settles_modBatch {f : Batch → Batch} (hf : ∀ b, s.batches.get h = some b → BatchSettled b (f b)) :
    Settles c s (modBatch h f s) :=
  { Settles.refl (c := c) s with
    batch := fun j b hb => by
      by_cases hj : j = h
      · rw [hj] at hb ⊢
        exact ⟨f b, get_batches_modBatch_self f hb, hf b hb⟩
      · exact ⟨b, (get_batches_modBatch_ne f hj).trans hb, .refl b⟩ }

theorem settles_modEntry {f : Entry → Entry}
    (hf : ∀ x, s.entries.get e = some x → EntrySettled c (pickingOf s e = none) x (f x)) : Settles c s (modEntry e f s) :=
  { Settles.refl (c := c) s with
    entry := fun j x hx => by
      by_cases hj : j = e
      · rw [hj] at hx ⊢
        exact ⟨f x, get_entries_modEntry_self f hx, hf x hx⟩
      · exact ⟨x, (get_entries_modEntry_ne f hj).trans hx, .refl ..⟩
    absent := fun j hx => by
      rw [modEntry_entries, Tab.get_modify, hx]
      split <;> rfl }

/-! Pause reasons, checkpoints, and the judgments in CLOSING -/

theorem settles_judgePausesOf (h : Nat) (s : State) : Settles c s (judgePausesOf h s) := by
  have hmod : Settles c s (modBatch h Batch.judgePauses s) := settles_modBatch fun b _ =>
    ⟨by rw [Batch.judgePauses_frame], fun hc => Batch.judgePauses_of_closed hc⟩
  unfold judgePausesOf
  split
  · exact .refl s
  · dsimp only
    split
    · exact hmod.trans (settles_raise ..)
    · exact hmod

theorem Batch.completeCheckpoint_frame (b : Batch) : b.completeCheckpoint = { b with
    last := b.completeCheckpoint.last, passed := b.completeCheckpoint.passed
    pendingAmend := b.completeCheckpoint.pendingAmend, plan := b.completeCheckpoint.plan
    policy := b.completeCheckpoint.policy, band := b.completeCheckpoint.band, minGap := b.completeCheckpoint.minGap
    target := b.completeCheckpoint.target, pauses := b.completeCheckpoint.pauses } := by
  cases ht : b.target with
  | none => rw [Batch.completeCheckpoint_of_none ht]
  | some t =>
    rw [Batch.completeCheckpoint_of_some ht, Batch.judgePauses_frame]
    rfl

theorem settles_completeOnce (hd : checkpointDone s h = true) : Settles c s (completeOnce h s) := by
  obtain ⟨b, t, hb, -, hopen, -⟩ := checkpointDone_iff.1 hd
  have hmod : Settles c s (modBatch h Batch.completeCheckpoint s) := settles_modBatch fun d hd => by
    cases hb.symm.trans hd
    exact .of_open (by rw [hopen]; nofun) (by rw [Batch.completeCheckpoint_frame])
  rw [completeOnce_eq hb]
  split
  · exact hmod.trans (settles_raise ..)
  · exact hmod

theorem settles_completeCheckpoints (n h : Nat) (s : State) : Settles c s (completeCheckpoints n h s) := by
  induction n generalizing s with
  | zero => exact .refl s
  | succ n ih =>
    cases hd : checkpointDone s h with
    | true => rw [completeCheckpoints_of_done hd]; exact (settles_completeOnce hd).trans (ih _)
    | false => rw [completeCheckpoints_of_not_done hd]; exact .refl s

theorem settles_judgeUnbind (hb : s.batches.get h = some b) (hc : b.state ≠ .closed) :
    Settles True s (judgeUnbind h b s) := by
  cases hbound : b.bound with
  | none => rw [judgeUnbind_of_unbound hbound]; exact .refl s
  | some e =>
    cases hx : s.entries.get e with
    | none =>
      rw [judgeUnbind, hbound]
      dsimp only
      rw [hx]
      exact .refl s
    | some x =>
      rw [judgeUnbind_of_bound hbound hx]
      split
      · next hok =>
        have hfeed : x.feed ≠ .clearing := by
          rw [Bool.and_eq_true, decide_eq_true_eq] at hok
          exact hok.2
        refine Settles.trans (settles_modBatch fun d hd => ?_) (settles_modEntry fun y hy => ?_)
        · cases hb.symm.trans hd
          exact .of_open hc
        · cases hx.symm.trans hy
          exact ⟨rfl, .inr ⟨trivial, hfeed, rfl, rfl, rfl⟩, .inl rfl⟩
      · exact .refl s

theorem settles_judgeClose (hc : ∀ b, s.batches.get h = some b → b.state ≠ .closed) : Settles c s (judgeClose h s) := by
  unfold judgeClose
  split
  · exact .refl s
  · split
    · exact (settles_modBatch fun d hd => .of_open (hc d hd)).trans (settles_raise ..)
    · exact .refl s

theorem settles_judgeClosing (h : Nat) (s : State) : Settles True s (judgeClosing h s) := by
  cases hb : s.batches.get h with
  | none => rw [judgeClosing, hb]; exact .refl s
  | some b =>
    by_cases hs : b.state = .closing
    · have hopen : b.state ≠ .closed := by rw [hs]; nofun
      rw [judgeClosing_of_closing hb hs]
      refine (settles_judgeUnbind hb hopen).trans (settles_judgeClose fun d hd => ?_)
      have hstate : d.state = b.state := by
        unfold judgeUnbind at hd
        split at hd
        · cases hb.symm.trans hd; rfl
        · split at hd
          · cases hb.symm.trans hd; rfl
          · split at hd
            · cases (get_batches_unbindPair hb).symm.trans hd; rfl
            · cases hb.symm.trans hd; rfl
      rw [hstate]
      exact hopen
    · rw [judgeClosing_of_ne hb hs]; exact .refl s

theorem settles_judgeBatch (h : Nat) (s : State) : Settles True s (judgeBatch h s) :=
  (settles_judgePausesOf h s).trans ((settles_completeCheckpoints _ h _).trans (settles_judgeClosing h _))

/-! Grants -/

/-- A grant decision finds the station with nothing PICKING. -/
theorem pickingOf_of_grantReady (hr : grantReady s e = true) : pickingOf s e = none := by
  obtain ⟨x, -, hnil⟩ := grantReady_iff_holdsBut.1 hr
  by_contra hp
  have hmem : Hold.picking ∈ holdsBut s e x := mem_holdsBut.2 (by simp [Option.isSome_iff_ne_none, hp])
  rw [hnil] at hmem
  cases hmem

theorem running_of_grantReady (hr : grantReady s e = true) (hx : s.entries.get e = some x) : x.feed = .running := by
  obtain ⟨y, hy, hnil⟩ := grantReady_iff_holdsBut.1 hr
  cases hx.symm.trans hy
  by_contra hf
  have hmem : Hold.notRunning ∈ holdsBut s e x := mem_holdsBut.2 (.inl ⟨rfl, hf⟩)
  rw [hnil] at hmem
  cases hmem

theorem mem_put_of_mem {n : Nat} {r : Sheet} (hn : s.sheets.get n = none) {q : Nat × Sheet} (hq : q ∈ s.sheets) :
    q ∈ s.sheets.put n r := (Tab.put_perm r hn).mem_iff.2 (List.mem_cons_of_mem _ hq)

/-- The grant, before the pause reasons of its batch. -/
theorem settles_granted (hr : grantReady s e = true) (hx : s.entries.get e = some x) (hh : x.bound = some h)
    (hg : freeTag s e x = some g) (hn : s.sheets.get n = none) :
    Settles c s (onQueues e (Queues.addGrant g) (granted e n h g s)) := by
  have hxg := get_entries_granted (n := n) (h := h) (g := g) hx
  have hopen : ∀ b, s.batches.get h = some b → b.state ≠ .closed := fun b hb => by
    rw [(open_of_grantReady hr hx hh hb).1]; nofun
  have hfree : ∀ q ∈ s.sheets, q.2.station = e → q.2.tag ≠ g := fun q hq he hgq => by
    have hheld : tagHeld s e x g = true := tagHeld_iff.2 (Or.inl ⟨q, hq, he, hgq⟩)
    rw [(freeTag_eq_some.1 hg).1] at hheld
    cases hheld
  refine ⟨fun i y hy => ?_, fun i hi => ?_, fun i b hb => ?_, fun m r hm => ?_, fun q hq => ?_, fun q hq => ?_, fun w hw => ?_,
    fun p => ?_, fun p => ?_⟩
  · rw [onQueues_entries]
    by_cases hi : i = e
    · subst hi
      cases hx.symm.trans hy
      exact ⟨_, hxg, rfl, .inl ⟨rfl, rfl, rfl⟩, .inr ⟨pickingOf_of_grantReady hr, running_of_grantReady hr hx, rfl⟩⟩
    · exact ⟨y, (get_entries_granted_ne hi).trans hy, .refl ..⟩
  · rw [onQueues_entries, granted, Tab.get_modify, hi]
    split <;> rfl
  · rw [onQueues_batches]
    by_cases hi : i = h
    · subst hi
      exact ⟨_, get_batches_granted hb, .of_open (hopen b hb)⟩
    · exact ⟨b, (get_batches_granted_ne hi).trans hb, .refl b⟩
  · rw [onQueues_sheets, granted, Tab.get_put_other, hm]
    rintro rfl
    exact nomatch hn.symm.trans hm
  · rw [onQueues_sheets]
    exact mem_put_of_mem hn hq
  · rw [onQueues_sheets] at hq
    rcases Tab.mem_put hq with rfl | hq
    · exact .inr ⟨hn, ⟨h, e, g, rfl⟩, fun b hb => hopen b hb⟩
    · exact .inl hq
  · rw [onQueues_attention]
    exact hw
  · by_cases hp : x.port = some p
    · rw [ports_onQueues_self _ hxg hp]
      rfl
    · rw [ports_onQueues_of_ne _ hxg hp]
      rfl
  · by_cases hp : x.port = some p
    · refine .inr ⟨e, x, g, hx, hp, ?_, hfree⟩
      rw [ports_onQueues_self _ hxg hp]
      rfl
    · refine .inl ?_
      rw [ports_onQueues_of_ne _ hxg hp]
      rfl

theorem settles_allocate (hr : grantReady s e = true) (hn : s.sheets.firstFree Config.sheetCount = some n) :
    Settles c s (allocate e n s) := by
  cases hx : s.entries.get e with
  | none => rw [allocate, hx]; exact .refl s
  | some x =>
    cases hh : x.bound with
    | none =>
      rw [allocate, hx]
      dsimp only
      rw [hh]
      exact .refl s
    | some h =>
      cases hg : freeTag s e x with
      | none =>
        rw [allocate, hx]
        dsimp only
        rw [hh, hg]
        exact .refl s
      | some g =>
        obtain ⟨-, hfree, -⟩ := Tab.firstFree_eq_some.1 hn
        rw [allocate_eq_granted hx hh hg]
        exact (settles_granted hr hx hh hg hfree).trans (settles_judgePausesOf ..)

theorem settles_waiting (w : List Nat) (s : State) : Settles c s { s with waiting := w } :=
  settles_of_records rfl rfl rfl rfl fun _ => id

theorem settles_rejudge (e : Nat) (s : State) : Settles c s (rejudge e s) := by
  cases hr : grantReady s e with
  | false => rw [rejudge_of_not hr]; exact .refl s
  | true =>
    cases hn : s.sheets.firstFree Config.sheetCount with
    | some n => rw [rejudge_of_free hr hn]; exact settles_allocate hr hn
    | none =>
      rw [rejudge_of_full hr hn, joinWaiting]
      split
      · exact .refl s
      · exact settles_waiting _ s

theorem settles_serveFirst (l : List Nat) (s : State) : Settles c s (serveFirst l s) := by
  induction l generalizing s with
  | nil => exact .refl s
  | cons e l ih =>
    unfold serveFirst
    split
    · next hr =>
      split
      · next n hn => exact settles_allocate hr hn
      · exact .refl s
    · exact (settles_waiting _ s).trans (ih _)

theorem settles_offerSlot (s : State) : Settles c s (offerSlot s) := settles_serveFirst _ s

theorem settles_offerSlots (n : Nat) (s : State) : Settles c s (offerSlots n s) := by
  induction n generalizing s with
  | zero => exact .refl s
  | succ n ih => exact (settles_offerSlot s).trans (ih _)

theorem settles_rejudgeAll (es : List Nat) (start : Nat) (s : State) : Settles c s (rejudgeAll es start s) :=
  settles_foldl (fun t e => settles_rejudge e t) _ s

theorem settles_settle (hs es : List Nat) (start : Nat) (s : State) : Settles True s (settle hs es start s) :=
  (settles_foldl (fun t h => settles_judgeBatch h t) hs s).trans (settles_rejudgeAll _ _ _)

/-- Without a batch to judge no station is parted from its batch. -/
theorem settles_settle_nil (es : List Nat) (start : Nat) (s : State) : Settles c s (settle [] es start s) :=
  settles_rejudgeAll _ start s

end Sys2Proof.Machine
end

section
/-! A downstream word leaves its port: what it does to the records it names, the word that takes its place, and the judgment
that follows (R30, R49, R67, R80, R82, R139). -/

set_option Elab.async false

namespace Sys2Proof.Machine

variable {s t u : State} {p q : Fin 16} {e h n j : Nat} {x y : Entry} {g : Tag} {w : DownWord} {d : Side}

/-! The word on the line -/

/-- The state once the word on the line has left, before the next one takes its place. -/
def lineLeft (p : Fin 16) (s : State) : State :=
  match s.ports[p].line with
  | some w => wordLeft p w s
  | none => s

theorem wordLeaves_eq (hl : s.ports[p].link ≠ .down) : wordLeaves p s = match s.ports[p].link, s.ports[p].entry with
    | .up, some e => rejudge e (nextWord p (lineLeft p s))
    | _, _ => nextWord p (lineLeft p s) := if_neg hl

theorem wordLeft_query (s : State) : wordLeft p .query s = if s.ports[p].link = .querying then
    modPort p (fun x => { x with queryTimer := some Config.queryMs }) s else s := rfl

theorem wordLeft_grant (he : s.ports[p].entry = some e) : wordLeft p (.grant g) s =
    if s.ports[p].queues.grant = some g then s else grantLeft e g s := by
  unfold wordLeft
  dsimp only
  rw [he]

theorem wordLeft_upload (he : s.ports[p].entry = some e) : wordLeft p (.upload g d) s =
    if s.ports[p].queues.upload = some (g, d) then s else uploadLeft e g d s := by
  unfold wordLeft
  dsimp only
  rw [he]

theorem entries_grantLeft (e : Nat) (g : Tag) (s : State) :
    grantLeft e g s = { s with entries := (grantLeft e g s).entries } := by
  unfold grantLeft
  (repeat' split) <;> rfl

/-- What a word's leaving changes, whatever the word. -/
structure WordGone (p : Fin 16) (w : DownWord) (s t : State) : Prop where
  frame : t = { s with ports := t.ports, entries := t.entries, uploads := t.uploads }
  other : ∀ q : Fin 16, q ≠ p → t.ports[q] = s.ports[q]
  port : t.ports[p] = { s.ports[p] with queryTimer := t.ports[p].queryTimer }
  query : t.ports[p].queryTimer = if s.ports[p].link = .querying ∧ w = .query then some 50 else s.ports[p].queryTimer
  entry : ∀ j, s.ports[p].entry ≠ some j → t.entries.get j = s.entries.get j ∧ t.uploads.get j = s.uploads.get j

theorem WordGone.of_records (hw : w ≠ .query) (hf : t = { s with entries := t.entries, uploads := t.uploads })
    (he : ∀ j, s.ports[p].entry ≠ some j → t.entries.get j = s.entries.get j ∧ t.uploads.get j = s.uploads.get j) :
    WordGone p w s t := by
  have hports : t.ports = s.ports := by rw [hf]
  exact ⟨by rw [hports]; exact hf, fun q _ => by rw [hports], by rw [hports], by rw [hports, if_neg fun h => hw h.2], he⟩

theorem wordGone_wordLeft (p : Fin 16) (w : DownWord) (s : State) : WordGone p w s (wordLeft p w s) := by
  by_cases hw : w = .query
  · subst hw
    rw [wordLeft_query]
    split
    · next hl =>
      refine ⟨rfl, fun q hq => getElem_modPort_ne _ s hq, ?_, ?_, fun j _ => ⟨rfl, rfl⟩⟩
      · rw [getElem_modPort_self]
      · rw [getElem_modPort_self, if_pos ⟨hl, rfl⟩]
        rfl
    · next hl => exact ⟨rfl, fun _ _ => rfl, rfl, (if_neg fun h => hl h.1).symm, fun _ _ => ⟨rfl, rfl⟩⟩
  · refine .of_records hw ?_ ?_
    · unfold wordLeft
      dsimp only
      split
      · exact absurd rfl hw
      · split
        · rfl
        · rw [entries_grantLeft]
      · split <;> rfl
      · rfl
    · intro j hj
      unfold wordLeft
      dsimp only
      split
      · exact absurd rfl hw
      · next e he =>
        have hne : j ≠ e := fun h => hj (h ▸ he)
        split
        · exact ⟨rfl, rfl⟩
        · unfold grantLeft
          split
          · split
            · exact ⟨get_entries_modEntry_ne _ hne, rfl⟩
            · exact ⟨rfl, rfl⟩
          · exact ⟨rfl, rfl⟩
      · next e he =>
        have hne : j ≠ e := fun h => hj (h ▸ he)
        split
        · exact ⟨rfl, rfl⟩
        · exact ⟨rfl, get_uploads_modUpload_ne _ hne⟩
      · exact ⟨rfl, rfl⟩

/-- The entry as its GRANT leaves it. -/
def Entry.timed (s : State) (x : Entry) : Entry :=
  { x with timer := if x.feed = .running ∨ x.feed = .ready then .running s.room.pickTimeout
    else .suspended s.room.pickTimeout }

theorem get_entries_grantLeft {r : Sheet} (hp : pickingOf s e = some (n, r)) (hg : r.tag = g)
    (hx : s.entries.get e = some x) : (grantLeft e g s).entries.get e = some (x.timed s) := by
  rw [grantLeft, hp]
  dsimp only
  rw [if_pos hg, get_entries_modEntry_self _ hx]
  simp only [moving_iff]
  rfl

theorem grantLeft_of_other (h : ∀ n r, pickingOf s e = some (n, r) → r.tag ≠ g) : grantLeft e g s = s := by
  unfold grantLeft
  split
  · next m r hp => exact if_neg (h m r hp)
  · rfl

/-- The entries change only where the GRANT of the PICKING record leaves for good. -/
theorem entries_wordLeft (he : s.ports[p].entry = some e) (hno : ∀ g n r, w = .grant g → pickingOf s e = some (n, r) →
    r.tag = g → s.ports[p].queues.grant = some g) : (wordLeft p w s).entries = s.entries := by
  unfold wordLeft
  dsimp only
  split
  · split <;> rfl
  · next g f hf =>
    cases he.symm.trans hf
    split
    · rfl
    · next hq =>
      rw [grantLeft_of_other]
      exact fun n r hp hg => hq (hno g n r rfl hp hg)
  · split <;> rfl
  · rfl

theorem get_uploads_wordLeft {v : Upload} (he : s.ports[p].entry = some e) (hv : s.uploads.get e = some v) :
    (wordLeft p w s).uploads.get e = some
      (if w = .upload v.tag v.side ∧ s.ports[p].queues.upload ≠ some (v.tag, v.side) ∧ v.go = true
        then { v with stall := .running 500 } else v) := by
  by_cases hw : ∃ g d, w = .upload g d
  · obtain ⟨g, d, rfl⟩ := hw
    rw [wordLeft_upload he]
    split
    · next hq =>
      rw [hv, if_neg]
      rintro ⟨hgd, hne, -⟩
      cases hgd
      exact hne hq
    · next hq =>
      rw [uploadLeft, get_uploads_modUpload_self _ hv]
      refine congrArg some ?_
      by_cases hok : v.tag = g ∧ v.side = d ∧ v.go = true
      · obtain ⟨rfl, rfl, hgo⟩ := hok
        rw [if_pos ⟨rfl, rfl, hgo⟩, if_pos ⟨rfl, hq, hgo⟩]
        rfl
      · rw [if_neg hok, if_neg]
        rintro ⟨hgd, -, hgo⟩
        cases hgd
        exact hok ⟨rfl, rfl, hgo⟩
  · have hsame : (wordLeft p w s).uploads = s.uploads := by
      unfold wordLeft
      dsimp only
      split
      · split <;> rfl
      · split
        · rfl
        · rw [entries_grantLeft]
      · exact absurd ⟨_, _, rfl⟩ hw
      · rfl
    rw [hsame, hv, if_neg]
    exact fun h => hw ⟨_, _, h.1⟩

/-! The line -/

theorem lineLeft_of_some (hw : s.ports[p].line = some w) : lineLeft p s = wordLeft p w s := by
  rw [lineLeft, hw]

theorem lineLeft_of_none (hw : s.ports[p].line = none) : lineLeft p s = s := by
  rw [lineLeft, hw]

/-- What the word on the line changes as it leaves. -/
structure LineGone (p : Fin 16) (s t : State) : Prop where
  frame : t = { s with ports := t.ports, entries := t.entries, uploads := t.uploads }
  other : ∀ q : Fin 16, q ≠ p → t.ports[q] = s.ports[q]
  port : t.ports[p] = { s.ports[p] with queryTimer := t.ports[p].queryTimer }
  query : t.ports[p].queryTimer =
    if s.ports[p].link = .querying ∧ s.ports[p].line = some .query then some 50 else s.ports[p].queryTimer
  entry : ∀ j, s.ports[p].entry ≠ some j → t.entries.get j = s.entries.get j ∧ t.uploads.get j = s.uploads.get j
  picked : ∀ e g n r x, s.ports[p].entry = some e → s.ports[p].line = some (.grant g) → s.ports[p].queues.grant ≠ some g →
    pickingOf s e = some (n, r) → r.tag = g → s.entries.get e = some x → t.entries.get e = some (x.timed s)
  quiet : ∀ e, s.ports[p].entry = some e → (∀ g n r, s.ports[p].line = some (.grant g) → pickingOf s e = some (n, r) →
    r.tag = g → s.ports[p].queues.grant = some g) → t.entries = s.entries
  upload : ∀ e v, s.ports[p].entry = some e → s.uploads.get e = some v → t.uploads.get e = some
    (if s.ports[p].line = some (.upload v.tag v.side) ∧ s.ports[p].queues.upload ≠ some (v.tag, v.side) ∧ v.go = true
      then { v with stall := .running 500 } else v)

theorem lineGone_lineLeft (p : Fin 16) (s : State) : LineGone p s (lineLeft p s) := by
  cases hw : s.ports[p].line with
  | none =>
    rw [lineLeft_of_none hw]
    have hno : ∀ v, s.ports[p].line ≠ some v := fun v hv => nomatch hw.symm.trans hv
    exact ⟨rfl, fun _ _ => rfl, rfl, (if_neg fun h => hno _ h.2).symm, fun _ _ => ⟨rfl, rfl⟩,
      fun e g n r x _ hg => absurd hg (hno _), fun _ _ _ => rfl, fun e v _ hv => hv.trans (by rw [if_neg fun h => hno _ h.1])⟩
  | some w =>
    rw [lineLeft_of_some hw]
    have hline : ∀ v, w = v ↔ s.ports[p].line = some v := fun v => by rw [hw, Option.some_inj]
    obtain ⟨hframe, hother, hport, hquery, hentry⟩ := wordGone_wordLeft p w s
    refine ⟨hframe, hother, hport, ?_, hentry, fun e g n r x he hg hq hp hr hx => ?_, fun e he hno => ?_, fun e v he hv => ?_⟩
    · exact hquery.trans (if_congr (and_congr_right fun _ => hline _) rfl rfl)
    · cases hw.symm.trans hg
      rw [wordLeft_grant he, if_neg hq, get_entries_grantLeft hp hr hx]
    · exact entries_wordLeft he fun g n r hg => hno g n r (hg ▸ hw)
    · exact (get_uploads_wordLeft he hv).trans
        (congrArg some (if_congr (and_congr_left fun _ => hline _) rfl rfl))

/-! The next word -/

theorem nextWord_of_some {a : Queues} (ha : s.ports[p].queues.next = some (w, a)) :
    nextWord p s = modPort p (fun x => { x with line := some w, queues := a }) s := by
  refine modPort_congr ?_
  rw [ha]

theorem nextWord_of_none (ha : s.ports[p].queues.next = none) :
    nextWord p s = modPort p (fun x => { x with line := some (timeWord s) }) s := by
  refine modPort_congr ?_
  rw [ha]

theorem nextWord_frame (p : Fin 16) (s : State) : nextWord p s = { s with ports := (nextWord p s).ports } := rfl

/-! The judgment of the entry -/

theorem rejudge_of_picking (hp : (pickingOf s e).isSome = true) : rejudge e s = s := by
  refine rejudge_of_not (Bool.eq_false_iff.2 fun hr => ?_)
  rw [pickingOf_of_grantReady hr] at hp
  cases hp

theorem pickingOf_isSome : (pickingOf s e).isSome = true ↔ ∃ a ∈ s.sheets, a.2.station = e ∧ a.2.state = .picking := by
  simp only [pickingOf, Tab.find, List.find?_isSome, Bool.and_eq_true, decide_eq_true_eq]

/-- A judgment that gives the port another GRANT gives the station a PICKING record. -/
theorem grant_rejudge (p : Fin 16) (e : Nat) (s : State) :
    (rejudge e s).ports[p].queues.grant = s.ports[p].queues.grant ∨
      (pickingOf s e = none ∧ (pickingOf (rejudge e s) e).isSome = true) := by
  cases hr : grantReady s e with
  | false => exact .inl (by rw [rejudge_of_not hr])
  | true =>
    cases hn : s.sheets.firstFree Config.sheetCount with
    | none =>
      refine .inl ?_
      rw [rejudge_of_full hr hn, joinWaiting]
      split <;> rfl
    | some n =>
      rw [rejudge_of_free hr hn]
      cases hx : s.entries.get e with
      | none => exact .inl (by rw [allocate, hx])
      | some x =>
        cases hh : x.bound with
        | none =>
          refine .inl ?_
          rw [allocate, hx]
          dsimp only
          rw [hh]
        | some h =>
          cases hg : freeTag s e x with
          | none =>
            refine .inl ?_
            rw [allocate, hx]
            dsimp only
            rw [hh, hg]
          | some g =>
            obtain ⟨-, hfree, -⟩ := Tab.firstFree_eq_some.1 hn
            refine .inr ⟨pickingOf_of_grantReady hr, pickingOf_isSome.2 ⟨(n, newSheet h e g), ?_, rfl, rfl⟩⟩
            rw [allocate_eq_granted hx hh hg, judgePausesOf_frame]
            dsimp only
            rw [onQueues_sheets]
            exact (Tab.put_perm _ hfree).mem_iff.2 List.mem_cons_self

/-! The word leaves -/

theorem leaves_downstreamWordLeaves (hs : Runs s) : Leaves (.downstreamWordLeaves p) s (wordLeaves p s) := leaves_of_runs hs

/-- Between the words of a port only its queues are asked. -/
theorem queues_lineLeft (p : Fin 16) (s : State) : (lineLeft p s).ports[p].queues = s.ports[p].queues := by
  rw [(lineGone_lineLeft p s).port]

/-- The words waiting for a port leave by rank (R67). -/
theorem Queues.next_by_rank (q : Queues) :
    (q.halt = true → q.next = some (.halt, { q with halt := false })) ∧
    (q.halt = false →
      (∀ t l, q.divert = t :: l → q.next = some (.divert t, { q with divert := l })) ∧
      (q.divert = [] →
        (∀ g, q.flow = some g → q.next = some (.flow g, { q with flow := none })) ∧
        (q.flow = none →
          (∀ t, q.grant = some t → q.next = some (.grant t, { q with grant := none })) ∧
          (q.grant = none →
            (q.resume = true → q.next = some (.resume, { q with resume := false })) ∧
            (q.resume = false →
              (∀ t d, q.upload = some (t, d) → q.next = some (.upload t d, { q with upload := none })) ∧
              (q.upload = none →
                (∀ t o l, q.release = (t, o) :: l → q.next = some (.release t o, { q with release := l })) ∧
                (q.release = [] →
                  (∀ b, q.identify = some b → q.next = some (.identify b, { q with identify := none })) ∧
                  (q.identify = none →
                    (q.query = true → q.next = some (.query, { q with query := false })) ∧
                    (q.query = false → q.next = none))))))))) := by
  refine ⟨fun h1 => by simp [Queues.next, h1], fun h1 => ⟨fun t l h2 => by simp [Queues.next, h1, h2], fun h2 =>
    ⟨fun g h3 => by simp [Queues.next, h1, h2, h3], fun h3 => ⟨fun t h4 => by simp [Queues.next, h1, h2, h3, h4], fun h4 =>
    ⟨fun h5 => by simp [Queues.next, h1, h2, h3, h4, h5], fun h5 =>
    ⟨fun t d h6 => by simp [Queues.next, h1, h2, h3, h4, h5, h6], fun h6 =>
    ⟨fun t o l h7 => by simp [Queues.next, h1, h2, h3, h4, h5, h6, h7], fun h7 =>
    ⟨fun b h8 => by simp [Queues.next, h1, h2, h3, h4, h5, h6, h7, h8], fun h8 =>
    ⟨fun h9 => by simp [Queues.next, h1, h2, h3, h4, h5, h6, h7, h8, h9], fun h9 =>
      by simp [Queues.next, h1, h2, h3, h4, h5, h6, h7, h8, h9]⟩⟩⟩⟩⟩⟩⟩⟩⟩

theorem Queues.grant_of_next_none {q : Queues} (h : q.next = none) : q.grant = none := by
  unfold Queues.next at h
  grind

/-- Settles O42, from what the leaving word, the next word and the judgment each change. -/
theorem downstreamWordLeavesThePort : Obligations.DownstreamWordLeavesThePort := by
  unfold Obligations.DownstreamWordLeavesThePort
  refine ⟨fun p s hs => ⟨fun hl => ?_, fun hl => ?_⟩, Queues.next_by_rank⟩
  · have hstay : wordLeaves p s = s := if_pos hl
    exact (leaves_downstreamWordLeaves hs).trans (by rw [hstay])
  · obtain ⟨v, hv⟩ : ∃ v, lineLeft p s = v := ⟨_, rfl⟩
    obtain ⟨hvframe, hvother, hvport, hvquery, hventry, hvpicked, hvquiet, hvupload⟩ := hv ▸ lineGone_lineLeft p s
    have hvqueues : v.ports[p].queues = s.ports[p].queues := by rw [hvport]
    obtain ⟨u, hu⟩ : ∃ u, nextWord p v = u := ⟨_, rfl⟩
    have huframe : u = { v with ports := u.ports } := hu ▸ nextWord_frame p v
    have huother : ∀ q : Fin 16, q ≠ p → u.ports[q] = v.ports[q] := fun q hq => hu ▸ getElem_modPort_ne _ v hq
    have husome : ∀ w a, s.ports[p].queues.next = some (w, a) → u.ports[p] = { v.ports[p] with line := some w, queues := a } :=
      fun w a ha => by rw [← hu, nextWord_of_some (by rw [hvqueues]; exact ha), getElem_modPort_self]
    have hunone : s.ports[p].queues.next = none → u.ports[p] = { v.ports[p] with line := some (timeWord v) } :=
      fun ha => by rw [← hu, nextWord_of_none (by rw [hvqueues]; exact ha), getElem_modPort_self]
    have hclock : timeWord v = .time (s.clock.setWidth 16) := by rw [hvframe]; rfl
    have hutimer : u.ports[p].queryTimer = v.ports[p].queryTimer := by
      rw [← hu, nextWord, getElem_modPort_self]
      split <;> rfl
    have huentries : u.entries = v.entries := by rw [huframe]
    have huuploads : u.uploads = v.uploads := by rw [huframe]
    have husheets : u.sheets = s.sheets := by rw [huframe, hvframe]
    have hufields : u = { s with ports := u.ports, entries := u.entries, uploads := u.uploads } := by
      rw [huframe, hvframe]
    have hsomeport : ∀ w a, s.ports[p].queues.next = some (w, a) → u.ports[p] = { s.ports[p] with
        line := some w, queues := a, queryTimer := u.ports[p].queryTimer } := fun w a ha => by
      rw [hutimer, husome w a ha, hvport]
    have hnoneport : s.ports[p].queues.next = none → u.ports[p] = { s.ports[p] with
        line := some (.time (s.clock.setWidth 16)), queryTimer := u.ports[p].queryTimer } := fun ha => by
      rw [hutimer, hunone ha, hvport, hclock]
    obtain ⟨t, ht⟩ : ∃ t, wordLeaves p s = t := ⟨_, rfl⟩
    have htup : ∀ e, AttachedTo s p e → t = rejudge e u := fun e ⟨hup, he⟩ => by
      rw [← ht, wordLeaves_eq hl, hup, he, hv, hu]
    have htother : (∀ e, ¬ AttachedTo s p e) → t = u := fun hno => by
      rw [← ht, wordLeaves_eq hl, hv, hu]
      split
      · next e hup he => exact absurd ⟨hup, he⟩ (hno e)
      · rfl
    have htport : t.ports[p] = { u.ports[p] with queues := { u.ports[p].queues with grant := t.ports[p].queues.grant } } ∧
        (t.ports[p].queues.grant = u.ports[p].queues.grant ∨
          ∃ e, AttachedTo s p e ∧ pickingOf s e = none ∧ (pickingOf t e).isSome = true) := by
      by_cases ha : ∃ e, AttachedTo s p e
      · obtain ⟨e, ha⟩ := ha
        rw [htup e ha]
        exact ⟨(settles_rejudge (c := False) e u).port p, (grant_rejudge p e u).imp_right fun ⟨hnone, hsome⟩ =>
          ⟨e, ha, (pickingOf_congr husheets).symm.trans hnone, hsome⟩⟩
      · rw [htother fun e h => ha ⟨e, h⟩]
        exact ⟨rfl, .inl rfl⟩
    obtain ⟨htqueues, htgrant⟩ := htport
    refine ⟨t, u, (leaves_downstreamWordLeaves hs).trans (by rw [ht]), htup, htother, hufields,
      fun q hq => (huother q hq).trans (hvother q hq), hsomeport, hnoneport, hutimer.trans hvquery, fun j hj => ?_,
      fun e he => ⟨fun g n r x hline hq hp hr hx => ?_, fun hno => huentries.trans (hvquiet e he hno), fun w hw => ?_⟩,
      fun w a ha => ?_, fun ha => ?_, fun hlink hline => ?_, fun e ha => ⟨fun g x n r hline hq hx hp hr => ?_,
      fun g d w hline hq hw hg hd hgo => ?_⟩⟩
    · rw [huentries, huuploads]
      exact hventry j hj
    · rw [huentries]
      exact hvpicked e g n r x he hline hq hp hr hx
    · rw [huuploads]
      exact hvupload e w he hw
    · have hport := hsomeport w a ha
      refine ⟨by rw [htqueues, hport], ?_, ?_⟩
      · rw [htqueues, hport]
      · rw [hport] at htgrant
        exact htgrant
    · have hport := hnoneport ha
      have hgrant := Queues.grant_of_next_none ha
      refine ⟨by rw [htqueues, hport], ?_, ?_⟩
      · rw [htqueues, hport]
      · rw [hport] at htgrant
        exact hgrant ▸ htgrant
    · rw [htqueues, hutimer, hvquery, if_pos ⟨hlink, hline⟩]
    · have hstay : t = u := by
        rw [htup e ha]
        exact rejudge_of_picking (by rw [pickingOf_congr husheets, hp]; rfl)
      refine ⟨x.timed s, ?_, fun hf => if_pos hf, fun h1 h2 => if_neg (not_or.2 ⟨h1, h2⟩)⟩
      rw [hstay, huentries]
      exact hvpicked e g n r x ha.2 hline hq hp hr hx
    · have huploads : t.uploads = v.uploads := by
        rw [htup e ha, (judged_rejudge e u).frame, huuploads]
      rw [huploads, hvupload e w ha.2 hw]
      subst hg hd
      rw [if_pos ⟨hline, hq, hgo⟩]

end Sys2Proof.Machine
end

section
/-! Places and path queues, new suspects and new evidence, and what the paths of an edge and a verdict keep of the entries and
the sheets (R29, R34, R66, R84, R86, R91, R96, R98–R104). -/

set_option Elab.async false

namespace Sys2Proof.Machine

variable {s t u : State} {p q : Fin 16} {e h n m j : Nat} {x y : Entry} {b : Batch} {r : Sheet} {g : Tag}
  {f : Evidence → Evidence}

/-! Changes of one sheet -/

theorem get_sheets_modSheet_self (k : Sheet → Sheet) (hr : s.sheets.get n = some r) :
    (modSheet n k s).sheets.get n = some (k r) := by
  rw [modSheet_sheets, Tab.get_modify_self, hr, Option.map_some]

theorem get_sheets_modSheet_ne (k : Sheet → Sheet) (hm : m ≠ n) : (modSheet n k s).sheets.get m = s.sheets.get m := by
  rw [modSheet_sheets, Tab.get_modify_other _ _ hm]

/-! Leaving the path queue (R66, R84) -/

/-- The entry once the sheet in slot `n` has left its path queue. -/
def Entry.without (n : Nat) (x : Entry) : Entry :=
  { x with
    path := x.path.filter fun c => decide (c.slot ≠ n)
    lastGaugeTrail := if (x.path.filter fun c => decide (c.slot ≠ n)).isEmpty then none else x.lastGaugeTrail }

theorem leavePath_of_get (hr : s.sheets.get n = some r) :
    leavePath e n s = onQueues e (Queues.dropDivert r.tag) (modEntry e (Entry.without n) s) := by
  unfold leavePath
  dsimp only
  rw [hr]
  rfl

theorem leavePath_of_none (hr : s.sheets.get n = none) : leavePath e n s = modEntry e (Entry.without n) s := by
  unfold leavePath
  dsimp only
  rw [hr]
  rfl

theorem leavePath_frame (e n : Nat) (s : State) :
    leavePath e n s = { s with entries := s.entries.modify e (Entry.without n), ports := (leavePath e n s).ports } := by
  cases hr : s.sheets.get n with
  | none => rw [leavePath_of_none hr]; rfl
  | some r => rw [leavePath_of_get hr, onQueues_frame]; rfl

@[simp] theorem leavePath_sheets (e n : Nat) (s : State) : (leavePath e n s).sheets = s.sheets := by rw [leavePath_frame]
@[simp] theorem leavePath_batches (e n : Nat) (s : State) : (leavePath e n s).batches = s.batches := by rw [leavePath_frame]
@[simp] theorem leavePath_attention (e n : Nat) (s : State) : (leavePath e n s).attention = s.attention := by
  rw [leavePath_frame]
@[simp] theorem leavePath_room (e n : Nat) (s : State) : (leavePath e n s).room = s.room := by rw [leavePath_frame]

theorem get_entries_leavePath_self (hx : s.entries.get e = some x) :
    (leavePath e n s).entries.get e = some (x.without n) := by
  rw [leavePath_frame]
  exact get_entries_modEntry_self _ hx

theorem get_entries_leavePath_ne (hj : j ≠ e) : (leavePath e n s).entries.get j = s.entries.get j := by
  rw [leavePath_frame]
  exact get_entries_modEntry_ne _ hj

theorem ports_leavePath_self (hr : s.sheets.get n = some r) (hx : s.entries.get e = some x) (hp : x.port = some p) :
    (leavePath e n s).ports[p] = { s.ports[p] with queues :=
      { s.ports[p].queues with divert := s.ports[p].queues.divert.filter fun a => decide (a ≠ r.tag) } } := by
  rw [leavePath_of_get hr, ports_onQueues_self _ (get_entries_modEntry_self _ hx) hp]
  rfl

theorem ports_leavePath_of_ne (hx : s.entries.get e = some x) (hp : x.port ≠ some p) :
    (leavePath e n s).ports[p] = s.ports[p] := by
  cases hr : s.sheets.get n with
  | none => rw [leavePath_of_none hr]; rfl
  | some r => rw [leavePath_of_get hr, ports_onQueues_of_ne _ (get_entries_modEntry_self _ hx) hp]; rfl

theorem ports_leavePath_of_none (hr : s.sheets.get n = none) : (leavePath e n s).ports = s.ports := by
  rw [leavePath_of_none hr]
  rfl

/-! New suspects and new evidence (R29, R98) -/

theorem newSuspect_of_get (hr : s.sheets.get n = some r) : newSuspect n s = raise .suspectOpen r.batch (judgePausesOf r.batch
    (modBatch r.batch (fun b => { b with openSuspects := b.openSuspects + 1 })
      (modSheet n (fun r => { r with state := .suspect }) s))) := by
  rw [newSuspect, hr]

theorem newSuspect_of_none (hr : s.sheets.get n = none) : newSuspect n s = s := by
  rw [newSuspect, hr]

theorem newSuspect_frame (n : Nat) (s : State) : newSuspect n s = { s with
    sheets := s.sheets.modify n (fun r => { r with state := .suspect })
    batches := (newSuspect n s).batches, attention := (newSuspect n s).attention } := by
  cases hr : s.sheets.get n with
  | none => rw [newSuspect_of_none hr, Tab.modify_eq_self _ hr]
  | some r =>
    rw [newSuspect_of_get hr, raise_frame, judgePausesOf_frame]
    rfl

theorem get_batches_newSuspect_self (hr : s.sheets.get n = some r) (hb : s.batches.get r.batch = some b) :
    (newSuspect n s).batches.get r.batch = some { b with openSuspects := b.openSuspects + 1 }.judgePauses := by
  rw [newSuspect_of_get hr, raise_batches]
  refine get_batches_judgePausesOf_self ?_
  exact get_batches_modBatch_self (s := modSheet n _ s) _ hb

theorem get_batches_newSuspect_ne (hr : s.sheets.get n = some r) (hj : j ≠ r.batch) :
    (newSuspect n s).batches.get j = s.batches.get j := by
  rw [newSuspect_of_get hr, raise_batches, get_batches_judgePausesOf_ne hj]
  exact get_batches_modBatch_ne (s := modSheet n _ s) _ hj

theorem mem_attention_judgePausesOf {w : Attn} (hw : w ∈ s.attention) : w ∈ (judgePausesOf h s).attention :=
  (settles_judgePausesOf (c := False) h s).raised w hw

theorem mem_attention_newSuspect {w : Attn} (hw : w ∈ s.attention) : w ∈ (newSuspect n s).attention := by
  cases hr : s.sheets.get n with
  | none => rwa [newSuspect_of_none hr]
  | some r =>
    rw [newSuspect_of_get hr]
    exact mem_attention_raise (mem_attention_judgePausesOf hw)

theorem attention_lt_judgePausesOf (hh : h < 256) (ha : ∀ a ∈ s.attention, a.2 < 256) :
    ∀ a ∈ (judgePausesOf h s).attention, a.2 < 256 := by
  cases hb : s.batches.get h with
  | none => rwa [judgePausesOf, hb]
  | some b =>
    rw [attention_judgePausesOf hb]
    split
    · exact attention_lt_raise hh ha
    · exact ha

theorem attention_lt_newSuspect (hn : ∀ r, s.sheets.get n = some r → r.batch < 256) (ha : ∀ a ∈ s.attention, a.2 < 256) :
    ∀ a ∈ (newSuspect n s).attention, a.2 < 256 := by
  cases hr : s.sheets.get n with
  | none => rwa [newSuspect_of_none hr]
  | some r =>
    rw [newSuspect_of_get hr]
    exact attention_lt_raise (hn r hr) (attention_lt_judgePausesOf (hn r hr) ha)

theorem suspectOpen_mem_newSuspect (hr : s.sheets.get n = some r) (hk : AttnKind.suspectOpen ∉ s.room.mask)
    (hh : r.batch < 256) (ha : ∀ a ∈ s.attention, a.2 < 256) : (.suspectOpen, r.batch) ∈ (newSuspect n s).attention := by
  rw [newSuspect_of_get hr]
  refine mem_attention_raise_self ?_ hh (attention_lt_judgePausesOf hh ha)
  rw [judgePausesOf_frame]
  exact hk

theorem gainEvidence_of_none (hr : s.sheets.get n = none) : gainEvidence f n s = s := by
  rw [gainEvidence, hr]

theorem gainEvidence_of_inPath (hr : s.sheets.get n = some r) (hs : r.state = .inPath) :
    gainEvidence f n s = newSuspect n (modSheet n (fun r => { r with evidence := f r.evidence }) s) := by
  rw [gainEvidence, hr]
  exact if_pos hs

theorem gainEvidence_of_ne (hr : s.sheets.get n = some r) (hs : r.state ≠ .inPath) :
    gainEvidence f n s = modSheet n (fun r => { r with evidence := f r.evidence }) s := by
  rw [gainEvidence, hr]
  exact if_neg hs

theorem gainEvidence_frame (f : Evidence → Evidence) (n : Nat) (s : State) : gainEvidence f n s = { s with
    sheets := (gainEvidence f n s).sheets, batches := (gainEvidence f n s).batches
    attention := (gainEvidence f n s).attention } := by
  cases hr : s.sheets.get n with
  | none => rw [gainEvidence_of_none hr]
  | some r =>
    by_cases hs : r.state = .inPath
    · rw [gainEvidence_of_inPath hr hs, newSuspect_frame]
      rfl
    · rw [gainEvidence_of_ne hr hs]
      rfl

@[simp] theorem gainEvidence_entries (f : Evidence → Evidence) (n : Nat) (s : State) :
    (gainEvidence f n s).entries = s.entries := by rw [gainEvidence_frame]
@[simp] theorem gainEvidence_ports (f : Evidence → Evidence) (n : Nat) (s : State) :
    (gainEvidence f n s).ports = s.ports := by rw [gainEvidence_frame]
@[simp] theorem gainEvidence_room (f : Evidence → Evidence) (n : Nat) (s : State) :
    (gainEvidence f n s).room = s.room := by rw [gainEvidence_frame]

/-- The record once it has gained evidence. -/
def Sheet.gained (f : Evidence → Evidence) (r : Sheet) : Sheet :=
  { r with evidence := f r.evidence, state := if r.state = .inPath then .suspect else r.state }

theorem get_sheets_gainEvidence_self (hr : s.sheets.get n = some r) :
    (gainEvidence f n s).sheets.get n = some (r.gained f) := by
  have hmod := get_sheets_modSheet_self (fun r => { r with evidence := f r.evidence }) hr
  by_cases hs : r.state = .inPath
  · rw [gainEvidence_of_inPath hr hs, newSuspect_frame, Sheet.gained, if_pos hs]
    exact get_sheets_modSheet_self (s := modSheet n _ s) _ hmod
  · rw [gainEvidence_of_ne hr hs, Sheet.gained, if_neg hs]
    exact hmod

theorem get_sheets_gainEvidence_ne (hm : m ≠ n) : (gainEvidence f n s).sheets.get m = s.sheets.get m := by
  have hmod : (modSheet n (fun r => { r with evidence := f r.evidence }) s).sheets.get m = s.sheets.get m :=
    get_sheets_modSheet_ne _ hm
  cases hr : s.sheets.get n with
  | none => rw [gainEvidence_of_none hr]
  | some r =>
    by_cases hs : r.state = .inPath
    · rw [gainEvidence_of_inPath hr hs, newSuspect_frame]
      exact (get_sheets_modSheet_ne (s := modSheet n _ s) _ hm).trans hmod
    · rw [gainEvidence_of_ne hr hs, hmod]

theorem mem_attention_gainEvidence {w : Attn} (hw : w ∈ s.attention) : w ∈ (gainEvidence f n s).attention := by
  cases hr : s.sheets.get n with
  | none => rwa [gainEvidence_of_none hr]
  | some r =>
    by_cases hs : r.state = .inPath
    · rw [gainEvidence_of_inPath hr hs]
      exact mem_attention_newSuspect hw
    · rwa [gainEvidence_of_ne hr hs]

/-! What a verdict keeps of the entries and the sheets -/

/-- From `s` to `t` no entry is freed, and a sheet changes in its state, its evidence and its document alone. -/
structure Marked (s t : State) : Prop where
  entry : ∀ e x, s.entries.get e = some x → ∃ y, t.entries.get e = some y
  sheet : ∀ n r, s.sheets.get n = some r → ∃ q, t.sheets.get n = some q ∧
    q = { r with state := q.state, evidence := q.evidence, document := q.document }

theorem Marked.of_records (he : t.entries = s.entries) (hs : t.sheets = s.sheets) : Marked s t :=
  ⟨fun _ x hx => ⟨x, he ▸ hx⟩, fun _ r hr => ⟨r, hs ▸ hr, rfl⟩⟩

theorem Marked.refl (s : State) : Marked s s := .of_records rfl rfl

theorem Marked.trans (h : Marked s t) (k : Marked t u) : Marked s u where
  entry e x hx := by
    obtain ⟨y, hy⟩ := h.entry e x hx
    exact k.entry e y hy
  sheet n r hr := by
    obtain ⟨q, hq, hrq⟩ := h.sheet n r hr
    obtain ⟨v, hv, hqv⟩ := k.sheet n q hq
    exact ⟨v, hv, hqv.trans (congrArg (fun w : Sheet =>
      { w with state := v.state, evidence := v.evidence, document := v.document }) hrq)⟩

theorem marked_foldl {α : Type} {k : State → α → State} (hk : ∀ t a, Marked t (k t a)) (l : List α) (s : State) :
    Marked s (l.foldl k s) := by
  induction l generalizing s with
  | nil => exact .refl s
  | cons a l ih => exact (hk s a).trans (ih _)

theorem marked_modEntry (e : Nat) (k : Entry → Entry) (s : State) : Marked s (modEntry e k s) where
  entry j x hx := by
    rw [modEntry_entries, Tab.get_modify, hx]
    split
    · exact ⟨_, rfl⟩
    · exact ⟨x, rfl⟩
  sheet n r hr := ⟨r, hr, rfl⟩

theorem marked_modSheet {k : Sheet → Sheet} (n : Nat) (s : State)
    (hk : ∀ r, k r = { r with state := (k r).state, evidence := (k r).evidence, document := (k r).document }) :
    Marked s (modSheet n k s) where
  entry e x hx := ⟨x, hx⟩
  sheet m r hr := by
    by_cases hm : m = n
    · rw [hm] at hr ⊢
      exact ⟨k r, get_sheets_modSheet_self k hr, hk r⟩
    · exact ⟨r, (get_sheets_modSheet_ne k hm).trans hr, rfl⟩

theorem marked_modBatch (h : Nat) (k : Batch → Batch) (s : State) : Marked s (modBatch h k s) := .of_records rfl rfl

theorem marked_onQueues (e : Nat) (k : Queues → Queues) (s : State) : Marked s (onQueues e k s) :=
  .of_records (onQueues_entries ..) (onQueues_sheets ..)

theorem marked_halt (e : Nat) (c : HaltCause) (s : State) : Marked s (halt e c s) := by
  unfold halt
  split
  · exact .refl s
  · have hmod : Marked s (modEntry e (Entry.halted c) s) := marked_modEntry ..
    dsimp only
    split_ifs
    · exact (hmod.trans (marked_onQueues ..)).trans (.of_records (raise_entries ..) (raise_sheets ..))
    · exact hmod.trans (.of_records (raise_entries ..) (raise_sheets ..))
    · exact hmod.trans (marked_onQueues ..)
    · exact hmod

theorem marked_newSuspect (n : Nat) (s : State) : Marked s (newSuspect n s) := by
  rw [newSuspect_frame]
  exact (marked_modSheet (k := fun r => { r with state := .suspect }) n s fun r => rfl).trans (.of_records rfl rfl)

theorem marked_gainEvidence (f : Evidence → Evidence) (n : Nat) (s : State) : Marked s (gainEvidence f n s) := by
  unfold gainEvidence
  split
  · exact .refl s
  · have hmod : Marked s (modSheet n (fun r => { r with evidence := f r.evidence }) s) := marked_modSheet n s fun r => rfl
    dsimp only
    split
    · exact hmod.trans (marked_newSuspect ..)
    · exact hmod

theorem marked_leavePath (e n : Nat) (s : State) : Marked s (leavePath e n s) := by
  rw [leavePath_frame]
  exact (marked_modEntry e (Entry.without n) s).trans (.of_records rfl rfl)

theorem marked_dispose (e n : Nat) (s : State) : Marked s (dispose e n s) := by
  unfold dispose
  split
  · next x r hx hr =>
    split
    · split
      · exact .refl s
      · split
        · exact marked_halt ..
        · have horder : Marked s (orderDivert e n r.tag s) := (marked_onQueues ..).trans (marked_modEntry ..)
          dsimp only
          split
          · exact horder.trans (marked_halt ..)
          · exact horder
    · exact .refl s
  · exact .refl s

theorem marked_gainBeyondEnd (e : Nat) (s : State) (n : Nat) : Marked s (gainBeyondEnd e s n) := by
  unfold gainBeyondEnd
  split
  · exact .refl s
  · dsimp only
    split
    · exact (marked_gainEvidence ..).trans (marked_dispose ..)
    · exact marked_gainEvidence ..

theorem marked_actKind (e n : Nat) (r : Sheet) (k : ClassKind) (s : State) : Marked s (actKind e n r k s) := by
  unfold actKind
  split
  · unfold actDocument
    dsimp only
    split
    · exact (marked_modBatch ..).trans (marked_modSheet n _ fun r => rfl)
    · exact marked_modBatch ..
  · exact marked_modBatch ..
  · unfold actBatchEnd
    dsimp only
    split
    · exact (marked_modBatch ..).trans (marked_foldl (marked_gainBeyondEnd e) _ _)
    · exact marked_modBatch ..
  · unfold actMark
    split
    · exact marked_modBatch ..
    · exact .refl s

/-- The formed record stands in its slot before the verdict's consequences, which keep its inputs and its verdict. -/
theorem formVerdict_spec (hr : s.sheets.get n = some r) (hb : s.batches.get r.batch = some b) :
    ∃ v : State, v.sheets.get n = some (r.judged b.capture s.classes) ∧ v.entries = s.entries ∧ Marked v (formVerdict e n s) := by
  refine ⟨modPlan b.plan (fun p => { p with captures := p.captures + 1 })
    (modSheet n (fun _ => r.judged b.capture s.classes) s), ?_, ?_, ?_⟩
  · rw [modPlan_frame]
    exact get_sheets_modSheet_self (fun _ => r.judged b.capture s.classes) hr
  · rw [modPlan_frame]
    rfl
  · rw [formVerdict, hr]
    dsimp only
    rw [hb]
    dsimp only
    obtain ⟨v, hv⟩ : ∃ v, modPlan b.plan (fun p => { p with captures := p.captures + 1 })
      (modSheet n (fun _ => r.judged b.capture s.classes) s) = v := ⟨_, rfl⟩
    obtain ⟨k, hk⟩ : ∃ k, (if (r.judged b.capture s.classes).verdict = .suspect ∧ r.state = .inPath then newSuspect n v
      else v) = k := ⟨_, rfl⟩
    have hnew : Marked v k := by
      rw [← hk]
      split
      · exact marked_newSuspect ..
      · exact .refl v
    obtain ⟨w, hw⟩ : ∃ w, (if (r.judged b.capture s.classes).verdict = .suspect ∨ r.state = .suspect then dispose e n k
      else k) = w := ⟨_, rfl⟩
    have hdispose : Marked k w := by
      rw [← hw]
      split
      · exact marked_dispose ..
      · exact .refl k
    rw [hv, hk, hw]
    exact (hnew.trans hdispose).trans (marked_actKind ..)

/-- An entry in use stays in use where a verdict is formed. -/
theorem stays_formVerdict (hx : s.entries.get j = some x) : ∃ y, (formVerdict e n s).entries.get j = some y := by
  cases hr : s.sheets.get n with
  | none => exact ⟨x, by rw [formVerdict, hr]; exact hx⟩
  | some r =>
    cases hb : s.batches.get r.batch with
    | none =>
      refine ⟨x, ?_⟩
      rw [formVerdict, hr]
      dsimp only
      rw [hb]
      exact hx
    | some b =>
      obtain ⟨v, -, hentries, hmarked⟩ := formVerdict_spec (e := e) hr hb
      exact hmarked.entry j x (hentries ▸ hx)

theorem judgeInputs_of_get (hr : s.sheets.get n = some r) : judgeInputs e n s =
    if r.verdict = .pending ∧ r.inputsComplete then formVerdict e n s else s := by
  rw [judgeInputs, hr]

theorem judgeInputs_of_none (hr : s.sheets.get n = none) : judgeInputs e n s = s := by
  rw [judgeInputs, hr]

end Sys2Proof.Machine
end

section
/-! THICK and PATCH: the record a report is taken for, and the verdict it completes (R36, R93, R94). -/

set_option Elab.async false

namespace Sys2Proof.Machine

variable {s t u : State} {p : Fin 16} {e n : Nat} {r : Sheet} {b : Batch} {g : Tag} {f : Sheet → Sheet}

theorem findTagged_eq_none : findTagged s e g = none ↔ ∀ q ∈ s.sheets, q.2.station = e → q.2.tag ≠ g := by
  simp [findTagged, Tab.find]

theorem mem_of_findTagged (h : findTagged s e g = some (n, r)) : (n, r) ∈ s.sheets ∧ r.station = e ∧ r.tag = g := by
  obtain ⟨hm, hq⟩ := Tab.find_spec h
  simp only [Bool.and_eq_true, decide_eq_true_eq] at hq
  exact ⟨hm, hq⟩

theorem reportTarget_eq_some : reportTarget s e g = some (n, r) ↔ findTagged s e g = some (n, r) ∧ r.verdict = .pending ∧
    ∃ x, s.entries.get e = some x ∧ x.feed ≠ .clearing ∧ ∃ c ∈ x.path, c.slot = n := by
  constructor
  · intro h
    unfold reportTarget at h
    split at h
    · next m q x hfind hx =>
      split at h
      · next hok =>
        cases h
        simp only [Bool.and_eq_true, decide_eq_true_eq] at hok
        obtain ⟨⟨hpath, hfeed⟩, hverdict⟩ := hok
        obtain ⟨y, hy, hc⟩ := inPath_iff.1 hpath
        rw [(mem_of_findTagged hfind).2.1] at hy
        cases hx.symm.trans hy
        exact ⟨hfind, hverdict, x, hx, hfeed, hc⟩
      · cases h
    · cases h
  · rintro ⟨hfind, hverdict, x, hx, hfeed, hc⟩
    have hpath : inPath s n r = true := inPath_iff.2 ⟨x, (mem_of_findTagged hfind).2.1 ▸ hx, hc⟩
    rw [reportTarget, hfind, hx]
    dsimp only
    rw [if_pos]
    simp [hpath, hfeed, hverdict]

theorem reportTaken_of_none (h : reportTarget s e g = none) : reportTaken g f e s = s := by
  rw [reportTaken, h]

theorem reportTaken_of_some (h : reportTarget s e g = some (n, r)) : reportTaken g f e s =
    settle (stationBatches s e) [e] s.lastAlloc (judgeInputs e n (modSheet n f s)) := by
  rw [reportTaken, h]

theorem inputsComplete_iff : r.inputsComplete = true ↔ r.length.isSome = true ∧ r.thick.isSome = true ∧ r.pattern.isSome = true := by
  simp [Sheet.inputsComplete, and_assoc]

theorem inputsComplete_eq_false : r.inputsComplete = false ↔ r.length = none ∨ r.thick = none ∨ r.pattern = none := by
  rw [← Bool.not_eq_true, inputsComplete_iff]
  simp only [Option.isSome_iff_ne_none, ne_eq]
  tauto

theorem get_of_reportTarget (ht : TablesOk s) (h : reportTarget s e g = some (n, r)) :
    s.sheets.get n = some r ∧ r.verdict = .pending := by
  obtain ⟨hfind, hverdict, -⟩ := reportTarget_eq_some.1 h
  exact ⟨Tab.get_of_mem (sheetsWf ht) (mem_of_findTagged hfind).1, hverdict⟩

/-- A report that completes the inputs forms the verdict in its event (R94). -/
theorem reportTaken_of_complete (ht : TablesOk s) (h : reportTarget s e g = some (n, r))
    (hverdict : (f r).verdict = r.verdict) (hin : (f r).inputsComplete = true) : reportTaken g f e s =
      settle (stationBatches s e) [e] s.lastAlloc (formVerdict e n (modSheet n f s)) := by
  obtain ⟨hr, hpending⟩ := get_of_reportTarget ht h
  rw [reportTaken_of_some h, judgeInputs_of_get (get_sheets_modSheet_self f hr), if_pos ⟨hverdict.trans hpending, hin⟩]

/-- The record keeps the report and its other inputs, and its verdict is formed exactly where they are complete (R93, R94). -/
theorem get_sheets_reportTaken (ht : TablesOk s) (h : reportTarget s e g = some (n, r)) (hb : s.batches.get r.batch = some b)
    (hverdict : (f r).verdict = r.verdict) (hbatch : (f r).batch = r.batch) :
    ∃ q, (reportTaken g f e s).sheets.get n = some q ∧ q.thick = (f r).thick ∧ q.pattern = (f r).pattern ∧
      q.length = (f r).length ∧ (q.verdict = .pending ↔ (f r).inputsComplete = false) := by
  obtain ⟨hr, hpending⟩ := get_of_reportTarget ht h
  have hget := get_sheets_modSheet_self f hr
  have hsettle := fun v => (settles_settle (stationBatches s e) [e] s.lastAlloc v).sheet n
  cases hin : (f r).inputsComplete with
  | true =>
    obtain ⟨v, hv, -, hmarked⟩ := formVerdict_spec (s := modSheet n f s) (e := e) hget (hbatch.symm ▸ hb)
    obtain ⟨q, hq, hkept⟩ := hmarked.sheet n _ hv
    obtain ⟨-, hthick, hpattern⟩ := inputsComplete_iff.1 hin
    rw [reportTaken_of_complete ht h hverdict hin]
    refine ⟨q, hsettle _ q hq, ?_, ?_, ?_, ?_⟩
    · obtain ⟨a, ha⟩ := Option.isSome_iff_exists.1 hthick
      rw [hkept]
      simp [Sheet.judged, ha]
    · obtain ⟨a, ha⟩ := Option.isSome_iff_exists.1 hpattern
      rw [hkept]
      simp [Sheet.judged, ha]
    · rw [hkept]
      rfl
    · have hformed : q.verdict ≠ .pending := by
        rw [hkept]
        show decideVerdict _ _ ≠ .pending
        rcases decideVerdict_cases (judgeEvidence _ _ _) _ with hd | hd <;> (rw [hd]; nofun)
      simp [hformed]
  | false =>
    rw [reportTaken_of_some h, judgeInputs_of_get hget, if_neg (by simp [hin])]
    exact ⟨f r, hsettle _ _ hget, rfl, rfl, rfl, by simp [hverdict, hpending]⟩

/-- Settles O47, report by report. -/
theorem reportsReachPendingRecords : Obligations.ReportsReachPendingRecords := by
  unfold Obligations.ReportsReachPendingRecords
  refine ⟨fun e g s => ⟨fun n r => mem_of_findTagged, findTagged_eq_none, fun n r => reportTarget_eq_some⟩,
    fun p e g s hs ht ha => ⟨fun h v n m => ⟨?_, ?_⟩, fun n r b h hb => ?_⟩⟩
  · exact leaves_owner_eq (k := reportTaken g fun r => { r with thick := some (v, n) }) hs ha
      (reportTaken_of_none (s := counted p s) h)
  · exact leaves_owner_eq (k := reportTaken g fun r => { r with pattern := some m }) hs ha
      (reportTaken_of_none (s := counted p s) h)
  · have htarget : reportTarget (counted p s) e g = some (n, r) := h
    have htables : TablesOk (counted p s) := ht
    refine ⟨fun v lv => ?_, fun m => ?_, fun hlen v lv m => ⟨fun hp => ?_, fun hk => ?_⟩⟩
    · obtain ⟨q, hq, hthick, hpattern, hlength, hverdict⟩ :=
        get_sheets_reportTaken (f := fun r => { r with thick := some (v, lv) }) htables htarget hb rfl rfl
      refine ⟨_, q, leaves_of_attached (k := reportTaken g fun r => { r with thick := some (v, lv) }) hs ha, hq, hthick,
        hpattern, hlength, hverdict.trans (inputsComplete_eq_false.trans ?_)⟩
      simp
    · obtain ⟨q, hq, hthick, hpattern, hlength, hverdict⟩ :=
        get_sheets_reportTaken (f := fun r => { r with pattern := some m }) htables htarget hb rfl rfl
      refine ⟨_, q, leaves_of_attached (k := reportTaken g fun r => { r with pattern := some m }) hs ha, hq, hpattern,
        hthick, hlength, hverdict.trans (inputsComplete_eq_false.trans ?_)⟩
      simp
    · exact leaves_owner_eq (k := reportTaken g fun r => { r with thick := some (v, lv) }) hs ha
        (reportTaken_of_complete (f := fun r => { r with thick := some (v, lv) }) htables htarget rfl
          (inputsComplete_iff.2 ⟨hlen, rfl, hp⟩))
    · exact leaves_owner_eq (k := reportTaken g fun r => { r with pattern := some m }) hs ha
        (reportTaken_of_complete (f := fun r => { r with pattern := some m }) htables htarget rfl
          (inputsComplete_iff.2 ⟨hlen, hk, rfl⟩))

end Sys2Proof.Machine
end

section
/-! EDGE words: the position they report, the place that owns one, and what each edge makes of the record and its place (R34,
R66, R85–R88, R94, R95, R101, R102). -/

set_option Elab.async false

namespace Sys2Proof.Machine

variable {s t u : State} {p : Fin 16} {e n m : Nat} {x : Entry} {r : Sheet} {g : Tag} {k : EdgeKind} {c d : Place}
  {l : List Place} {pos : Pos}

theorem posDiff_eq (a b : Pos) : posDiff a b =
    if 32768 ≤ (b.toNat + 65536 - a.toNat) % 65536 then 0 else (b.toNat + 65536 - a.toNat) % 65536 := by
  have ha : a.toNat < 65536 := a.isLt
  have hsub : (b - a).toNat = (b.toNat + 65536 - a.toNat) % 65536 := by
    rw [BitVec.toNat_sub]
    omega
  rw [posDiff, hsub]

/-! The place that owns an edge (R85) -/

theorem placeOf_eq_some (hn : (x.path.map (·.slot)).Nodup) : placeOf x n = some c ↔ c ∈ x.path ∧ c.slot = n := by
  rw [placeOf]
  constructor
  · intro h
    exact ⟨List.mem_of_find?_eq_some h, of_decide_eq_true (List.find?_some (p := fun c : Place => decide (c.slot = n)) h)⟩
  · rintro ⟨hc, rfl⟩
    obtain ⟨l, m, hl⟩ := List.append_of_mem hc
    rw [hl, List.map_append, List.map_cons, List.nodup_append] at hn
    obtain ⟨-, -, hdisj⟩ := hn
    rw [List.find?_eq_some_iff_append]
    refine ⟨by simp, l, m, hl, fun d hd => ?_⟩
    simpa using hdisj d.slot (List.mem_map_of_mem hd) c.slot List.mem_cons_self

/-- In a queue with one place for a sheet, the place ahead is the last of those before it. -/
theorem placeAhead_append {m : List Place} (hn : ((l ++ c :: m).map (·.slot)).Nodup) :
    placeAhead c.slot (l ++ c :: m) = l.getLast? := by
  induction l with
  | nil =>
    induction m generalizing c with
    | nil => rfl
    | cons a m ih =>
      simp only [List.nil_append, List.map_cons, List.nodup_cons, List.mem_cons, not_or] at hn ih
      obtain ⟨⟨hca, hcm⟩, ham, hm⟩ := hn
      rw [List.nil_append, placeAhead, if_neg (Ne.symm hca)]
      suffices hnone : ∀ m : List Place, c.slot ∉ m.map (·.slot) → ∀ a, placeAhead c.slot (a :: m) = none from hnone m hcm a
      intro m
      induction m with
      | nil => exact fun _ _ => rfl
      | cons b m ih =>
        intro hb a
        rw [List.map_cons, List.mem_cons, not_or] at hb
        rw [placeAhead, if_neg (Ne.symm hb.1)]
        exact ih hb.2 b
  | cons a l ih =>
    rw [List.cons_append, List.map_cons, List.nodup_cons] at hn
    cases l with
    | nil => rw [List.cons_append, List.nil_append, placeAhead, if_pos rfl]; rfl
    | cons b l =>
      have hne : b.slot ≠ c.slot := fun h => by
        have hrest := hn.2
        rw [List.cons_append, List.map_cons, List.nodup_cons] at hrest
        exact hrest.1 (h ▸ by simp)
      rw [List.cons_append, List.cons_append, placeAhead, if_neg hne]
      exact (ih hn.2).trans List.getLast?_cons_cons.symm

/-- A place is the oldest without an edge it lacks exactly where those ahead of it have it. -/
theorem oldestWithout_iff {m : List Place} (hn : ((l ++ c :: m).map (·.slot)).Nodup) (hc : c.seen k = false) :
    oldestWithout k (l ++ c :: m) c.slot = true ↔ ∀ d ∈ l, d.seen k = true := by
  unfold oldestWithout
  induction l with
  | nil => simp [hc]
  | cons a l ih =>
    rw [List.cons_append, List.map_cons, List.nodup_cons] at hn
    cases ha : a.seen k with
    | true =>
      rw [List.cons_append, List.find?_cons_of_neg (by simp [ha])]
      refine (ih hn.2).trans ?_
      simp [ha]
    | false =>
      have hne : a.slot ≠ c.slot := fun h => hn.1 (h ▸ by simp)
      rw [List.cons_append, List.find?_cons_of_pos (by simp [ha])]
      simp [ha, hne]

/-- The place ahead, if there is one, lets an edge pass. -/
def aheadClear (k : EdgeKind) : Option Place → Bool
  | some a => a.clearOf k
  | none => true

theorem aheadClear_iff {o : Option Place} : aheadClear k o = true ↔ ∀ d, o = some d → d.clearOf k = true := by
  cases o <;> simp [aheadClear]

theorem edgeOwner_of_place (hfind : findTagged s e g = some (n, r)) (hc : placeOf x n = some c) : edgeOwner s e x g k =
    if !c.seen k && c.follows k && oldestWithout k x.path n && aheadClear k (placeAhead n x.path) then some c else none := by
  unfold edgeOwner
  rw [hfind]
  dsimp only
  rw [hc]
  rfl

theorem edgeOwner_of_no_place (hfind : findTagged s e g = some (n, r)) (hc : placeOf x n = none) :
    edgeOwner s e x g k = none := by
  unfold edgeOwner
  rw [hfind]
  dsimp only
  rw [hc]

theorem edgeOwner_of_no_record (hfind : findTagged s e g = none) : edgeOwner s e x g k = none := by
  unfold edgeOwner
  rw [hfind]

/-- The conditions of R85, of the places before that of the sheet the edge names. -/
theorem edgeOwner_eq_some (hn : (x.path.map (·.slot)).Nodup) : edgeOwner s e x g k = some c ↔
    ∃ l, (∃ r m, findTagged s e g = some (c.slot, r) ∧ x.path = l ++ c :: m) ∧ c.seen k = false ∧ c.follows k = true ∧
      (∀ d ∈ l, d.seen k = true) ∧ ∀ d, l.getLast? = some d → d.clearOf k = true := by
  have hahead : ∀ {l m : List Place}, x.path = l ++ c :: m → c.seen k = false →
      ((oldestWithout k x.path c.slot = true ↔ ∀ d ∈ l, d.seen k = true) ∧ placeAhead c.slot x.path = l.getLast?) :=
    fun hl hc => by
      rw [hl] at hn ⊢
      exact ⟨oldestWithout_iff hn hc, placeAhead_append hn⟩
  constructor
  · intro h
    cases hfind : findTagged s e g with
    | none => rw [edgeOwner_of_no_record hfind] at h; cases h
    | some found =>
      obtain ⟨slot, r⟩ := found
      cases ha : placeOf x slot with
      | none => rw [edgeOwner_of_no_place hfind ha] at h; cases h
      | some a =>
        rw [edgeOwner_of_place hfind ha] at h
        split at h
        · next hok =>
          cases h
          obtain ⟨hmem, rfl⟩ := (placeOf_eq_some hn).1 ha
          simp only [Bool.and_eq_true, Bool.not_eq_true', aheadClear_iff] at hok
          obtain ⟨⟨⟨hseen, hfollows⟩, hold⟩, hahd⟩ := hok
          obtain ⟨l, m, hl⟩ := List.append_of_mem hmem
          obtain ⟨holdest, hplace⟩ := hahead hl hseen
          rw [hplace] at hahd
          exact ⟨l, ⟨r, m, rfl, hl⟩, hseen, hfollows, holdest.1 hold, hahd⟩
        · cases h
  · rintro ⟨l, ⟨r, m, hfind, hl⟩, hseen, hfollows, hall, hahd⟩
    obtain ⟨holdest, hplace⟩ := hahead hl hseen
    rw [edgeOwner_of_place hfind ((placeOf_eq_some hn).2 ⟨by rw [hl]; simp, rfl⟩), if_pos]
    simp only [Bool.and_eq_true, Bool.not_eq_true', aheadClear_iff, hplace]
    exact ⟨⟨⟨hseen, hfollows⟩, holdest.2 hall⟩, hahd⟩

/-- Only at the head of the queue is no sheet ahead. -/
theorem getLast?_none_iff : (∀ d : Place, l.getLast? = some d → False) ↔ l = [] := by
  rw [← List.getLast?_eq_none_iff, Option.eq_none_iff_forall_ne_some]

/-! A place is marked (R84, R86) -/

/-- The queue with the place of the sheet in slot `n` changed. -/
def markAt (n : Nat) (f : Place → Place) (l : List Place) : List Place := l.map fun d => if d.slot = n then f d else d

theorem modPlace_frame (e n : Nat) (f : Place → Place) (s : State) :
    modPlace e n f s = { s with entries := (modPlace e n f s).entries } := rfl

theorem get_entries_modPlace (f : Place → Place) (hx : s.entries.get e = some x) :
    (modPlace e n f s).entries.get e = some { x with path := markAt n f x.path } := get_entries_modEntry_self _ hx

theorem modPlace_sheets (e n : Nat) (f : Place → Place) (s : State) : (modPlace e n f s).sheets = s.sheets := rfl

/-! Edges by feed state and owner -/

theorem takeEdge_of_still (hx : x.feed = .idle ∨ x.feed = .clearing) : takeEdge e g k pos x s = s := by
  unfold takeEdge
  rcases hx with hx | hx <;> rw [hx]

theorem takeEdge_pickLead (h1 : x.feed ≠ .idle) (h2 : x.feed ≠ .clearing) :
    takeEdge e g .pickLead pos x s = pickLeadTaken e g pos x s := by
  unfold takeEdge
  cases hx : x.feed <;> simp_all

theorem takeEdge_other (h1 : x.feed ≠ .idle) (h2 : x.feed ≠ .clearing) (hk : k ≠ .pickLead) :
    takeEdge e g k pos x s = matchEdge e g k pos x s := by
  unfold takeEdge
  cases hx : x.feed <;> cases k <;> simp_all

theorem pickLeadTaken_of_stray (h : ∀ n r, pickingOf s e = some (n, r) → r.tag ≠ g) : pickLeadTaken e g pos x s = s := by
  unfold pickLeadTaken
  split
  · next n r hp => exact if_neg (h n r hp)
  · rfl

theorem pickLeadTaken_of_picking (hp : pickingOf s e = some (n, r)) (hg : r.tag = g) :
    pickLeadTaken e g pos x s = takePick e n r x pos s := by
  rw [pickLeadTaken, hp]
  exact if_pos hg

theorem edgeDropped_of_moving (hx : x.feed = .running ∨ x.feed = .ready) : edgeDropped e x s = halt e .jam s :=
  if_pos (moving_iff.2 hx)

theorem edgeDropped_of_halted (hx : x.feed = .halted) : edgeDropped e x s = s := if_neg (by rw [hx]; nofun)

theorem matchEdge_of_none (h : edgeOwner s e x g k = none) : matchEdge e g k pos x s = edgeDropped e x s := by
  rw [matchEdge, h]

theorem lengthOk_iff : lengthOk n = true ↔ 250 ≤ n ∧ n ≤ 5000 := Config.within_iff

/-! The pick (R34, R66) -/

/-- The state with the pick's record, batch, entry and port, before the class end on the path is asked about. -/
def picked (e n : Nat) (r : Sheet) (pos : Pos) (s : State) : State :=
  onQueues e (Queues.dropGrant r.tag) (modEntry e (Entry.pick n pos) (modBatch r.batch Batch.pick
    (modSheet n (fun q => { q with state := .inPath, seq := (s.batches.get q.batch).map (·.nextSeq) }) s)))

theorem takePick_eq : takePick e n r x pos s = if pathHasEnd s x then
    gainEvidence (fun v => { v with beyondEnd := true }) n (picked e n r pos s) else picked e n r pos s := rfl

theorem picked_frame (e n : Nat) (r : Sheet) (pos : Pos) (s : State) : picked e n r pos s = { s with
    sheets := s.sheets.modify n fun q => { q with state := .inPath, seq := (s.batches.get q.batch).map (·.nextSeq) }
    batches := s.batches.modify r.batch Batch.pick, entries := s.entries.modify e (Entry.pick n pos)
    ports := (picked e n r pos s).ports } := by
  rw [picked, onQueues_frame]
  rfl

theorem Queues.dropGrant_eq (q : Queues) :
    q.dropGrant g = { q with grant := if q.grant = some g then none else q.grant } := by
  unfold Queues.dropGrant
  split <;> rfl

theorem ports_picked_self (hx : s.entries.get e = some x) (hp : x.port = some p) : (picked e n r pos s).ports[p] =
    { s.ports[p] with queues := { s.ports[p].queues with
        grant := if s.ports[p].queues.grant = some r.tag then none else s.ports[p].queues.grant } } := by
  have hentry : (modEntry e (Entry.pick n pos) (modBatch r.batch Batch.pick (modSheet n (fun q =>
      { q with state := .inPath, seq := (s.batches.get q.batch).map (·.nextSeq) }) s))).entries.get e =
      some (x.pick n pos) := get_entries_modEntry_self (s := modBatch r.batch Batch.pick (modSheet n _ s)) _ hx
  rw [picked, ports_onQueues_self _ hentry hp, Queues.dropGrant_eq]
  rfl

theorem ports_picked_of_ne (hx : s.entries.get e = some x) (hp : x.port ≠ some p) :
    (picked e n r pos s).ports[p] = s.ports[p] := by
  have hentry : (modEntry e (Entry.pick n pos) (modBatch r.batch Batch.pick (modSheet n (fun q =>
      { q with state := .inPath, seq := (s.batches.get q.batch).map (·.nextSeq) }) s))).entries.get e =
      some (x.pick n pos) := get_entries_modEntry_self (s := modBatch r.batch Batch.pick (modSheet n _ s)) _ hx
  rw [picked, ports_onQueues_of_ne _ hentry hp]
  rfl

theorem takePick_frame (e n : Nat) (r : Sheet) (x : Entry) (pos : Pos) (s : State) : takePick e n r x pos s = { s with
    entries := (takePick e n r x pos s).entries, batches := (takePick e n r x pos s).batches
    sheets := (takePick e n r x pos s).sheets, ports := (takePick e n r x pos s).ports
    attention := (takePick e n r x pos s).attention } := by
  rw [takePick_eq]
  split
  · rw [gainEvidence_frame, picked_frame]
  · rw [picked_frame]

theorem ports_takePick (e n : Nat) (r : Sheet) (x : Entry) (pos : Pos) (s : State) :
    (takePick e n r x pos s).ports = (picked e n r pos s).ports := by
  rw [takePick_eq]
  split
  · rw [gainEvidence_ports]
  · rfl

/-! The other edges (R86, R87, R94, R95, R101, R102) -/

theorem applyGaugeTrail_eq (hr : s.sheets.get c.slot = some r) (hx : s.entries.get e = some x) : ∃ v : State,
    v = { s with entries := v.entries, sheets := v.sheets } ∧
    v.entries.get e = some { x with
      path := markAt c.slot (fun d => { d with gaugeTrail := some pos }) x.path, lastGaugeTrail := some pos } ∧
    v.sheets.get c.slot = some { r with length := some n } ∧
    (r.verdict = .pending → c.exitLead = true ∨ (r.thick.isSome = true ∧ r.pattern.isSome = true) →
      applyGaugeTrail e c n pos s = formVerdict e c.slot v) ∧
    (r.verdict ≠ .pending ∨ (c.exitLead = false ∧ (r.thick = none ∨ r.pattern = none)) →
      applyGaugeTrail e c n pos s = v) := by
  obtain ⟨v, hv⟩ : ∃ v, modSheet c.slot (fun r => { r with length := some n }) (modEntry e
    (fun x => { x with lastGaugeTrail := some pos }) (modPlace e c.slot (fun c => { c with gaugeTrail := some pos }) s)) = v :=
    ⟨_, rfl⟩
  have hframe : v = { s with entries := v.entries, sheets := v.sheets } := by rw [← hv]; rfl
  have hentry : v.entries.get e = some { x with
      path := markAt c.slot (fun d => { d with gaugeTrail := some pos }) x.path, lastGaugeTrail := some pos } := by
    rw [← hv]
    exact get_entries_modEntry_self (fun x => { x with lastGaugeTrail := some pos })
      (get_entries_modPlace (fun d => { d with gaugeTrail := some pos }) hx)
  have hsheet : v.sheets.get c.slot = some { r with length := some n } := by
    rw [← hv]
    exact get_sheets_modSheet_self (s := modEntry e _ (modPlace e c.slot _ s)) _ hr
  have happly : applyGaugeTrail e c n pos s =
      if r.verdict = .pending ∧ c.exitLead = true then formVerdict e c.slot v else judgeInputs e c.slot v := by
    unfold applyGaugeTrail
    dsimp only
    rw [hv, hsheet]
  have hinputs : judgeInputs e c.slot v = if r.verdict = .pending ∧
      ({ r with length := some n } : Sheet).inputsComplete then formVerdict e c.slot v else v := judgeInputs_of_get hsheet
  refine ⟨v, hframe, hentry, hsheet, fun hpending hdue => ?_, fun hno => ?_⟩
  · rw [happly]
    by_cases hexit : c.exitLead = true
    · rw [if_pos ⟨hpending, hexit⟩]
    · obtain ⟨hk, hp⟩ := hdue.resolve_left hexit
      rw [if_neg fun h => hexit h.2, hinputs, if_pos ⟨hpending, inputsComplete_iff.2 ⟨rfl, hk, hp⟩⟩]
  · rcases hno with hno | ⟨hexit, hmissing⟩
    · rw [happly, if_neg fun h => hno h.1, hinputs, if_neg fun h => hno h.1]
    · have hincomplete : ({ r with length := some n } : Sheet).inputsComplete = false :=
        inputsComplete_eq_false.2 (.inr hmissing)
      rw [happly, if_neg fun h => Bool.eq_false_iff.1 hexit h.2, hinputs,
        if_neg fun h => Bool.eq_false_iff.1 hincomplete h.2]

theorem applyExitLead_eq (hr : s.sheets.get c.slot = some r) (hx : s.entries.get e = some x) : ∃ v : State,
    v = { s with entries := v.entries } ∧
    v.entries.get e = some { x with path := markAt c.slot (fun d => { d with exitLead := true }) x.path } ∧
    (r.verdict = .pending → c.gaugeTrail.isSome = true → applyExitLead e c s = formVerdict e c.slot v) ∧
    (r.verdict ≠ .pending ∨ c.gaugeTrail = none → applyExitLead e c s = v) := by
  obtain ⟨v, hv⟩ : ∃ v, modPlace e c.slot (fun c => { c with exitLead := true }) s = v := ⟨_, rfl⟩
  have hsheet : v.sheets.get c.slot = some r := hv ▸ hr
  have happly : applyExitLead e c s =
      if r.verdict = .pending ∧ c.gaugeTrail.isSome = true then formVerdict e c.slot v else v := by
    unfold applyExitLead
    dsimp only
    rw [hv, hsheet]
  refine ⟨v, by rw [← hv]; rfl, by rw [← hv]; exact get_entries_modPlace _ hx, fun h1 h2 => ?_, fun hno => ?_⟩
  · rw [happly, if_pos ⟨h1, h2⟩]
  · rw [happly, if_neg]
    rintro ⟨h1, h2⟩
    rcases hno with hno | hno
    · exact hno h1
    · rw [hno] at h2
      cases h2

/-- The state once the sheet has left the path queue with its tray. -/
def exited (e n : Nat) (a : Tray) (s : State) : State := leavePath e n (modSheet n (fun r => { r with tray := some a }) s)

theorem get_sheets_exited {a : Tray} (hr : s.sheets.get n = some r) :
    (exited e n a s).sheets.get n = some { r with tray := some a } := by
  rw [exited, leavePath_sheets]
  exact get_sheets_modSheet_self _ hr

theorem applyExitTrail_of_inPath {a : Tray} (hr : s.sheets.get n = some r) (hs : r.state = .inPath) :
    applyExitTrail e n a s = exitClear e n a (exited e n a s) := by
  have hget : (leavePath e n (modSheet n (fun r => { r with tray := some a }) s)).sheets.get n =
    some { r with tray := some a } := get_sheets_exited hr
  unfold applyExitTrail
  dsimp only
  rw [hget]
  dsimp only
  rw [hs]
  rfl

theorem applyExitTrail_of_suspect {a : Tray} (hr : s.sheets.get n = some r) (hs : r.state = .suspect) :
    applyExitTrail e n a s = exitSuspect e n a (exited e n a s) := by
  have hget : (leavePath e n (modSheet n (fun r => { r with tray := some a }) s)).sheets.get n =
    some { r with tray := some a } := get_sheets_exited hr
  unfold applyExitTrail
  dsimp only
  rw [hget]
  dsimp only
  rw [hs]
  rfl

/-! No entry is freed -/

/-- From `s` to `t` no entry is freed. -/
structure EntriesStay (s t : State) : Prop where
  entry : ∀ j y, s.entries.get j = some y → ∃ z, t.entries.get j = some z

theorem Marked.stays (h : Marked s t) : EntriesStay s t := ⟨h.entry⟩

theorem Settles.stays {c : Prop} (h : Settles c s t) : EntriesStay s t where
  entry j y hy := by
    obtain ⟨z, hz, -⟩ := h.entry j y hy
    exact ⟨z, hz⟩

theorem EntriesStay.refl (s : State) : EntriesStay s s := ⟨fun _ y hy => ⟨y, hy⟩⟩

theorem EntriesStay.trans (h : EntriesStay s t) (k : EntriesStay t u) : EntriesStay s u where
  entry j y hy := by
    obtain ⟨z, hz⟩ := h.entry j y hy
    exact k.entry j z hz

theorem entriesStay_of_eq (h : t.entries = s.entries) : EntriesStay s t :=
  ⟨fun _ y hy => ⟨y, h ▸ hy⟩⟩

theorem entriesStay_modEntry (e : Nat) (f : Entry → Entry) (s : State) : EntriesStay s (modEntry e f s) :=
  (marked_modEntry e f s).stays

theorem entriesStay_modSheet (n : Nat) (f : Sheet → Sheet) (s : State) : EntriesStay s (modSheet n f s) :=
  entriesStay_of_eq rfl

theorem entriesStay_modPlace (e n : Nat) (f : Place → Place) (s : State) : EntriesStay s (modPlace e n f s) :=
  entriesStay_modEntry ..

theorem entriesStay_removeRecord (n : Nat) (o : Option ReleaseOutcome) (s : State) : EntriesStay s (removeRecord n o s) := by
  cases hr : s.sheets.get n with
  | none => rw [removeRecord, hr]; exact .refl s
  | some r =>
    have hout : EntriesStay s (recordOut n r s) := by
      refine (entriesStay_modEntry r.station (fun x => { x with liveCount := x.liveCount - 1 }) s).trans (entriesStay_of_eq ?_)
      rw [recordOut_entries]
      rfl
    rw [removeRecord_eq_recordOut hr]
    cases o with
    | none => exact hout
    | some k =>
      refine hout.trans ?_
      dsimp only
      unfold releaseDue
      split
      · exact entriesStay_of_eq (onQueues_entries ..)
      · exact entriesStay_modEntry ..

theorem entriesStay_completeIfDone (n : Nat) (s : State) : EntriesStay s (completeIfDone n s) := by
  unfold completeIfDone
  split
  · exact .refl s
  · split
    · exact ((marked_modBatch ..).stays.trans (entriesStay_removeRecord ..)).trans (settles_offerSlot (c := False) _).stays
    · exact .refl s

theorem entriesStay_buildEntries (n : Nat) (s : State) : EntriesStay s (buildEntries n s) := by
  unfold buildEntries
  (repeat' split) <;> exact entriesStay_of_eq rfl

theorem entriesStay_formVerdict (e n : Nat) (s : State) : EntriesStay s (formVerdict e n s) :=
  ⟨fun _ _ => stays_formVerdict⟩

theorem entriesStay_judgeInputs (e n : Nat) (s : State) : EntriesStay s (judgeInputs e n s) := by
  unfold judgeInputs
  split
  · split
    · exact entriesStay_formVerdict ..
    · exact .refl s
  · exact .refl s

theorem entriesStay_edgeDropped (e : Nat) (x : Entry) (s : State) : EntriesStay s (edgeDropped e x s) := by
  unfold edgeDropped
  split
  · exact (marked_halt ..).stays
  · exact .refl s

theorem entriesStay_applyExitTrail (e n : Nat) (a : Tray) (s : State) : EntriesStay s (applyExitTrail e n a s) := by
  have hleave : EntriesStay s (leavePath e n (modSheet n (fun r => { r with tray := some a }) s)) :=
    (entriesStay_modSheet ..).trans (marked_leavePath ..).stays
  unfold applyExitTrail
  dsimp only
  split
  · exact hleave
  · split
    · have htray : ∀ v, EntriesStay v (checkTray e a v) := fun v => by
        cases a
        · exact .refl v
        · exact (marked_halt ..).stays
      exact ((hleave.trans (entriesStay_modSheet ..)).trans (htray _)).trans
        ((entriesStay_buildEntries ..).trans (entriesStay_completeIfDone ..))
    · cases a
      · exact (hleave.trans (entriesStay_modSheet ..)).trans (marked_halt ..).stays
      · exact hleave
    · exact hleave
    · exact hleave
    · exact hleave

theorem entriesStay_matchEdge (e : Nat) (g : Tag) (k : EdgeKind) (pos : Pos) (x : Entry) (s : State) :
    EntriesStay s (matchEdge e g k pos x s) := by
  unfold matchEdge
  split
  · exact entriesStay_edgeDropped ..
  · next c _ =>
    cases k with
    | pickLead => exact .refl s
    | pickTrail => exact entriesStay_modEntry ..
    | gaugeLead =>
      dsimp only
      unfold applyGaugeLead captureGap
      split
      · exact (entriesStay_modPlace ..).trans (entriesStay_modSheet ..)
      · exact entriesStay_modPlace ..
    | gaugeTrail =>
      dsimp only
      split
      · unfold applyGaugeTrail
        dsimp only
        have hmark : ∀ v k, EntriesStay s (modSheet c.slot k (modEntry e v (modPlace e c.slot
            (fun c => { c with gaugeTrail := some pos }) s))) := fun v k =>
          ((entriesStay_modPlace ..).trans (entriesStay_modEntry ..)).trans (entriesStay_modSheet ..)
        split
        · split
          · exact (hmark ..).trans (entriesStay_formVerdict ..)
          · exact (hmark ..).trans (entriesStay_judgeInputs ..)
        · exact hmark ..
      · exact entriesStay_edgeDropped ..
    | exitLead =>
      dsimp only
      unfold applyExitLead
      dsimp only
      split
      · split
        · exact (entriesStay_modPlace ..).trans (entriesStay_formVerdict ..)
        · exact entriesStay_modEntry ..
      · exact entriesStay_modEntry ..
    | exitTrail a => exact entriesStay_applyExitTrail ..

theorem entriesStay_takePick (e n : Nat) (r : Sheet) (x : Entry) (pos : Pos) (s : State) :
    EntriesStay s (takePick e n r x pos s) := by
  have hpicked : EntriesStay s (picked e n r pos s) := by
    refine (entriesStay_modEntry e (Entry.pick n pos) s).trans (entriesStay_of_eq ?_)
    rw [picked_frame]
    rfl
  rw [takePick_eq]
  split
  · exact hpicked.trans (marked_gainEvidence ..).stays
  · exact hpicked

theorem entriesStay_takeEdge (e : Nat) (g : Tag) (k : EdgeKind) (pos : Pos) (x : Entry) (s : State) :
    EntriesStay s (takeEdge e g k pos x s) := by
  by_cases hstill : x.feed = .idle ∨ x.feed = .clearing
  · rw [takeEdge_of_still hstill]
    exact .refl s
  · obtain ⟨h1, h2⟩ := not_or.1 hstill
    by_cases hk : k = .pickLead
    · rw [hk, takeEdge_pickLead h1 h2]
      unfold pickLeadTaken
      split
      · split
        · exact entriesStay_takePick ..
        · exact .refl s
      · exact .refl s
    · rw [takeEdge_other h1 h2 hk]
      exact entriesStay_matchEdge ..

end Sys2Proof.Machine
end

section
/-! What an EDGE makes of the path queue: the statement of 3.3 of the scope (R34, R66, R85–R88, R94, R95, R101, R102). -/

set_option Elab.async false

namespace Sys2Proof.Machine

variable {s t u : State} {p : Fin 16} {e n m : Nat} {x : Entry} {r : Sheet} {g : Tag} {k : EdgeKind} {c d : Place}
  {l : List Place} {pos : Pos}

/-! An edge is taken at its entry (R85, R88, log 10) -/

theorem leaves_edge (hs : Runs s) (ha : AttachedTo s p e) : Leaves (.edge p g k pos) s
    (settle (stationBatches s e ++ pickingBatches s e) [e] s.lastAlloc (arbitrate (onEntry e (judgeJam e)
      (onEntry e (takeEdge e g k pos) (modEntry e (fun x => { x with lastPos := some pos }) (counted p s)))))) :=
  leaves_of_attached (k := edgeTaken g k pos) hs ha

theorem edge_is_judged (hs : Runs s) (ha : AttachedTo s p e) (hx : s.entries.get e = some x)
    (hu : u = takeEdge e g k pos { x with lastPos := some pos }
      (modEntry e (fun x => { x with lastPos := some pos }) (counted p s))) :
    ∃ z, u.entries.get e = some z ∧ Leaves (.edge p g k pos) s
      (settle (stationBatches s e ++ pickingBatches s e) [e] s.lastAlloc (arbitrate (judgeJam e z u))) := by
  have hy : (modEntry e (fun x => { x with lastPos := some pos }) (counted p s)).entries.get e =
      some { x with lastPos := some pos } := get_entries_modEntry_self (s := counted p s) _ hx
  obtain ⟨z, hz⟩ := (entriesStay_takeEdge e g k pos { x with lastPos := some pos } _).entry e _ hy
  rw [← hu] at hz
  have hleaves := leaves_edge (g := g) (k := k) (pos := pos) hs ha
  rw [onEntry_of_get hy, ← hu, onEntry_of_get hz] at hleaves
  exact ⟨z, hz, hleaves⟩

/-! The owner by edge (R85) -/

theorem edgeOwner_pickTrail (hn : (x.path.map (·.slot)).Nodup) : edgeOwner s e x g .pickTrail = some c ↔
    ∃ l, (∃ r m, findTagged s e g = some (c.slot, r) ∧ x.path = l ++ c :: m) ∧ c.pickTrail = false ∧
      ∀ d ∈ l, d.pickTrail = true :=
  (edgeOwner_eq_some hn).trans (exists_congr fun l => by simp [Place.seen, Place.follows, Place.clearOf])

theorem edgeOwner_gaugeLead (hn : (x.path.map (·.slot)).Nodup) : edgeOwner s e x g .gaugeLead = some c ↔
    ∃ l, (∃ r m, findTagged s e g = some (c.slot, r) ∧ x.path = l ++ c :: m) ∧ c.gaugeLead = none ∧
      (∀ d ∈ l, d.gaugeLead.isSome = true) ∧ ∀ d, l.getLast? = some d → d.gaugeTrail.isSome = true :=
  (edgeOwner_eq_some hn).trans (exists_congr fun l => by simp [Place.seen, Place.follows, Place.clearOf])

theorem edgeOwner_gaugeTrail (hn : (x.path.map (·.slot)).Nodup) : edgeOwner s e x g .gaugeTrail = some c ↔
    ∃ l, (∃ r m, findTagged s e g = some (c.slot, r) ∧ x.path = l ++ c :: m) ∧ c.gaugeTrail = none ∧
      c.gaugeLead.isSome = true ∧ c.pickTrail = true ∧ ∀ d ∈ l, d.gaugeTrail.isSome = true :=
  (edgeOwner_eq_some hn).trans (exists_congr fun l => by simp [Place.seen, Place.follows, Place.clearOf, and_assoc])

theorem edgeOwner_exitLead (hn : (x.path.map (·.slot)).Nodup) : edgeOwner s e x g .exitLead = some c ↔
    (∃ r m, findTagged s e g = some (c.slot, r) ∧ x.path = [] ++ c :: m) ∧ c.exitLead = false ∧ c.gaugeLead.isSome = true := by
  refine (edgeOwner_eq_some hn).trans ⟨?_, fun ⟨hnamed, hlack, hlead⟩ => ⟨[], hnamed, hlack, hlead, nofun, nofun⟩⟩
  rintro ⟨l, hnamed, hlack, hlead, -, hahead⟩
  obtain rfl : l = [] := getLast?_none_iff.1 fun d hd => absurd (hahead d hd) nofun
  exact ⟨hnamed, hlack, hlead⟩

theorem edgeOwner_exitTrail (hn : (x.path.map (·.slot)).Nodup) (a : Tray) : edgeOwner s e x g (.exitTrail a) = some c ↔
    (∃ r m, findTagged s e g = some (c.slot, r) ∧ x.path = [] ++ c :: m) ∧ c.exitLead = true ∧ c.gaugeTrail.isSome = true := by
  have hfollows : c.follows (.exitTrail a) = true ↔ c.exitLead = true ∧ c.gaugeTrail.isSome = true := Bool.and_eq_true _ _ ▸ .rfl
  refine (edgeOwner_eq_some hn).trans ⟨?_, fun ⟨hnamed, hedges⟩ => ⟨[], hnamed, rfl, hfollows.2 hedges, nofun, nofun⟩⟩
  rintro ⟨l, hnamed, -, hedges, hseen, -⟩
  obtain rfl : l = [] := List.eq_nil_iff_forall_not_mem.2 fun d hd => absurd (hseen d hd) nofun
  exact ⟨hnamed, hfollows.1 hedges⟩

/-! The edges of a sheet in the path (R86, R87, R101, R102) -/

theorem takeEdge_of_owner (h1 : x.feed ≠ .idle) (h2 : x.feed ≠ .clearing) (hk : k ≠ .pickLead)
    (hc : edgeOwner s e x g k = some c) : takeEdge e g k pos x s =
      match k with
      | .pickLead => s
      | .pickTrail => modPlace e c.slot (fun c => { c with pickTrail := true }) s
      | .gaugeLead => applyGaugeLead e x c.slot pos s
      | .gaugeTrail =>
        if lengthOk (posDiff (c.gaugeLead.getD pos) pos) then applyGaugeTrail e c (posDiff (c.gaugeLead.getD pos) pos) pos s
        else edgeDropped e x s
      | .exitLead => applyExitLead e c s
      | .exitTrail tray => applyExitTrail e c.slot tray s := by
  rw [takeEdge_other h1 h2 hk, matchEdge, hc]
  cases k <;> rfl

theorem captureGap_spec (last : Option Pos) (hr : s.sheets.get n = some r) :
    captureGap n last pos s = { s with sheets := (captureGap n last pos s).sheets } ∧
    (captureGap n last pos s).sheets.get n = some { r with gap := (last.map fun a => posDiff a pos).or r.gap } := by
  unfold captureGap
  cases last with
  | none => exact ⟨rfl, hr⟩
  | some a => exact ⟨rfl, get_sheets_modSheet_self (fun r => { r with gap := some (posDiff a pos) }) hr⟩

theorem applyGaugeLead_spec (hx : s.entries.get e = some x) (hr : s.sheets.get n = some r) :
    applyGaugeLead e x n pos s = { s with
      entries := (applyGaugeLead e x n pos s).entries, sheets := (applyGaugeLead e x n pos s).sheets } ∧
    (applyGaugeLead e x n pos s).entries.get e =
      some { x with path := markAt n (fun d => { d with gaugeLead := some pos }) x.path } ∧
    (applyGaugeLead e x n pos s).sheets.get n =
      some { r with gap := (x.lastGaugeTrail.map fun a => posDiff a pos).or r.gap } := by
  obtain ⟨hframe, hsheet⟩ := captureGap_spec (pos := pos) (s := modPlace e n (fun d => { d with gaugeLead := some pos }) s)
    x.lastGaugeTrail hr
  refine ⟨?_, ?_, hsheet⟩
  · rw [applyGaugeLead, hframe]
    rfl
  · rw [applyGaugeLead, hframe]
    exact get_entries_modPlace (fun d => { d with gaugeLead := some pos }) hx

/-- What the state is once a sheet has left the path with its tray. -/
theorem exited_spec {a : Tray} (hx : s.entries.get e = some x) (hr : s.sheets.get n = some r) :
    exited e n a s = { s with
      entries := (exited e n a s).entries, sheets := (exited e n a s).sheets, ports := (exited e n a s).ports } ∧
    (exited e n a s).sheets.get n = some { r with tray := some a } ∧
    (∀ l, l = x.path.filter (fun d => decide (d.slot ≠ n)) → (exited e n a s).entries.get e = some
      { x with path := l, lastGaugeTrail := if l = [] then none else x.lastGaugeTrail }) ∧
    ∀ p : Fin 16, x.port = some p → (exited e n a s).ports[p].queues =
      { s.ports[p].queues with divert := s.ports[p].queues.divert.filter fun t => decide (t ≠ r.tag) } := by
  refine ⟨?_, get_sheets_exited hr, ?_, fun p hp => ?_⟩
  · rw [exited, leavePath_frame]
    rfl
  · rintro l rfl
    refine (get_entries_leavePath_self (s := modSheet n _ s) hx).trans (congrArg some ?_)
    simp only [Entry.without, List.isEmpty_iff]
  · rw [exited, ports_leavePath_self (get_sheets_modSheet_self _ hr) (s := modSheet n (fun r => { r with tray := some a }) s)
      hx hp]
    rfl

/-- Settles O45, edge by edge. -/
theorem edgesMarkTheirPlace : Obligations.EdgesMarkTheirPlace := by
  unfold Obligations.EdgesMarkTheirPlace
  refine ⟨fun a b d hd => hd ▸ posDiff_eq a b, fun p e g k pos s u x y hs ha hx hy hu => ?_, fun e g x s c hn named hnamed => ?_,
    fun e g k pos x s u hx hu => ⟨fun hf => hu ▸ takeEdge_of_still hf, fun hk hstray => ?_, fun hk h1 h2 n r hp hg => ?_,
      fun hno hk => ?_, fun c r hc hr h1 h2 marked hmarked => ?_⟩⟩
  · subst hy
    exact edge_is_judged hs ha hx hu
  · simp only [hnamed]
    exact ⟨edgeOwner_pickTrail hn, edgeOwner_gaugeLead hn, edgeOwner_gaugeTrail hn, edgeOwner_exitLead hn,
      edgeOwner_exitTrail hn⟩
  · subst hk hu
    by_cases hf : x.feed = .idle ∨ x.feed = .clearing
    · exact takeEdge_of_still hf
    · obtain ⟨h1, h2⟩ := not_or.1 hf
      exact (takeEdge_pickLead h1 h2).trans (pickLeadTaken_of_stray hstray)
  · have hpick : u = takePick e n r x pos s := by
      rw [← hu, hk, takeEdge_pickLead h1 h2, pickLeadTaken_of_picking hp hg]
    refine ⟨?_, fun p _ => ⟨fun hport => ?_, fun hport => ?_⟩⟩
    · rw [hpick]
      exact takePick_frame e n r x pos s
    · rw [hpick, ports_takePick, ports_picked_self hx hport, hg]
    · rw [hpick, ports_takePick, ports_picked_of_ne hx hport]
  · by_cases hf : x.feed = .idle ∨ x.feed = .clearing
    · refine ⟨fun h => ?_, fun h => ?_⟩
      · rcases h with h | h <;> (rw [h] at hf; rcases hf with hf | hf <;> cases hf)
      · rw [h] at hf
        rcases hf with hf | hf <;> cases hf
    · obtain ⟨h1, h2⟩ := not_or.1 hf
      rw [← hu, takeEdge_other h1 h2 hk, matchEdge_of_none hno]
      exact ⟨edgeDropped_of_moving, edgeDropped_of_halted⟩
  · have hmark : ∀ f, marked f = markAt c.slot f x.path := hmarked
    simp only [hmark]
    refine ⟨fun hk => ?_, fun hk => ?_, fun a hk ha hlen => ?_, fun a hk ha h3 h4 => ?_, fun hk => ?_, fun a hk => ?_⟩
    · subst hk
      rw [← hu, takeEdge_of_owner h1 h2 (by nofun) hc]
      exact ⟨rfl, get_entries_modPlace (fun d => { d with pickTrail := true }) hx⟩
    · subst hk
      rw [← hu, takeEdge_of_owner h1 h2 (by nofun) hc]
      exact applyGaugeLead_spec hx hr
    · subst hk
      have hbad : ¬ lengthOk (posDiff a pos) = true := fun h => by
        have := lengthOk_iff.1 h
        omega
      rw [← hu, takeEdge_of_owner h1 h2 (by nofun) hc]
      dsimp only
      rw [ha, Option.getD_some, if_neg hbad]
      exact ⟨edgeDropped_of_moving, edgeDropped_of_halted⟩
    · subst hk
      have hgood : lengthOk (posDiff a pos) = true := lengthOk_iff.2 ⟨h3, h4⟩
      rw [← hu, takeEdge_of_owner h1 h2 (by nofun) hc]
      dsimp only
      rw [ha, Option.getD_some, if_pos hgood]
      exact applyGaugeTrail_eq hr hx
    · subst hk
      rw [← hu, takeEdge_of_owner h1 h2 (by nofun) hc]
      exact applyExitLead_eq hr hx
    · subst hk
      rw [← hu, takeEdge_of_owner h1 h2 (by nofun) hc]
      obtain ⟨hframe, hsheet, hentry, hqueues⟩ := exited_spec (a := a) hx hr
      refine ⟨exited e c.slot a s, hframe, hsheet, hentry, hqueues, ?_, fun hstate => ⟨?_, ?_⟩⟩
      · rintro hstate w rfl
        refine ⟨?_, ?_⟩
        · rintro rfl
          exact applyExitTrail_of_inPath hr hstate
        · rintro rfl
          exact applyExitTrail_of_inPath hr hstate
      · rintro rfl
        exact applyExitTrail_of_suspect hr hstate
      · rintro rfl
        exact applyExitTrail_of_suspect hr hstate

end Sys2Proof.Machine
end

section
/-! A path queue is emptied: each sheet gains evidence and leaves, in the order of the queue (R78, R84, R89, R98, R103). -/

set_option Elab.async false

namespace Sys2Proof.Machine

variable {s t u : State} {p q : Fin 16} {e h n m j : Nat} {x y : Entry} {b : Batch} {r : Sheet} {g : Tag}
  {f : Evidence → Evidence} {c : Place} {l : List Place}

/-! One sheet leaves -/

/-- The sheet at a place stands in IN_PATH in batch `h`. -/
def isNew (s : State) (h : Nat) (c : Place) : Bool :=
  match s.sheets.get c.slot with
  | some r => decide (r.batch = h) && decide (r.state = .inPath)
  | none => false

/-- How many of the sheets at some places become new suspects of batch `h`. -/
def newsAt (s : State) (h : Nat) (l : List Place) : Nat := (l.filter (isNew s h)).length

theorem pathNews_eq : pathNews s x h = newsAt s h x.path := rfl

theorem isNew_iff : isNew s h c = true ↔ ∃ r, s.sheets.get c.slot = some r ∧ r.batch = h ∧ r.state = .inPath := by
  unfold isNew
  cases s.sheets.get c.slot <;> simp

theorem isNew_congr (hs : t.sheets.get c.slot = s.sheets.get c.slot) : isNew t h c = isNew s h c := by
  rw [Bool.eq_iff_iff, isNew_iff, isNew_iff, hs]

theorem newsAt_cons : newsAt s h (c :: l) = (isNew s h c).toNat + newsAt s h l := by
  unfold newsAt
  rw [List.filter_cons]
  cases isNew s h c <;> simp [Nat.add_comm]

theorem newsAt_congr (hs : ∀ c ∈ l, t.sheets.get c.slot = s.sheets.get c.slot) : newsAt t h l = newsAt s h l := by
  unfold newsAt
  rw [List.filter_congr fun c hc => isNew_congr (hs c hc)]

/-- The state once the sheet in slot `n` has gained evidence and left the path queue of entry `e`. -/
def partSheet (f : Evidence → Evidence) (e : Nat) (s : State) (n : Nat) : State := leavePath e n (gainEvidence f n s)

theorem partSheet_frame (f : Evidence → Evidence) (e n : Nat) (s : State) : partSheet f e s n = { s with
    entries := s.entries.modify e (Entry.without n), batches := (partSheet f e s n).batches
    sheets := (partSheet f e s n).sheets, ports := (partSheet f e s n).ports
    attention := (partSheet f e s n).attention } := by
  rw [partSheet, leavePath_frame, gainEvidence_frame]

theorem partSheet_sheets (f : Evidence → Evidence) (e n : Nat) (s : State) :
    (partSheet f e s n).sheets = (gainEvidence f n s).sheets := leavePath_sheets ..

theorem partSheet_room (f : Evidence → Evidence) (e n : Nat) (s : State) : (partSheet f e s n).room = s.room := by
  rw [partSheet_frame]

theorem get_entries_partSheet_self (hx : s.entries.get e = some x) :
    (partSheet f e s n).entries.get e = some (x.without n) :=
  get_entries_leavePath_self (by rw [gainEvidence_entries]; exact hx)

theorem get_entries_partSheet_ne (hj : j ≠ e) : (partSheet f e s n).entries.get j = s.entries.get j := by
  rw [partSheet, get_entries_leavePath_ne hj, gainEvidence_entries]

theorem ports_partSheet_of_ne (hx : s.entries.get e = some x) (hp : x.port ≠ some p) :
    (partSheet f e s n).ports[p] = s.ports[p] := by
  rw [partSheet, ports_leavePath_of_ne (by rw [gainEvidence_entries]; exact hx) hp, gainEvidence_ports]

theorem ports_partSheet_of_none (hr : s.sheets.get n = none) : (partSheet f e s n).ports = s.ports := by
  rw [partSheet, gainEvidence_of_none hr, ports_leavePath_of_none hr]

theorem ports_partSheet_self (hr : s.sheets.get n = some r) (hx : s.entries.get e = some x) (hp : x.port = some p) :
    (partSheet f e s n).ports[p] = { s.ports[p] with queues :=
      { s.ports[p].queues with divert := s.ports[p].queues.divert.filter fun a => decide (a ≠ r.tag) } } := by
  have hx' : (gainEvidence f n s).entries.get e = some x := by rw [gainEvidence_entries]; exact hx
  rw [partSheet, ports_leavePath_self (get_sheets_gainEvidence_self hr) hx' hp, gainEvidence_ports]
  rfl

theorem get_batches_gainEvidence (hb : s.batches.get h = some b) : ∃ d, (gainEvidence f n s).batches.get h = some d ∧
    d = { b with
      openSuspects := b.openSuspects + (isNew s h { slot := n, pickLead := 0 }).toNat, pauses := d.pauses } := by
  cases hr : s.sheets.get n with
  | none =>
    have hnew : isNew s h { slot := n, pickLead := 0 } = false := by
      rw [← Bool.not_eq_true, isNew_iff]
      rintro ⟨r, hr', -⟩
      exact nomatch hr.symm.trans hr'
    refine ⟨b, by rw [gainEvidence_of_none hr, hb], ?_⟩
    rw [hnew]
    rfl
  | some r =>
    have hiff : isNew s h { slot := n, pickLead := 0 } = true ↔ r.batch = h ∧ r.state = .inPath := by
      rw [isNew_iff, hr]
      simp
    by_cases hs : r.state = .inPath
    · rw [gainEvidence_of_inPath hr hs]
      have hmod : (modSheet n (fun r => { r with evidence := f r.evidence }) s).sheets.get n =
          some { r with evidence := f r.evidence } := get_sheets_modSheet_self _ hr
      by_cases hh : r.batch = h
      · subst hh
        refine ⟨_, get_batches_newSuspect_self (r := { r with evidence := f r.evidence }) hmod hb, ?_⟩
        rw [hiff.2 ⟨rfl, hs⟩, Batch.judgePauses_frame]
        rfl
      · refine ⟨b, (get_batches_newSuspect_ne (r := { r with evidence := f r.evidence }) hmod (Ne.symm hh)).trans hb, ?_⟩
        rw [Bool.eq_false_iff.2 fun hn => hh (hiff.1 hn).1]
        rfl
    · refine ⟨b, by rw [gainEvidence_of_ne hr hs]; exact hb, ?_⟩
      rw [Bool.eq_false_iff.2 fun hn => hs (hiff.1 hn).2]
      rfl

theorem isNew_slot (c : Place) : isNew s h { slot := c.slot, pickLead := 0 } = isNew s h c := rfl

theorem get_batches_partSheet (hb : s.batches.get h = some b) : ∃ d, (partSheet f e s c.slot).batches.get h = some d ∧
    d = { b with openSuspects := b.openSuspects + (isNew s h c).toNat, pauses := d.pauses } := by
  rw [partSheet, leavePath_batches]
  exact get_batches_gainEvidence hb

theorem mem_attention_partSheet {w : Attn} (hw : w ∈ s.attention) : w ∈ (partSheet f e s n).attention := by
  rw [partSheet, leavePath_attention]
  exact mem_attention_gainEvidence hw

theorem attention_lt_gainEvidence (hn : ∀ r, s.sheets.get n = some r → r.batch < 256) (ha : ∀ a ∈ s.attention, a.2 < 256) :
    ∀ a ∈ (gainEvidence f n s).attention, a.2 < 256 := by
  cases hr : s.sheets.get n with
  | none => rwa [gainEvidence_of_none hr]
  | some r =>
    by_cases hs : r.state = .inPath
    · rw [gainEvidence_of_inPath hr hs]
      refine attention_lt_newSuspect (fun q hq => ?_) ha
      cases (get_sheets_modSheet_self (fun r => { r with evidence := f r.evidence }) hr).symm.trans hq
      exact hn r hr
    · rwa [gainEvidence_of_ne hr hs]

theorem suspectOpen_mem_gainEvidence (hn : isNew s h c = true) (hk : AttnKind.suspectOpen ∉ s.room.mask) (hh : h < 256)
    (ha : ∀ a ∈ s.attention, a.2 < 256) : (.suspectOpen, h) ∈ (gainEvidence f c.slot s).attention := by
  obtain ⟨r, hr, rfl, hs⟩ := isNew_iff.1 hn
  rw [gainEvidence_of_inPath hr hs]
  exact suspectOpen_mem_newSuspect (r := { r with evidence := f r.evidence })
    (get_sheets_modSheet_self (fun r => { r with evidence := f r.evidence }) hr) hk hh ha

/-- A record's batch is what it was, whatever evidence is gained. -/
theorem batch_lt_gainEvidence (hn : ∀ m r, s.sheets.get m = some r → r.batch < 256) :
    ∀ m r, (gainEvidence f n s).sheets.get m = some r → r.batch < 256 := by
  intro m r hm
  by_cases hmn : m = n
  · subst hmn
    cases hr : s.sheets.get m with
    | none => rw [gainEvidence_of_none hr] at hm; exact nomatch hr.symm.trans hm
    | some v =>
      cases (get_sheets_gainEvidence_self (f := f) hr).symm.trans hm
      exact hn m v hr
  · exact hn m r ((get_sheets_gainEvidence_ne hmn).symm.trans hm)

/-! The whole queue -/

/-- From `s` to `t` the sheets at the places `l` have gained evidence and left the path queue of entry `e`, `x`. -/
structure Parted (f : Evidence → Evidence) (e : Nat) (x : Entry) (l : List Place) (s t : State) : Prop where
  frame : t = { s with
    entries := t.entries, batches := t.batches, sheets := t.sheets, ports := t.ports, attention := t.attention }
  entry : ∃ y, t.entries.get e = some y ∧ y = { x with
    path := x.path.filter fun a => decide (∀ c ∈ l, a.slot ≠ c.slot), lastGaugeTrail := y.lastGaugeTrail }
  other : ∀ j, j ≠ e → t.entries.get j = s.entries.get j
  kept : ∀ n, (∀ c ∈ l, c.slot ≠ n) → t.sheets.get n = s.sheets.get n
  gained : (l.map (·.slot)).Nodup → ∀ c ∈ l, ∀ r, s.sheets.get c.slot = some r → t.sheets.get c.slot = some (r.gained f)
  batch : (l.map (·.slot)).Nodup → ∀ h b, s.batches.get h = some b → ∃ d, t.batches.get h = some d ∧
    d = { b with openSuspects := b.openSuspects + newsAt s h l, pauses := d.pauses }
  raised : ∀ a ∈ s.attention, a ∈ t.attention
  bounded : (∀ m r, s.sheets.get m = some r → r.batch < 256) → (∀ a ∈ s.attention, a.2 < 256) →
    ∀ a ∈ t.attention, a.2 < 256
  news : (l.map (·.slot)).Nodup → (∀ m r, s.sheets.get m = some r → r.batch < 256) → (∀ a ∈ s.attention, a.2 < 256) →
    AttnKind.suspectOpen ∉ s.room.mask → ∀ h, h < 256 → 0 < newsAt s h l → (.suspectOpen, h) ∈ t.attention
  port : ∀ p : Fin 16, t.ports[p] =
    { s.ports[p] with queues := { s.ports[p].queues with divert := t.ports[p].queues.divert } }
  away : ∀ p : Fin 16, x.port ≠ some p → t.ports[p] = s.ports[p]
  divert : ∀ p : Fin 16, x.port = some p → ∀ g, g ∈ t.ports[p].queues.divert ↔ g ∈ s.ports[p].queues.divert ∧
    ∀ c ∈ l, ∀ r, s.sheets.get c.slot = some r → r.tag ≠ g

/-- The evidence a sheet gains leaves every record its tag. -/
theorem tag_gainEvidence (m : Nat) : ((gainEvidence f n s).sheets.get m).map (·.tag) = (s.sheets.get m).map (·.tag) := by
  by_cases hm : m = n
  · subst hm
    cases hr : s.sheets.get m with
    | none => rw [gainEvidence_of_none hr, hr]
    | some r =>
      rw [get_sheets_gainEvidence_self hr]
      rfl
  · rw [get_sheets_gainEvidence_ne hm]

theorem tag_ne_congr {a b : Option Sheet} (h : a.map (·.tag) = b.map (·.tag)) :
    (∀ r, a = some r → r.tag ≠ g) ↔ ∀ r, b = some r → r.tag ≠ g := by
  have hiff : ∀ o : Option Sheet, (∀ r, o = some r → r.tag ≠ g) ↔ o.map (·.tag) ≠ some g := fun o => by
    cases o <;> simp
  rw [hiff, hiff, h]

theorem Parted.refl (s : State) (hx : s.entries.get e = some x) : Parted f e x [] s s where
  frame := rfl
  entry := ⟨x, hx, by simp⟩
  other _ _ := rfl
  kept _ _ := rfl
  gained _ := nofun
  batch _ h b hb := ⟨b, hb, rfl⟩
  raised _ := id
  bounded _ := id
  news _ _ _ _ h _ hn := absurd hn (Nat.lt_irrefl 0)
  port _ := rfl
  away _ _ := rfl
  divert _ _ g := by simp

theorem parted_foldl (f : Evidence → Evidence) (hx : s.entries.get e = some x) (l : List Place) :
    Parted f e x l s (l.foldl (fun t c => partSheet f e t c.slot) s) := by
  induction l generalizing s x with
  | nil => exact .refl s hx
  | cons c l ih =>
    obtain ⟨v, hv⟩ : ∃ v, partSheet f e s c.slot = v := ⟨_, rfl⟩
    have hvx : v.entries.get e = some (x.without c.slot) := hv ▸ get_entries_partSheet_self hx
    have hvsheets : v.sheets = (gainEvidence f c.slot s).sheets := hv ▸ partSheet_sheets ..
    have hvroom : v.room = s.room := hv ▸ partSheet_room ..
    have hvne : ∀ n, c.slot ≠ n → v.sheets.get n = s.sheets.get n := fun n hn => by
      rw [hvsheets, get_sheets_gainEvidence_ne (Ne.symm hn)]
    have hvport : ∀ p : Fin 16, v.ports[p] =
        { s.ports[p] with queues := { s.ports[p].queues with divert := v.ports[p].queues.divert } } := fun p => by
      rw [← hv]
      by_cases hp : x.port = some p
      · cases hr : s.sheets.get c.slot with
        | none => rw [ports_partSheet_of_none hr]
        | some r => rw [ports_partSheet_self hr hx hp]
      · rw [ports_partSheet_of_ne hx hp]
    have hvdivert : ∀ p : Fin 16, x.port = some p → ∀ g, g ∈ v.ports[p].queues.divert ↔ g ∈ s.ports[p].queues.divert ∧
        ∀ r, s.sheets.get c.slot = some r → r.tag ≠ g := fun p hp g => by
      rw [← hv]
      cases hr : s.sheets.get c.slot with
      | none => rw [ports_partSheet_of_none hr]; simp
      | some r =>
        rw [ports_partSheet_self hr hx hp, List.mem_filter, decide_eq_true_eq]
        simp [eq_comm]
    have hvraised : ∀ a ∈ s.attention, a ∈ v.attention := fun a ha => hv ▸ mem_attention_partSheet ha
    have hvbatch : (∀ m r, s.sheets.get m = some r → r.batch < 256) → ∀ m r, v.sheets.get m = some r → r.batch < 256 :=
      fun hb => by rw [hvsheets]; exact batch_lt_gainEvidence hb
    have hvlt : (∀ m r, s.sheets.get m = some r → r.batch < 256) → (∀ a ∈ s.attention, a.2 < 256) →
        ∀ a ∈ v.attention, a.2 < 256 := fun hb ha => by
      rw [← hv, partSheet, leavePath_attention]
      exact attention_lt_gainEvidence (hb c.slot) ha
    have hnotin : ((c :: l).map (·.slot)).Nodup → (l.map (·.slot)).Nodup ∧ ∀ a ∈ l, c.slot ≠ a.slot := fun hn => by
      rw [List.map_cons, List.nodup_cons] at hn
      exact ⟨hn.2, fun a ha h => hn.1 (h ▸ List.mem_map_of_mem (f := (·.slot)) ha)⟩
    have hcount : ((c :: l).map (·.slot)).Nodup → ∀ h, newsAt v h l = newsAt s h l := fun hn h =>
      newsAt_congr fun a ha => hvne a.slot ((hnotin hn).2 a ha)
    have hrest := ih hvx
    rw [List.foldl_cons, hv]
    obtain ⟨t, ht⟩ : ∃ t, l.foldl (fun t c => partSheet f e t c.slot) v = t := ⟨_, rfl⟩
    rw [ht] at hrest ⊢
    refine ⟨?_, ?_, fun j hj => ?_, fun n hn => ?_, fun hn a ha r hr => ?_, fun hn h b hb => ?_, fun a ha =>
      hrest.raised a (hvraised a ha), fun hb ha => hrest.bounded (hvbatch hb) (hvlt hb ha), fun hn hb ha hk h hh hpos => ?_,
      fun p => ?_, fun p hp => ?_, fun p hp g => ?_⟩
    · have hvframe : v = { s with
          entries := v.entries, batches := v.batches, sheets := v.sheets, ports := v.ports, attention := v.attention } := by
        rw [← hv, partSheet_frame]
      exact hrest.frame.trans (congrArg (fun w : State => { w with
        entries := t.entries, batches := t.batches, sheets := t.sheets, ports := t.ports, attention := t.attention }) hvframe)
    · obtain ⟨y, hy, hyx⟩ := hrest.entry
      refine ⟨y, hy, hyx.trans ?_⟩
      simp only [Entry.without, List.filter_filter, List.forall_mem_cons, ne_eq, Bool.decide_and, Bool.and_comm]
    · exact (hrest.other j hj).trans (hv ▸ get_entries_partSheet_ne hj)
    · exact (hrest.kept n fun a ha => hn a (List.mem_cons_of_mem c ha)).trans (hvne n (hn c List.mem_cons_self))
    · obtain ⟨hnl, hne⟩ := hnotin hn
      rcases List.mem_cons.1 ha with rfl | ha
      · rw [hrest.kept a.slot fun b hb => Ne.symm (hne b hb), hvsheets, get_sheets_gainEvidence_self hr]
      · exact hrest.gained hnl a ha r ((hvne a.slot (hne a ha)).trans hr)
    · obtain ⟨d, hd, hdb⟩ := get_batches_partSheet (f := f) (e := e) (c := c) hb
      rw [hv] at hd
      obtain ⟨a, ha, had⟩ := hrest.batch (hnotin hn).1 h d hd
      refine ⟨a, ha, had.trans ?_⟩
      rw [hcount hn h, newsAt_cons, hdb]
      simp only [Nat.add_assoc]
    · rw [newsAt_cons] at hpos
      cases hnew : isNew s h c with
      | true =>
        refine hrest.raised _ ?_
        rw [← hv, partSheet, leavePath_attention]
        exact suspectOpen_mem_gainEvidence hnew hk hh ha
      | false =>
        rw [hnew] at hpos
        refine hrest.news (hnotin hn).1 (hvbatch hb) (hvlt hb ha) (hvroom ▸ hk) h hh ?_
        rw [hcount hn h]
        simpa using hpos
    · exact (hrest.port p).trans (congrArg (fun y : Port =>
        { y with queues := { y.queues with divert := t.ports[p].queues.divert } }) (hvport p))
    · exact (hrest.away p hp).trans (hv ▸ ports_partSheet_of_ne hx hp)
    · rw [hrest.divert p hp g, hvdivert p hp g, List.forall_mem_cons, and_assoc]
      refine and_congr_right fun _ => and_congr_right fun _ => forall₂_congr fun a _ => ?_
      rw [hvsheets]
      exact tag_ne_congr (tag_gainEvidence a.slot)

theorem emptyPath_of_get (hx : s.entries.get e = some x) :
    emptyPath f e s = x.path.foldl (fun t c => partSheet f e t c.slot) s := by
  rw [emptyPath, hx]
  rfl

/-- What is left once the whole path queue has been emptied. -/
theorem parted_emptyPath (f : Evidence → Evidence) (hx : s.entries.get e = some x) :
    Parted f e x x.path s (emptyPath f e s) := emptyPath_of_get (f := f) hx ▸ parted_foldl f hx x.path

theorem Parted.emptied (h : Parted f e x x.path s t) :
    ∃ y, t.entries.get e = some y ∧ y = { x with path := [], lastGaugeTrail := y.lastGaugeTrail } := by
  obtain ⟨y, hy, hyx⟩ := h.entry
  refine ⟨y, hy, hyx.trans ?_⟩
  have hnil : x.path.filter (fun a => decide (∀ c ∈ x.path, a.slot ≠ c.slot)) = [] :=
    List.filter_eq_nil_iff.2 fun a ha hall => of_decide_eq_true hall a ha rfl
  rw [hnil]

/-- An emptied path leaves its sheets SUSPECT, and counts the new ones (R78, R89, R98, R103). -/
theorem Parted.pathEmptied (h : Parted f e x x.path s t) (hn : (x.path.map (·.slot)).Nodup)
    (hb : ∀ m r, s.sheets.get m = some r → r.batch < 256) (ha : ∀ a ∈ s.attention, a.2 < 256) : PathEmptied f x s t := by
  refine ⟨fun c hc r hr hstate => ⟨_, h.gained hn c hc r hr, ?_⟩, fun k b hk => ?_⟩
  · rcases hstate with hs | hs <;> simp [Sheet.gained, hs]
  · obtain ⟨d, hd, hdb⟩ := h.batch hn k b hk
    rw [← pathNews_eq] at hdb
    refine ⟨d, hd, ?_, fun hpos hmask => ?_⟩
    · rw [hdb]
    · obtain ⟨c, hc⟩ := List.exists_mem_of_length_pos hpos
      obtain ⟨r, hr, rfl, -⟩ := isNew_iff.1 (List.mem_filter.1 hc).2
      exact h.news hn hb ha hmask r.batch (hb c.slot r hr) hpos

end Sys2Proof.Machine
end

section
/-! What a STATUS leaves: the view, the call flag and the lamp, the cover and the end of clearing (R65, R76, R78, R98, R103). -/

set_option Elab.async false

namespace Sys2Proof.Machine

variable {s t u : State} {p q : Fin 16} {e h n m j : Nat} {x y z : Entry} {b : Batch} {r : Sheet} {g : Tag} {w : StatusWord}

/-! The cover and the end of clearing -/

theorem judgeCover_of_busy (ho : x.coverOpen = true) (hm : x.feed.moving = true)
    (hb : x.path ≠ [] ∨ (pickingOf s e).isSome = true) : judgeCover e x s = halt e .cover s := by
  have hno : ¬ (x.path.isEmpty && (pickingOf s e).isNone) = true := by
    rw [Bool.and_eq_true, List.isEmpty_iff, Option.isNone_iff_eq_none]
    rintro ⟨h1, h2⟩
    rcases hb with hb | hb
    · exact hb h1
    · rw [h2] at hb
      cases hb
  rw [judgeCover, if_pos ho]
  rcases moving_iff.1 hm with hf | hf <;> (rw [hf]; exact if_neg hno)

theorem judgeCover_of_free (hm : x.feed.moving = true) (hp : x.path = []) (hk : pickingOf s e = none) :
    judgeCover e x s = s := by
  have hyes : (x.path.isEmpty && (pickingOf s e).isNone) = true := by rw [hp, hk]; rfl
  cases ho : x.coverOpen with
  | false => exact judgeCover_of_closed ho
  | true =>
    rw [judgeCover, if_pos ho]
    rcases moving_iff.1 hm with hf | hf <;> (rw [hf]; exact if_pos hyes)

theorem judgeCover_of_halted (ho : x.coverOpen = true) (hf : x.feed = .halted) :
    judgeCover e x s = modEntry e (fun x => { x with feed := .clearing }) s := by
  rw [judgeCover, if_pos ho, hf]

theorem judgeCover_of_still (hf : x.feed = .idle ∨ x.feed = .clearing) : judgeCover e x s = s := by
  unfold judgeCover
  split
  · rcases hf with hf | hf <;> simp [hf]
  · rfl

theorem judgeClearing_of_open (h : x.coverOpen = true) : judgeClearing e x s = s :=
  if_neg fun ⟨_, hc, _⟩ => by rw [h] at hc; cases hc

theorem judgeClearing_of_busy (h : x.pathClear = false) : judgeClearing e x s = s :=
  if_neg fun ⟨_, _, hc⟩ => by rw [h] at hc; cases hc

theorem not_backs_of_still (h : x.feed.moving = false) : ¬ x.Backs := fun ⟨hm, _⟩ => by rw [h] at hm; cases hm

theorem not_jams_of_still (h : x.feed.moving = false) : ¬ x.Jams s := fun ⟨hm, _⟩ => by rw [h] at hm; cases hm

/-- Where the cover's judgment leaves the entry still, direction and jams halt nothing. -/
theorem judgedStatus_of_still (hc : judgeCover e x s = u) (hx : s.entries.get e = some x) (hy : u.entries.get e = some y)
    (hm : y.feed.moving = false) : judgedStatus e s = judgeClearing e y u := by
  rw [judgedStatus, onEntry_of_get hx, hc, onEntry_of_get hy, judgeReverse_of_not (not_backs_of_still hm), onEntry_of_get hy,
    judgeJam_of_not (not_jams_of_still hm), onEntry_of_get hy]

theorem judgedStatus_of_busy (hx : s.entries.get e = some x) (ho : x.coverOpen = true) (hm : x.feed.moving = true)
    (hb : x.path ≠ [] ∨ (pickingOf s e).isSome = true) : judgedStatus e s = halt e .cover s := by
  have hfeed : (x.halted .cover).feed = .clearing := by rw [halted_of_moving hm, ho]; rfl
  have hopen : (x.halted .cover).coverOpen = true := by rw [halted_of_moving hm]; exact ho
  rw [judgedStatus_of_still (judgeCover_of_busy ho hm hb) hx (get_entries_halt_self hx) (by rw [hfeed]; rfl),
    judgeClearing_of_open hopen]

theorem judgedStatus_of_free (hx : s.entries.get e = some x) (hm : x.feed.moving = true) (hp : x.path = [])
    (hk : pickingOf s e = none) : judgedStatus e s = s := by
  have hb : ¬ x.Backs := fun ⟨_, _, h⟩ => h hp
  have hj : ¬ x.Jams s := fun ⟨_, _, h⟩ => by
    obtain ⟨f, o, -, -, c, hc, -⟩ := pathJammed_iff.1 h
    rw [hp] at hc
    cases hc
  have hf : x.feed ≠ .clearing := fun h => by rw [h] at hm; cases hm
  rw [judgedStatus, onEntry_of_get hx, judgeCover_of_free hm hp hk, onEntry_of_get hx, judgeReverse_of_not hb,
    onEntry_of_get hx, judgeJam_of_not hj, onEntry_of_get hx, judgeClearing_of_ne hf]

theorem judgedStatus_of_halted_open (hx : s.entries.get e = some x) (ho : x.coverOpen = true) (hf : x.feed = .halted) :
    judgedStatus e s = modEntry e (fun x => { x with feed := .clearing }) s := by
  rw [judgedStatus_of_still (judgeCover_of_halted ho hf) hx (get_entries_modEntry_self _ hx) rfl]
  exact judgeClearing_of_open ho

theorem judgedStatus_of_halted_closed (hx : s.entries.get e = some x) (ho : x.coverOpen = false) (hf : x.feed = .halted) :
    judgedStatus e s = s := by
  rw [judgedStatus_of_still (judgeCover_of_closed ho) hx hx (by rw [hf]; rfl), judgeClearing_of_ne (by rw [hf]; nofun)]

theorem judgedStatus_of_idle (hx : s.entries.get e = some x) (hf : x.feed = .idle) : judgedStatus e s = s := by
  rw [judgedStatus_of_still (judgeCover_of_still (.inl hf)) hx hx (by rw [hf]; rfl), judgeClearing_of_ne (by rw [hf]; nofun)]

theorem judgedStatus_of_clearing (hx : s.entries.get e = some x) (hf : x.feed = .clearing) :
    judgedStatus e s = judgeClearing e x s :=
  judgedStatus_of_still (judgeCover_of_still (.inr hf)) hx hx (by rw [hf]; rfl)

theorem judgedStatus_of_cleared (hx : s.entries.get e = some x) (hf : x.feed = .clearing) (ho : x.coverOpen = false)
    (hc : x.pathClear = true) : judgedStatus e s = endClearing e s :=
  (judgedStatus_of_clearing hx hf).trans (if_pos ⟨hf, ho, hc⟩)

theorem judgedStatus_of_uncleared (hx : s.entries.get e = some x) (hf : x.feed = .clearing)
    (ho : x.coverOpen = true ∨ x.pathClear = false) : judgedStatus e s = s :=
  (judgedStatus_of_clearing hx hf).trans (ho.elim judgeClearing_of_open judgeClearing_of_busy)

/-- A moving station is halted by a STATUS, or left as it is. -/
theorem judgedStatus_of_moving (hx : s.entries.get e = some x) (hm : x.feed.moving = true) :
    judgedStatus e s = s ∨ ∃ k, judgedStatus e s = halt e k s := by
  cases ho : x.coverOpen with
  | true =>
    by_cases hb : x.path ≠ [] ∨ (pickingOf s e).isSome = true
    · exact .inr ⟨_, judgedStatus_of_busy hx ho hm hb⟩
    · rw [not_or, not_not, Bool.not_eq_true, Option.isSome_eq_false_iff, Option.isNone_iff_eq_none] at hb
      exact .inl (judgedStatus_of_free hx hm hb.1 hb.2)
  | false =>
    obtain ⟨hback, hjam, hquiet⟩ := judgedStatus_of_closed hx hm ho
    by_cases hb : x.Backs
    · exact .inr ⟨_, hback hb⟩
    · by_cases hj : x.Jams s
      · exact .inr ⟨_, hjam hj⟩
      · exact .inl (hquiet hb hj)

/-! What the judgments of a STATUS leave alone -/

/-- From `s` to `u` the entry `e`, `x`, has been judged after a STATUS. -/
structure StatusJudged (e : Nat) (x : Entry) (s u : State) : Prop where
  frame : u = { s with
    entries := u.entries, batches := u.batches, sheets := u.sheets, ports := u.ports, attention := u.attention }
  entry : ∃ z, u.entries.get e = some z ∧ z = { x with
    feed := z.feed, cause := z.cause, timer := z.timer, path := z.path, lastGaugeTrail := z.lastGaugeTrail }
  other : ∀ j, j ≠ e → u.entries.get j = s.entries.get j
  raised : ∀ a ∈ s.attention, a ∈ u.attention
  port : ∀ p : Fin 16, u.ports[p] = { s.ports[p] with queues := { s.ports[p].queues with
    halt := u.ports[p].queues.halt, resume := u.ports[p].queues.resume, divert := u.ports[p].queues.divert } }

theorem StatusJudged.refl (hx : s.entries.get e = some x) : StatusJudged e x s s :=
  ⟨rfl, ⟨x, hx, rfl⟩, fun _ _ => rfl, fun _ => id, fun _ => rfl⟩

theorem Entry.halted_frame (k : HaltCause) (x : Entry) : x.halted k =
    { x with feed := (x.halted k).feed, cause := (x.halted k).cause, timer := (x.halted k).timer } := by
  unfold Entry.halted
  (repeat' split) <;> rfl

theorem halt_frame (e : Nat) (k : HaltCause) (s : State) : halt e k s = { s with
    entries := s.entries.modify e (Entry.halted k), ports := (halt e k s).ports, attention := (halt e k s).attention } := by
  cases hx : s.entries.get e with
  | none => rw [halt, hx, Tab.modify_eq_self _ hx]
  | some x =>
    rw [halt_of_get hx]
    split_ifs
    · rw [raise_frame, onQueues_frame]
      rfl
    · rw [raise_frame]
      rfl
    · rw [onQueues_frame]
      rfl
    · rfl

theorem raised_halt {k : HaltCause} {a : Attn} (ha : a ∈ s.attention) : a ∈ (halt e k s).attention := by
  cases hx : s.entries.get e with
  | none => rw [halt, hx]; exact ha
  | some x =>
    rw [attention_halt hx]
    split
    · exact mem_attention_raise ha
    · exact ha

/-- A halt changes the HALT and RESUME of a port alone. -/
theorem ports_halt_frame (e : Nat) (k : HaltCause) (s : State) (p : Fin 16) : (halt e k s).ports[p] = { s.ports[p] with
    queues := { s.ports[p].queues with
      halt := (halt e k s).ports[p].queues.halt, resume := (halt e k s).ports[p].queues.resume } } := by
  cases hx : s.entries.get e with
  | none => rw [halt, hx]
  | some x =>
    by_cases hp : x.port = some p
    · cases hm : x.feed.moving with
      | true => rw [ports_halt_of_moving hx hm hp]
      | false => rw [ports_halt_of_still hx hm]
    · rw [ports_halt_of_ne hx hp]

theorem statusJudged_halt {k : HaltCause} (hx : s.entries.get e = some x) : StatusJudged e x s (halt e k s) where
  frame := by rw [halt_frame]
  entry := ⟨_, get_entries_halt_self hx, by rw [Entry.halted_frame]⟩
  other j hj := get_entries_halt_ne hj
  raised _ := raised_halt
  port p := by rw [ports_halt_frame]

theorem endClearing_entry (hx : s.entries.get e = some x) : (endClearing e s).entries.get e = some { x with
    path := [], lastGaugeTrail := none, cause := none, feed := if x.bound.isSome then .ready else .idle
    timer := x.timer.resume } := by
  obtain ⟨y, hy, hyx⟩ := (parted_emptyPath (fun v => { v with cleared := true }) hx).emptied
  rw [endClearing, get_entries_modEntry_self _ hy, hyx]

theorem statusJudged_endClearing (hx : s.entries.get e = some x) : StatusJudged e x s (endClearing e s) := by
  have hparted := parted_emptyPath (fun v => { v with cleared := true }) hx
  refine ⟨?_, ⟨_, endClearing_entry hx, rfl⟩, fun j hj => ?_, hparted.raised, fun p => ?_⟩
  · exact congrArg (fun w : State => { w with entries := (endClearing e s).entries }) hparted.frame
  · exact (get_entries_modEntry_ne _ hj).trans (hparted.other j hj)
  · have hports : (endClearing e s).ports = (emptyPath (fun v => { v with cleared := true }) e s).ports := rfl
    rw [hports, hparted.port p]

theorem statusJudged_judgedStatus (hx : s.entries.get e = some x) : StatusJudged e x s (judgedStatus e s) := by
  cases hm : x.feed.moving with
  | true =>
    rcases judgedStatus_of_moving hx hm with h | ⟨k, h⟩
    · rw [h]; exact .refl hx
    · rw [h]; exact statusJudged_halt hx
  | false =>
    cases hf : x.feed with
    | running => rw [hf] at hm; cases hm
    | ready => rw [hf] at hm; cases hm
    | idle => rw [judgedStatus_of_idle hx hf]; exact .refl hx
    | halted =>
      cases ho : x.coverOpen with
      | true =>
        rw [judgedStatus_of_halted_open hx ho hf]
        exact ⟨rfl, ⟨_, get_entries_modEntry_self _ hx, rfl⟩, fun j hj => get_entries_modEntry_ne _ hj, fun _ => id,
          fun _ => rfl⟩
      | false => rw [judgedStatus_of_halted_closed hx ho hf]; exact .refl hx
    | clearing =>
      by_cases hc : x.coverOpen = false ∧ x.pathClear = true
      · rw [judgedStatus_of_cleared hx hf hc.1 hc.2]; exact statusJudged_endClearing hx
      · rw [not_and_or, Bool.not_eq_false, Bool.not_eq_true] at hc
        rw [judgedStatus_of_uncleared hx hf hc]
        exact .refl hx

/-- The sheets and batches change only where clearing ends. -/
theorem judgedStatus_keeps_sheets (hx : s.entries.get e = some x)
    (hc : x.feed ≠ .clearing ∨ x.coverOpen = true ∨ x.pathClear = false) :
    (judgedStatus e s).sheets = s.sheets ∧ (judgedStatus e s).batches = s.batches := by
  cases hm : x.feed.moving with
  | true =>
    rcases judgedStatus_of_moving hx hm with h | ⟨k, h⟩
    · rw [h]; exact ⟨rfl, rfl⟩
    · rw [h, halt_frame]; exact ⟨rfl, rfl⟩
  | false =>
    cases hf : x.feed with
    | running => rw [hf] at hm; cases hm
    | ready => rw [hf] at hm; cases hm
    | idle => rw [judgedStatus_of_idle hx hf]; exact ⟨rfl, rfl⟩
    | halted =>
      cases ho : x.coverOpen with
      | true => rw [judgedStatus_of_halted_open hx ho hf]; exact ⟨rfl, rfl⟩
      | false => rw [judgedStatus_of_halted_closed hx ho hf]; exact ⟨rfl, rfl⟩
    | clearing => rw [judgedStatus_of_uncleared hx hf (hc.resolve_left (not_not.2 hf))]; exact ⟨rfl, rfl⟩

/-! The report on its port -/

theorem ports_takeCall (e : Nat) (p : Fin 16) (w : StatusWord) (s : State) (q : Fin 16) :
    (takeCall e p w.call s).ports[q] = { s.ports[q] with
      lastCall := if q = p then w.call else s.ports[q].lastCall
      queues := { s.ports[q].queues with identify := (takeCall e p w.call s).ports[q].queues.identify } } := by
  have hcall : ∀ q : Fin 16, (modPort p (fun x => { x with lastCall := w.call }) s).ports[q] =
      { s.ports[q] with lastCall := if q = p then w.call else s.ports[q].lastCall } := fun q => by
    rw [getElem_modPort]
    split
    · next h => subst h; rfl
    · rfl
  cases hn : newCall p w s with
  | false => rw [takeCall_of_old hn, hcall]
  | true =>
    cases hx : s.entries.get e with
    | none =>
      have htake : takeCall e p w.call s = raise .stationCall e (modPort p (fun x => { x with lastCall := w.call }) s) := by
        refine (if_pos hn).trans ?_
        rw [hx]
      rw [htake, raise_ports, hcall]
    | some x =>
      cases hi : x.identify with
      | false => rw [takeCall_of_new_dark hn hx hi, raise_ports, hcall]
      | true =>
        rw [takeCall_of_new_lit hn hx hi]
        obtain ⟨v, hv⟩ : ∃ v, raise .stationCall e (modPort p (fun x => { x with lastCall := w.call }) s) = v := ⟨_, rfl⟩
        have hports : v.ports = (modPort p (fun x => { x with lastCall := w.call }) s).ports := hv ▸ raise_ports ..
        have hget : (modEntry e (fun x => { x with identify := false }) v).entries.get e = some { x with identify := false } :=
          get_entries_modEntry_self _ (by rw [← hv, raise_entries]; exact hx)
        rw [hv]
        by_cases hp : x.port = some q
        · rw [ports_onQueues_self _ hget hp, modEntry_ports, hports, hcall]
          rfl
        · rw [ports_onQueues_of_ne _ hget hp, modEntry_ports, hports, hcall]

theorem reported_ports (q : Fin 16) : (reported p w e s).ports[q] = { s.ports[q] with
    lastCall := if q = p then w.call else s.ports[q].lastCall
    queues := { s.ports[q].queues with identify := (reported p w e s).ports[q].queues.identify } } :=
  ports_takeCall e p w s q

/-- A new call puts a burning lamp out, on the port of the station. -/
theorem identify_reported_of_new (hn : newCall p w s = true) (hx : s.entries.get e = some x) (hi : x.identify = true)
    (hp : x.port = some q) : (reported p w e s).ports[q].queues.identify = some false := by
  obtain ⟨v, hv⟩ : ∃ v, raise .stationCall e (modPort p (fun x => { x with lastCall := w.call }) s) = v := ⟨_, rfl⟩
  have hget : (modEntry e (fun x => { x with identify := false }) v).entries.get e = some { x with identify := false } :=
    get_entries_modEntry_self _ (by rw [← hv, raise_entries]; exact hx)
  rw [reported, fillView, modEntry_ports, takeCall_of_new_lit hn hx hi, hv, ports_onQueues_self _ hget hp]
  rfl

theorem identify_reported_of_old (hn : newCall p w s = false ∨ x.identify = false) (hx : s.entries.get e = some x) :
    (reported p w e s).ports[q].queues.identify = s.ports[q].queues.identify := by
  have hcall : (modPort p (fun x => { x with lastCall := w.call }) s).ports[q].queues.identify =
      s.ports[q].queues.identify := by
    rw [getElem_modPort]
    split
    · next h => subst h; rfl
    · rfl
  rw [reported, fillView, modEntry_ports]
  cases hc : newCall p w s with
  | false => rw [takeCall_of_old hc, hcall]
  | true => rw [takeCall_of_new_dark hc hx (hn.resolve_left (by rw [hc]; nofun)), raise_ports, hcall]

theorem counted_port_of_up (hl : s.ports[p].link = .up) (q : Fin 16) :
    (counted p s).ports[q].queues = s.ports[q].queues ∧ (counted p s).ports[q].lastCall = s.ports[q].lastCall := by
  rw [counted_of_up hl, getElem_modPort]
  split
  · next h => subst h; exact ⟨rfl, rfl⟩
  · exact ⟨rfl, rfl⟩

end Sys2Proof.Machine
end

section
/-! STATUS: the whole of what it leaves (R65, R76, R78, R98, R103). -/

set_option Elab.async false

namespace Sys2Proof.Machine

variable {s t u : State} {p q : Fin 16} {e h n m j : Nat} {x y z : Entry} {b : Batch} {r : Sheet} {g : Tag} {w : StatusWord}

/-- What a STATUS leaves once it is judged, of the state `v` it was judged in; where clearing ends, of the sheets too. -/
theorem endClearing_spec {v : State} (hv : v.entries.get e = some y) (hn : (y.path.map (·.slot)).Nodup)
    (hb : ∀ m r, v.sheets.get m = some r → r.batch < 256) (ha : ∀ a ∈ v.attention, a.2 < 256) :
    PathEmptied (fun a => { a with cleared := true }) y v (endClearing e v) ∧
    (∀ h b c, v.batches.get h = some b → (endClearing e v).batches.get h = some c → c.picking = b.picking) ∧
    (∀ n r, v.sheets.get n = some r → ∃ q, (endClearing e v).sheets.get n = some q ∧ q.deliveries = r.deliveries ∧
      ((∀ c ∈ y.path, c.slot ≠ n) → q = r)) ∧
    ∀ q : Fin 16, y.port = some q → ∀ g, g ∈ (endClearing e v).ports[q].queues.divert ↔
      g ∈ v.ports[q].queues.divert ∧ ∀ c ∈ y.path, ∀ r, v.sheets.get c.slot = some r → r.tag ≠ g := by
  have hparted := parted_emptyPath (fun a => { a with cleared := true }) hv
  refine ⟨hparted.pathEmptied hn hb ha, fun h b c hh hc => ?_, fun n r hr => ?_, hparted.divert⟩
  · obtain ⟨d, hd, hdb⟩ := hparted.batch hn h b hh
    cases hd.symm.trans hc
    rw [hdb]
  · by_cases hin : ∀ c ∈ y.path, c.slot ≠ n
    · exact ⟨r, (hparted.kept n hin).trans hr, rfl, fun _ => rfl⟩
    · simp only [not_forall, not_not] at hin
      obtain ⟨c, hc, rfl⟩ := hin
      exact ⟨_, hparted.gained hn c hc r hr, rfl, fun hno => absurd rfl (hno c hc)⟩

/-- The path is emptied of the sheets and batches that stand in the records, whatever the rest of the state. -/
theorem PathEmptied.of_records {f : Evidence → Evidence} {v : State} (h : PathEmptied f x v u) (hs : v.sheets = s.sheets)
    (hb : v.batches = s.batches) (hr : v.room = s.room) : PathEmptied f x s u := by
  obtain ⟨hsheets, hbatches⟩ := h
  have hnews : ∀ k, pathNews v x k = pathNews s x k := fun k => by unfold pathNews; rw [hs]
  refine ⟨fun c hc r hr => hsheets c hc r (hs ▸ hr), fun k b hk => ?_⟩
  obtain ⟨d, hd, hdb, hmem⟩ := hbatches k b (hb ▸ hk)
  rw [hnews] at hdb hmem
  exact ⟨d, hd, hdb, fun hpos hmask => hmem hpos (hr ▸ hmask)⟩

/-- Settles O43, clause by clause: the report, its judgments and the judgments that end the event. -/
theorem statusFillsTheView : Obligations.StatusFillsTheView := by
  unfold Obligations.StatusFillsTheView
  intro p e w s x hs ha hx he hattn
  obtain ⟨v, hv⟩ : ∃ v, reported p w e (counted p s) = v := ⟨_, rfl⟩
  obtain ⟨y0, hy0⟩ : ∃ y, x.reported w (newCall p w (counted p s)) (pickingOf (counted p s) e).isSome = y := ⟨_, rfl⟩
  obtain ⟨u, hu⟩ : ∃ u, judgedStatus e v = u := ⟨_, rfl⟩
  obtain ⟨t, ht⟩ : ∃ t, settle (stationBatches s e) [e] s.lastAlloc u = t := ⟨_, rfl⟩
  have hqueues : ∀ q : Fin 16, (counted p s).ports[q].queues = s.ports[q].queues := fun q => (counted_port_of_up ha.1 q).1
  have hnew : newCall p w (counted p s) = (w.call && !s.ports[p].lastCall) := by
    rw [newCall, (counted_port_of_up ha.1 p).2]
  have hleaves : Leaves (.status p w) s t := by
    have hleave : Leaves (.status p w) s (settle (stationBatches s e) [e] s.lastAlloc (judgedStatus e v)) :=
      hv ▸ leaves_status hs ha
    rwa [hu, ht] at hleave
  have hvx : v.entries.get e = some y0 := hv ▸ hy0 ▸ get_entries_reported_self (s := counted p s) hx
  have hvframe : v = { s with entries := v.entries, ports := v.ports, attention := v.attention } := by
    rw [← hv, reported_frame]
    rfl
  have hvsheets : v.sheets = s.sheets := by rw [hvframe]
  have hvbatches : v.batches = s.batches := by rw [hvframe]
  have hvroom : v.room = s.room := by rw [hvframe]
  have hvports : ∀ q : Fin 16, v.ports[q] = { (counted p s).ports[q] with
      lastCall := if q = p then w.call else (counted p s).ports[q].lastCall
      queues := { (counted p s).ports[q].queues with identify := v.ports[q].queues.identify } } := fun q => by
    rw [← hv]
    exact reported_ports q
  have hvpick : pickingOf v e = pickingOf s e := pickingOf_congr hvsheets
  have hvlt : ∀ a ∈ v.attention, a.2 < 256 := hv ▸ attention_lt_reported (s := counted p s) hx (he.trans (by decide)) hattn
  have hjudged : StatusJudged e y0 v u := hu ▸ statusJudged_judgedStatus hvx
  obtain ⟨z, hz, hzy⟩ := hjudged.entry
  have hsettled : Settles True u t := ht ▸ settles_settle _ _ _ u
  obtain ⟨y, hy, hyz⟩ := hsettled.entry e z hz
  have htport : ∀ q : Fin 16, t.ports[q].lastCall = v.ports[q].lastCall ∧
      t.ports[q].queues.identify = v.ports[q].queues.identify := fun q => by
    rw [hsettled.port, hjudged.port]
    exact ⟨rfl, rfl⟩
  have hframe : u = { s with
      entries := u.entries, batches := u.batches, sheets := u.sheets, ports := u.ports, attention := u.attention } :=
    hjudged.frame.trans (congrArg (fun a : State => { a with
      entries := u.entries, batches := u.batches, sheets := u.sheets, ports := u.ports, attention := u.attention }) hvframe)
  have hother : ∀ j, j ≠ e → u.entries.get j = s.entries.get j := fun j hj => by
    rw [hjudged.other j hj, ← hv, get_entries_reported_ne hj]
    rfl
  have hyview : y0.view = some w.view := by rw [← hy0]; rfl
  have hyfeed : y0.feed = x.feed := by rw [← hy0]; rfl
  have hypath : y0.path = x.path := by rw [← hy0]; rfl
  have hycause : y0.cause = x.cause := by rw [← hy0]; rfl
  have hcover : y0.coverOpen = w.view.coverOpen := by rw [Entry.coverOpen, hyview]
  have hclear : y0.pathClear = w.view.pathClear := by rw [Entry.pathClear, hyview]
  have hyident : y.identify = (x.identify && !(w.call && !s.ports[p].lastCall)) := by
    rw [hyz.frame, hzy, ← hy0, hnew]
    rfl
  have hztray : z.traySeenEmpty = (x.traySeenEmpty || ((pickingOf s e).isSome && w.view.trayEmpty)) := by
    rw [hzy, ← hy0]
    rfl
  have hsame : x.feed ≠ .clearing ∨ w.view.coverOpen = true ∨ w.view.pathClear = false →
      u.sheets = s.sheets ∧ u.batches = s.batches := fun h => by
    have hkeep := judgedStatus_keeps_sheets hvx (by rwa [hyfeed, hcover, hclear])
    rw [hu, hvsheets, hvbatches] at hkeep
    exact hkeep
  have hkeptFeed : z.feed = .clearing → y.feed = z.feed ∧ y.cause = z.cause := fun hf => by
    rcases hyz.feed with ⟨h1, h2, -⟩ | ⟨-, h1, -⟩
    · exact ⟨h1, h2⟩
    · exact absurd hf h1
  refine ⟨t, y, hleaves, ⟨u, ht.symm, hframe, hother, hsame⟩, hy, ?_, ?_, ?_, fun h1 h2 => ⟨?_, fun hk => ?_⟩, fun h => ?_,
    fun h1 h2 hi hp => ?_, fun h => ?_, fun hp => ?_, fun hp htray => ?_, fun ho hf => ?_, fun ho hf hpath hp => ?_,
    fun ho hf hbusy => ?_, fun ho hc hf => ?_⟩
  · rw [hyz.frame, hzy]
    exact hyview
  · rw [hyz.frame, hzy, ← hy0]
    rfl
  · rw [(htport p).1, hvports p]
    exact if_pos rfl
  · rw [hyident, h1, h2]
    exact Bool.and_false _
  · refine hsettled.raised _ (hjudged.raised _ ?_)
    rw [← hv, attention_reported (s := counted p s) hx, hnew, h1, h2]
    exact mem_attention_raise_self (s := counted p s) hk (he.trans (by decide)) hattn
  · rw [hyident]
    rcases h with h | h <;> (rw [h]; simp)
  · rw [(htport p).2, ← hv]
    exact identify_reported_of_new (s := counted p s) (by rw [hnew, h1, h2]; rfl) hx hi hp
  · have hquiet : newCall p w (counted p s) = false ∨ x.identify = false := by
      rw [hnew]
      rcases h with h | h | h
      · exact .inl (by rw [h]; rfl)
      · exact .inl (by rw [h]; exact Bool.and_false _)
      · exact .inr h
    rw [(htport p).2, ← hv, identify_reported_of_old (s := counted p s) hquiet hx, hqueues]
  · rw [hp, Bool.true_and] at hztray
    rcases hyz.tray with h | ⟨hfree, hrun, -⟩
    · rw [h, hztray]
    · have hclearing : x.feed ≠ .clearing := fun hf => by
        by_cases hc : w.view.coverOpen = true ∨ w.view.pathClear = false
        · have hstay := judgedStatus_of_uncleared hvx (hyfeed.trans hf) (by rwa [hcover, hclear])
          rw [hu] at hstay
          rw [hstay, hvx] at hz
          cases hz
          rw [hyfeed, hf] at hrun
          cases hrun
        · rw [not_or, Bool.not_eq_true, Bool.not_eq_false] at hc
          have hend := judgedStatus_of_cleared hvx (hyfeed.trans hf) (hcover.trans hc.1) (hclear.trans hc.2)
          rw [hu] at hend
          rw [hend, endClearing_entry hvx] at hz
          cases hz
          dsimp only at hrun
          split at hrun <;> cases hrun
      rw [pickingOf_congr (hsame (.inl hclearing)).1] at hfree
      rw [hfree] at hp
      cases hp
  · rw [hp] at hztray
    rcases hyz.tray with h | ⟨-, -, h⟩
    · rw [h, hztray] at htray
      simpa using htray
    · rw [h] at htray
      cases htray
  · have hopen := judgedStatus_of_halted_open hvx (hcover.trans ho) (hyfeed.trans hf)
    rw [hu] at hopen
    rw [hopen, get_entries_modEntry_self _ hvx] at hz
    cases hz
    obtain ⟨h1, h2⟩ := hkeptFeed rfl
    exact ⟨h1, h2.trans hycause⟩
  · have hfree := judgedStatus_of_free hvx (moving_iff.2 (hyfeed.symm ▸ hf)) (hypath.trans hpath) (hvpick.trans hp)
    rw [hu] at hfree
    refine ⟨u, ht.symm, ?_⟩
    rw [hfree, hvx, hyident, ← hy0]
    have hnone : pickingOf (counted p s) e = none := hp
    simp only [Entry.reported, hnone, hnew, Option.isSome_none, Bool.false_and, Bool.or_false]
  · have hhalt := judgedStatus_of_busy hvx (hcover.trans ho) (moving_iff.2 (hyfeed.symm ▸ hf))
      (by rw [hypath, hvpick]; exact hbusy)
    rw [hu] at hhalt
    rw [hhalt, get_entries_halt_self hvx, halted_of_moving (moving_iff.2 (hyfeed.symm ▸ hf)), hcover, ho] at hz
    cases hz
    obtain ⟨h1, h2⟩ := hkeptFeed rfl
    exact ⟨h1, h2⟩
  · have hend := judgedStatus_of_cleared hvx (hyfeed.trans hf) (hcover.trans ho) (hclear.trans hc)
    rw [hu] at hend
    rw [hend, endClearing_entry hvx] at hz
    have hzfeed : z.feed ≠ .clearing := by
      cases hz
      dsimp only
      split <;> nofun
    have hzcause : z.cause = none := by cases hz; rfl
    have hzpath : z.path = [] := by cases hz; rfl
    refine ⟨by rw [hyz.frame]; exact hzpath, ?_, ?_, fun hbatch hnodup => ?_⟩
    · rcases hyz.feed with ⟨h, -⟩ | ⟨-, -, h, -⟩ <;> rw [h]
      · exact hzfeed
      · nofun
    · rcases hyz.feed with ⟨-, h, -⟩ | ⟨-, -, -, h, -⟩ <;> rw [h]
      exact hzcause
    · have hlt : ∀ m r, v.sheets.get m = some r → r.batch < 256 := fun m r hr =>
        (hbatch (m, r) (Tab.mem_of_get (hvsheets ▸ hr))).trans (by decide)
      obtain ⟨hemptied, hpicking, hsheets, hdivert⟩ := endClearing_spec hvx (hypath.symm ▸ hnodup) hlt hvlt
      rw [← hend] at hemptied hpicking hsheets hdivert
      rw [hvsheets, hypath] at hsheets
      rw [hvbatches] at hpicking
      have hpath0 : PathEmptied (fun v => { v with cleared := true }) x v u := by
        obtain ⟨h1, h2⟩ := hemptied
        rw [hypath] at h1
        have hnews : ∀ k, pathNews v y0 k = pathNews v x k := fun k => by unfold pathNews; rw [hypath]
        simp only [hnews] at h2
        exact ⟨h1, h2⟩
      have hyport : y0.port = x.port := by rw [← hy0]; rfl
      rw [hyport, hypath, hvsheets] at hdivert
      refine ⟨u, ht.symm, hframe, hpath0.of_records hvsheets hvbatches hvroom, hpicking, hsheets, ⟨z, ?_, ?_⟩,
        fun q hq g => ?_⟩
      · rw [hend, endClearing_entry hvx]
        exact hz
      · cases hz
        rw [← hy0]
        rfl
      · refine (hdivert q hq g).trans ?_
        rw [hvports q, hqueues]

end Sys2Proof.Machine
end

section
/-! What the upload arbiter keeps of the sheets, the ports, the uploads and the lanes (R133–R135). -/

set_option Elab.async false

namespace Sys2Proof.Machine

variable {s t u : State} {p q : Fin 16} {l : Fin 4} {e n m j : Nat} {r : Sheet} {c : Eligible}

/-! Sheets that differ in their delivery entries -/

theorem mem_of_bareSheets (h : bareSheets t = bareSheets s) {a : Nat × Sheet} (ha : a ∈ t.sheets) :
    ∃ r, (a.1, r) ∈ s.sheets ∧ a.2 = { r with deliveries := a.2.deliveries } := by
  have hmem : (a.1, { a.2 with deliveries := none }) ∈ bareSheets s := h ▸ List.mem_map.2 ⟨a, ha, rfl⟩
  obtain ⟨b, hb, heq⟩ := List.mem_map.1 hmem
  obtain ⟨hkey, hrec⟩ := Prod.mk.inj heq
  refine ⟨b.2, hkey ▸ hb, ?_⟩
  calc a.2 = { ({ a.2 with deliveries := none } : Sheet) with deliveries := a.2.deliveries } := rfl
    _ = { b.2 with deliveries := a.2.deliveries } := by rw [← hrec]

theorem get_sheets_of_bareSheets (h : bareSheets t = bareSheets s) (hr : s.sheets.get n = some r) :
    ∃ q, t.sheets.get n = some q ∧ q = { r with deliveries := q.deliveries } := by
  have hget := congrArg (fun u => Tab.get u n) h
  simp only [get_bareSheets, hr, Option.map_some] at hget
  obtain ⟨q, hq, -⟩ := Option.map_eq_some_iff.1 hget
  obtain ⟨v, hv, hqv⟩ := get_of_bareSheets h hq
  cases hr.symm.trans hv
  exact ⟨q, hq, hqv⟩

theorem get_sheets_none_of_bareSheets (h : bareSheets t = bareSheets s) (hr : s.sheets.get n = none) :
    t.sheets.get n = none := by
  have hget := congrArg (fun u => Tab.get u n) h
  simp only [get_bareSheets, hr, Option.map_none] at hget
  exact Option.map_eq_none_iff.1 hget

theorem pickingOf_none_of_bareSheets (h : bareSheets t = bareSheets s) (hp : pickingOf s e = none) :
    pickingOf t e = none := by
  rw [pickingOf_eq_none] at hp ⊢
  intro a ha he hs
  obtain ⟨r, hr, har⟩ := mem_of_bareSheets h ha
  rw [har] at he hs
  exact hp (a.1, r) hr he hs

/-! What the arbiter changes -/

/-- From `s` to `t` uploads of eligible sides have been started. -/
structure Offered (s t : State) : Prop where
  bare : bareSheets t = bareSheets s
  port : ∀ p : Fin 16, t.ports[p] =
    { s.ports[p] with queues := { s.ports[p].queues with upload := t.ports[p].queues.upload } }
  upload : ∀ j u, t.uploads.get j = some u → s.uploads.get j = some u ∨ ∃ r, (u.slot, r) ∈ s.sheets ∧ r.state = .routing
  window : ∀ (l : Fin 4), ∀ w ∈ t.lanes[l].window, w ∈ s.lanes[l].window ∨
    ∃ r, (w.slot, r) ∈ s.sheets ∧ r.state = .routing
  ctrl : ∀ (l : Fin 4), ∀ k ∈ s.lanes[l].ctrl, k ∈ t.lanes[l].ctrl
  state : ∀ l : Fin 4, t.lanes[l].state = s.lanes[l].state

theorem Offered.refl (s : State) : Offered s s :=
  ⟨rfl, fun _ => rfl, fun _ _ => .inl, fun _ _ => .inl, fun _ _ => id, fun _ => rfl⟩

theorem Offered.trans (h : Offered s t) (k : Offered t u) : Offered s u where
  bare := k.bare.trans h.bare
  port p := (k.port p).trans (congrArg (fun y : Port =>
    { y with queues := { y.queues with upload := u.ports[p].queues.upload } }) (h.port p))
  upload j v hv := by
    rcases k.upload j v hv with hv | ⟨q, hq, hs⟩
    · exact h.upload j v hv
    · obtain ⟨r, hr, hqr⟩ := mem_of_bareSheets h.bare hq
      dsimp only at hqr
      rw [hqr] at hs
      exact .inr ⟨r, hr, hs⟩
  window l w hw := by
    rcases k.window l w hw with hw | ⟨q, hq, hs⟩
    · exact h.window l w hw
    · obtain ⟨r, hr, hqr⟩ := mem_of_bareSheets h.bare hq
      dsimp only at hqr
      rw [hqr] at hs
      exact .inr ⟨r, hr, hs⟩
  ctrl l a ha := k.ctrl l a (h.ctrl l a ha)
  state l := (k.state l).trans (h.state l)

/-- The lanes once the entries of a routed record are offered. -/
structure LanesOffered (slot : Nat) (s t : State) : Prop where
  bare : bareSheets t = bareSheets s
  window : ∀ (l : Fin 4), ∀ w ∈ t.lanes[l].window, w ∈ s.lanes[l].window ∨ w.slot = slot
  ctrl : ∀ (l : Fin 4), ∀ k ∈ s.lanes[l].ctrl, k ∈ t.lanes[l].ctrl
  state : ∀ l : Fin 4, t.lanes[l].state = s.lanes[l].state

theorem lanesOffered_offerEntry (slot : Nat) (g : Serial) (b : Bool) (s : State) (d : Delivery) :
    LanesOffered slot s (offerEntry slot g b s d) := by
  have hlane : ∀ l, (offerEntry slot g b s d).lanes[l] =
      if l = d.lane then s.lanes[d.lane].offer slot g d.side d.role b else s.lanes[l] := fun l =>
    getElem_modLane d.lane l (Lane.offer slot g d.side d.role b) s
  refine ⟨bareSheets_modSheet .., fun l w hw => ?_, fun l k hk => ?_, fun l => ?_⟩
  · rw [hlane] at hw
    split at hw
    · next hl =>
      subst hl
      rw [offer_eq] at hw
      rcases List.mem_append.1 hw with hw | hw
      · exact .inl hw
      · exact .inr (by rw [List.mem_singleton.1 hw])
    · exact .inl hw
  · rw [hlane]
    split
    · next hl =>
      subst hl
      rw [offer_eq]
      dsimp only
      split
      · exact hk
      · exact List.mem_append_left _ hk
    · exact hk
  · rw [hlane]
    split
    · next hl =>
      subst hl
      rw [offer_eq]
    · rfl

theorem lanesOffered_foldl (slot : Nat) (g : Serial) (b : Bool) (ds : List Delivery) (s : State) :
    LanesOffered slot s (ds.foldl (offerEntry slot g b) s) := by
  induction ds generalizing s with
  | nil => exact ⟨rfl, fun _ _ => .inl, fun _ _ => id, fun _ => rfl⟩
  | cons d ds ih =>
    have hfirst := lanesOffered_offerEntry slot g b s d
    have hrest := ih (offerEntry slot g b s d)
    refine ⟨hrest.bare.trans hfirst.bare, fun l w hw => ?_, fun l k hk => hrest.ctrl l k (hfirst.ctrl l k hk),
      fun l => (hrest.state l).trans (hfirst.state l)⟩
    exact (hrest.window l w hw).elim (hfirst.window l w) .inr

/-- The queues of one port, where only a waiting UPLOAD is changed. -/
theorem ports_addUpload (e : Nat) (g : Tag) (d : Side) (s : State) (p : Fin 16) :
    (onQueues e (Queues.addUpload g d) s).ports[p] = { s.ports[p] with queues := { s.ports[p].queues with
      upload := (onQueues e (Queues.addUpload g d) s).ports[p].queues.upload } } := by
  cases hx : s.entries.get e with
  | none => rw [onQueues_of_none _ hx]
  | some x =>
    by_cases hp : x.port = some p
    · rw [ports_onQueues_self _ hx hp]
      rfl
    · rw [ports_onQueues_of_ne _ hx hp]

theorem offered_startUpload (hc : stationChoice s e = some c) : Offered s (startUpload e c s) := by
  obtain ⟨helig, -, hnone⟩ := mem_of_stationChoice hc
  obtain ⟨htakes, hrec, -, -⟩ := mem_eligibleSides helig
  obtain ⟨hstate, -⟩ := sideEligible_iff.1 htakes
  obtain ⟨v, hv, hstart⟩ := startUpload_eq e c s
  have hoffered : LanesOffered c.slot s v := hv ▸ lanesOffered_foldl ..
  have hvframe : v = { s with sheets := v.sheets, lanes := v.lanes } := hv ▸ foldl_offerEntry_frame _ _ _ _ s
  have hports : v.ports = s.ports := by rw [hvframe]
  have huploads : v.uploads = s.uploads := by rw [hvframe]
  rw [hstart]
  refine ⟨?_, fun p => ?_, fun j u hu => ?_, fun l w hw => ?_, fun l k hk => ?_, fun l => ?_⟩
  · rw [bareSheets, onQueues_sheets]
    exact hoffered.bare
  · obtain ⟨z, hz⟩ : ∃ z, ({ v with uploads := v.uploads.put e c.upload, lastUpload := e } : State) = z := ⟨_, rfl⟩
    have hzports : z.ports = s.ports := by rw [← hz, ← hports]
    have hport := ports_addUpload e c.record.tag c.side z p
    rw [hzports] at hport
    rw [hz]
    exact hport
  · rw [onQueues_uploads] at hu
    dsimp only at hu
    rw [Tab.get_put, huploads] at hu
    split at hu
    · cases hu
      exact .inr ⟨c.record, hrec, hstate⟩
    · exact .inl hu
  · rw [onQueues_lanes] at hw
    rcases hoffered.window l w hw with hw | hw
    · exact .inl hw
    · exact .inr ⟨c.record, hw ▸ hrec, hstate⟩
  · rw [onQueues_lanes]
    exact hoffered.ctrl l k hk
  · rw [onQueues_lanes]
    exact hoffered.state l

theorem offered_arbitrateN (k : Nat) (s : State) : Offered s (arbitrateN k s) := by
  induction k generalizing s with
  | zero => exact .refl s
  | succ k ih =>
    cases hc : firstChoice s (roundOrder Config.entryCount s.lastUpload) with
    | none => rw [arbitrateN_of_none k hc]; exact .refl s
    | some a =>
      obtain ⟨j, c⟩ := a
      rw [arbitrateN_of_some k hc]
      exact (offered_startUpload (firstChoice_spec hc).2).trans (ih _)

theorem offered_arbitrate (s : State) : Offered s (arbitrate s) := offered_arbitrateN _ s

@[simp] theorem entries_arbitrate (s : State) : (arbitrate s).entries = s.entries := by
  rw [(arbitrated_arbitrate s).frame]

@[simp] theorem batches_arbitrate (s : State) : (arbitrate s).batches = s.batches := by
  rw [(arbitrated_arbitrate s).frame]

end Sys2Proof.Machine
end

section
/-! A PICK LEAD of the PICKING record (R10, R34, R66, R82, R84, R114). -/

set_option Elab.async false

namespace Sys2Proof.Machine

variable {s t u : State} {p q : Fin 16} {e n m j : Nat} {x y z : Entry} {r : Sheet} {b : Batch} {pos : Pos}

theorem pathHasEnd_iff : pathHasEnd s x = true ↔
    ∃ d ∈ x.path, ∃ z a, s.sheets.get d.slot = some z ∧ z.cls = some (.batchEnd, a) := by
  rw [pathHasEnd, List.any_eq_true]
  refine exists_congr fun d => and_congr_right fun _ => ?_
  cases hz : s.sheets.get d.slot with
  | none => simp
  | some z =>
    cases hc : z.cls with
    | none => simp [hc]
    | some k => simp [hc, Prod.ext_iff]

/-- The record as the pick leaves it (R34). -/
def Sheet.picked (b : Batch) (r : Sheet) : Sheet := { r with state := .inPath, seq := some b.nextSeq }

theorem get_sheets_picked (hr : s.sheets.get n = some r) (hb : s.batches.get r.batch = some b) :
    (picked e n r pos s).sheets.get n = some (r.picked b) := by
  rw [picked_frame]
  dsimp only
  rw [Tab.get_modify_self, hr, Option.map_some, hb]
  rfl

theorem get_entries_takePick_self (hx : s.entries.get e = some x) :
    (takePick e n r y pos s).entries.get e = some (x.pick n pos) := by
  have hpicked : (picked e n r pos s).entries.get e = some (x.pick n pos) := by
    rw [picked_frame]
    dsimp only
    rw [Tab.get_modify_self, hx, Option.map_some]
  rw [takePick_eq]
  split
  · rw [gainEvidence_entries, hpicked]
  · exact hpicked

theorem get_entries_takePick_ne (hj : j ≠ e) : (takePick e n r y pos s).entries.get j = s.entries.get j := by
  have hpicked : (picked e n r pos s).entries.get j = s.entries.get j := by
    rw [picked_frame]
    exact Tab.get_modify_other _ _ hj
  rw [takePick_eq]
  split
  · rw [gainEvidence_entries, hpicked]
  · exact hpicked

theorem get_sheets_takePick (hr : s.sheets.get n = some r) (hb : s.batches.get r.batch = some b) :
    (takePick e n r x pos s).sheets.get n = some (if pathHasEnd s x then
      (r.picked b).gained fun v => { v with beyondEnd := true } else r.picked b) := by
  rw [takePick_eq]
  split
  · exact get_sheets_gainEvidence_self (get_sheets_picked hr hb)
  · exact get_sheets_picked hr hb

theorem get_batches_takePick (hr : s.sheets.get n = some r) (hb : s.batches.get r.batch = some b) :
    ∃ d, (takePick e n r x pos s).batches.get r.batch = some d ∧ d = { b.pick with
      openSuspects := b.openSuspects + (pathHasEnd s x).toNat, pauses := d.pauses } := by
  have hbatch : (picked e n r pos s).batches.get r.batch = some b.pick := by
    rw [picked_frame]
    dsimp only
    rw [Tab.get_modify_self, hb, Option.map_some]
  rw [takePick_eq]
  cases hend : pathHasEnd s x with
  | false => exact ⟨b.pick, hbatch, rfl⟩
  | true =>
    obtain ⟨d, hd, hdb⟩ := get_batches_gainEvidence (f := fun v => { v with beyondEnd := true }) (n := n) hbatch
    have hnew : isNew (picked e n r pos s) r.batch { slot := n, pickLead := 0 } = true :=
      isNew_iff.2 ⟨_, get_sheets_picked hr hb, rfl, rfl⟩
    rw [hnew] at hdb
    exact ⟨d, hd, hdb⟩

theorem judgeJam_cases (e : Nat) (x : Entry) (s : State) : judgeJam e x s = s ∨ judgeJam e x s = halt e .jam s := by
  by_cases h : x.Jams s
  · exact .inr (judgeJam_of_jams h)
  · exact .inl (judgeJam_of_not h)

/-- What the judgment of jams leaves alone. -/
theorem judgeJam_keeps (hx : s.entries.get e = some x) : (judgeJam e y s).sheets = s.sheets ∧
    (judgeJam e y s).batches = s.batches ∧ (∀ j, j ≠ e → (judgeJam e y s).entries.get j = s.entries.get j) ∧
    (∀ p : Fin 16, (judgeJam e y s).ports[p].queues.grant = s.ports[p].queues.grant) ∧
    ∃ z, (judgeJam e y s).entries.get e = some z ∧ z = { x with feed := z.feed, cause := z.cause, timer := z.timer } ∧
      (x.timer = .stopped → z.timer = .stopped) := by
  rcases judgeJam_cases e y s with h | h <;> rw [h]
  · exact ⟨rfl, rfl, fun _ _ => rfl, fun _ => rfl, x, hx, rfl, id⟩
  · refine ⟨by rw [halt_frame], by rw [halt_frame], fun j hj => get_entries_halt_ne hj, fun p => by rw [ports_halt_frame], _,
      get_entries_halt_self hx, by rw [Entry.halted_frame], fun hstop => ?_⟩
    unfold Entry.halted
    (repeat' split) <;> simp [hstop, Timer.suspend]

/-- Settles O44: the pick, the jam judgment, the arbiter and the judgments that end the event, in their turn. -/
theorem pickLeadNumbersTheSheet : Obligations.PickLeadNumbersTheSheet := by
  unfold Obligations.PickLeadNumbersTheSheet
  intro p e n pos s x r b hs ht ha hx hfeed hp hb
  obtain ⟨v, hv⟩ : ∃ v, modEntry e (fun x => { x with lastPos := some pos }) (counted p s) = v := ⟨_, rfl⟩
  have hvframe : v = { s with entries := s.entries.modify e (fun x => { x with lastPos := some pos }), ports := v.ports } := by
    rw [← hv]
    rfl
  have hvsheets : v.sheets = s.sheets := by rw [hvframe]
  have hvx : v.entries.get e = some { x with lastPos := some pos } := hv ▸ get_entries_modEntry_self (s := counted p s) _ hx
  have hr : s.sheets.get n = some r := get_of_pickingOf ht hp
  have hvr : v.sheets.get n = some r := hvsheets ▸ hr
  have hvb : v.batches.get r.batch = some b := by rw [hvframe]; exact hb
  have hvp : pickingOf v e = some (n, r) := (pickingOf_congr hvsheets).trans hp
  obtain ⟨-, hstation, -⟩ := mem_of_pickingOf hp
  have hend : pathHasEnd v { x with lastPos := some pos } = true ↔
      ∃ d ∈ x.path, ∃ z a, s.sheets.get d.slot = some z ∧ z.cls = some (.batchEnd, a) := by
    rw [pathHasEnd_iff, hvsheets]
  obtain ⟨u, hu⟩ : ∃ u, takeEdge e r.tag .pickLead pos { x with lastPos := some pos } v = u := ⟨_, rfl⟩
  have hpick : u = takePick e n r { x with lastPos := some pos } pos v := by
    have h1 : x.feed ≠ .idle := fun h => by simp [h] at hfeed
    have h2 : x.feed ≠ .clearing := fun h => by simp [h] at hfeed
    rw [← hu, takeEdge_pickLead (x := { x with lastPos := some pos }) h1 h2, pickLeadTaken_of_picking hvp rfl]
  have hux : u.entries.get e = some (({ x with lastPos := some pos } : Entry).pick n pos) :=
    hpick ▸ get_entries_takePick_self hvx
  have hur := hpick ▸ get_sheets_takePick (e := e) (x := { x with lastPos := some pos }) (pos := pos) hvr hvb
  obtain ⟨d, hd, hdb⟩ := hpick ▸ get_batches_takePick (e := e) (x := { x with lastPos := some pos }) (pos := pos) hvr hvb
  obtain ⟨z0, hz0, hleaves⟩ := edge_is_judged (g := r.tag) (k := .pickLead) (pos := pos) hs ha hx (hv ▸ hu.symm)
  cases hux.symm.trans hz0
  obtain ⟨w, hw⟩ : ∃ w, judgeJam e (({ x with lastPos := some pos } : Entry).pick n pos) u = w := ⟨_, rfl⟩
  obtain ⟨hwsheets, hwbatches, hwother, hwgrant, z, hz, hzx, hztimer⟩ :=
    hw ▸ judgeJam_keeps (y := ({ x with lastPos := some pos } : Entry).pick n pos) hux
  rw [hw] at hleaves
  have hoffered := offered_arbitrate w
  obtain ⟨q1, hq1, hqr⟩ := get_sheets_of_bareSheets hoffered.bare (hwsheets ▸ hur)
  obtain ⟨t, htset⟩ : ∃ t, settle (stationBatches s e ++ pickingBatches s e) [e] s.lastAlloc (arbitrate w) = t := ⟨_, rfl⟩
  have hsettled : Settles True (arbitrate w) t := htset ▸ settles_settle _ _ _ _
  rw [htset] at hleaves
  obtain ⟨y, hy, hyz⟩ := hsettled.entry e z (by rw [entries_arbitrate]; exact hz)
  obtain ⟨c, hc, hcd⟩ := hsettled.batch r.batch d (by rw [batches_arbitrate, hwbatches]; exact hd)
  have hqfields : q1.seq = some b.nextSeq ∧ q1.batch = r.batch ∧ q1.station = e ∧ q1.tag = r.tag := by
    rw [hqr]
    split <;> exact ⟨rfl, rfl, hstation, rfl⟩
  obtain ⟨hqseq, hqbatch, hqstation, hqtag⟩ := hqfields
  have hcsus : c.openSuspects = d.openSuspects := by rw [hcd.frame]
  refine ⟨t, q1, y, c, hleaves, hsettled.sheet n q1 hq1, hqseq, hqbatch, hqstation, hqtag, fun hyes => ?_, fun hno => ?_, hy, ?_,
    ?_, ?_, ?_, hc, ?_, ?_, ?_, ?_, ?_, ?_, fun a hport hunique => ?_⟩
  · have hyes := hend.2 hyes
    refine ⟨?_, ?_, ?_⟩
    · rw [hqr, if_pos hyes]
      rfl
    · rw [hqr, if_pos hyes]
      rfl
    · rw [hcsus, hdb, hyes]
      rfl
  · have hno : ¬ pathHasEnd v { x with lastPos := some pos } = true := fun h => by
      obtain ⟨d, hdmem, z, k, hzd, hk⟩ := hend.1 h
      exact hno d hdmem z k hzd hk
    refine ⟨?_, ?_, ?_⟩
    · rw [hqr, if_neg hno]
      rfl
    · rw [hqr, if_neg hno]
      rfl
    · rw [hcsus, hdb, Bool.eq_false_iff.2 hno]
      rfl
  · rw [hyz.frame, hzx]
    rfl
  · rw [hyz.frame, hzx]
    rfl
  · rw [hyz.frame]
    exact hztimer rfl
  · rw [hyz.frame, hzx]
    rfl
  · rw [hcd.frame, hdb]
    rfl
  · rw [hcd.frame, hdb]
    rfl
  · rw [hcd.frame, hdb]
    rfl
  · rw [hcd.frame, hdb]
    rfl
  · rw [hcd.frame, hdb]
    rfl
  · rw [hcd.frame, hdb]
    rfl
  · have hcounted : (arbitrate w).ports[a].queues.grant = w.ports[a].queues.grant := by rw [hoffered.port]
    rcases hsettled.grant a with hsame | ⟨i, xi, g, hxi, hpi, hg, hfree⟩
    · rw [hsame, hcounted, hwgrant, hpick, ports_takePick, ports_picked_self hvx hport]
      dsimp only
      split
      · nofun
      · assumption
    · have hie : i = e := by
        by_contra hne
        rw [entries_arbitrate, hwother i hne, hpick, get_entries_takePick_ne hne, ← hv, get_entries_modEntry_ne _ hne] at hxi
        exact hne (hunique i xi hxi hpi)
      rw [hg]
      intro hgr
      cases hgr
      exact hfree (n, q1) (Tab.mem_of_get hq1) (hie ▸ hqstation) hqtag

end Sys2Proof.Machine
end

section
/-! The pick timer expires (R35, R82, R83). -/

set_option Elab.async false

namespace Sys2Proof.Machine

variable {s t u : State} {p q : Fin 16} {e h n m j : Nat} {x y z : Entry} {r : Sheet} {b d : Batch}

theorem isRunning_iff {a : Timer} : a.isRunning = true ↔ ∃ n, a = .running n := by
  cases a <;> simp [Timer.isRunning]

/-! The PICKING record is freed (R35, R66) -/

/-- The state once the PICKING record `r` in slot `n` has been freed. -/
theorem freePicking_of_get (hr : s.sheets.get n = some r) : freePicking n s =
    onQueues r.station (Queues.dropGrant r.tag) (modEntry r.station (fun x => { x with liveCount := x.liveCount - 1 })
      (modBatch r.batch (fun b => { b with picking := b.picking - 1 }) { s with sheets := s.sheets.del n })) := by
  rw [freePicking, hr]

theorem freePicking_frame (hr : s.sheets.get n = some r) : freePicking n s = { s with
    sheets := s.sheets.del n, batches := s.batches.modify r.batch fun b => { b with picking := b.picking - 1 }
    entries := s.entries.modify r.station fun x => { x with liveCount := x.liveCount - 1 }
    ports := (freePicking n s).ports } := by
  rw [freePicking_of_get hr, onQueues_frame]
  rfl

theorem ports_freePicking_self (hr : s.sheets.get n = some r) (hx : s.entries.get r.station = some x) (hp : x.port = some p) :
    (freePicking n s).ports[p] = { s.ports[p] with queues := { s.ports[p].queues with
      grant := if s.ports[p].queues.grant = some r.tag then none else s.ports[p].queues.grant } } := by
  have hentry := get_entries_modEntry_self (e := r.station) (fun x => { x with liveCount := x.liveCount - 1 })
    (s := modBatch r.batch (fun b => { b with picking := b.picking - 1 }) { s with sheets := s.sheets.del n }) hx
  rw [freePicking_of_get hr, ports_onQueues_self _ hentry hp, Queues.dropGrant_eq]
  rfl

theorem ports_freePicking_of_ne (hr : s.sheets.get n = some r) (hx : s.entries.get r.station = some x)
    (hp : x.port ≠ some p) : (freePicking n s).ports[p] = s.ports[p] := by
  have hentry := get_entries_modEntry_self (e := r.station) (fun x => { x with liveCount := x.liveCount - 1 })
    (s := modBatch r.batch (fun b => { b with picking := b.picking - 1 }) { s with sheets := s.sheets.del n }) hx
  rw [freePicking_of_get hr, ports_onQueues_of_ne _ hentry hp]
  rfl

theorem get_entries_freePicking_self (hr : s.sheets.get n = some r) (hx : s.entries.get r.station = some x) :
    (freePicking n s).entries.get r.station = some { x with liveCount := x.liveCount - 1 } := by
  rw [freePicking_frame hr]
  dsimp only
  rw [Tab.get_modify_self, hx, Option.map_some]

theorem get_entries_freePicking_ne (hr : s.sheets.get n = some r) (hj : j ≠ r.station) :
    (freePicking n s).entries.get j = s.entries.get j := by
  rw [freePicking_frame hr]
  dsimp only
  exact Tab.get_modify_other _ _ hj

theorem get_batches_freePicking_self (hr : s.sheets.get n = some r) (hb : s.batches.get r.batch = some b) :
    (freePicking n s).batches.get r.batch = some { b with picking := b.picking - 1 } := by
  rw [freePicking_frame hr]
  dsimp only
  rw [Tab.get_modify_self, hb, Option.map_some]

theorem get_batches_freePicking_ne (hr : s.sheets.get n = some r) (hj : j ≠ r.batch) :
    (freePicking n s).batches.get j = s.batches.get j := by
  rw [freePicking_frame hr]
  dsimp only
  exact Tab.get_modify_other _ _ hj

/-! The misfeed (R83) -/

/-- The state with the misfeed counted, before a halt. -/
def misfed (e h : Nat) (s : State) : State :=
  modEntry e (fun x => { x with misfeeds := x.misfeeds + 1 }) (modBatch h (fun b => { b with misfeeds := bump b.misfeeds }) s)

theorem countMisfeed_cases (e h : Nat) (x : Entry) (s : State) :
    countMisfeed e x h s = misfed e h s ∨ countMisfeed e x h s = halt e .misfeed (misfed e h s) := by
  unfold countMisfeed
  dsimp only
  split
  · split
    · exact .inr rfl
    · exact .inl rfl
  · exact .inl rfl

theorem countMisfeed_of_bound (hh : x.bound = some j) (hd : s.batches.get j = some d) : countMisfeed e x h s =
    if d.retries < x.misfeeds + 1 then halt e .misfeed (misfed e h s) else misfed e h s := by
  unfold countMisfeed
  dsimp only
  rw [hh, Option.bind_some, hd]
  rfl

theorem get_entries_misfed (hx : s.entries.get e = some x) :
    (misfed e h s).entries.get e = some { x with misfeeds := x.misfeeds + 1 } :=
  get_entries_modEntry_self (fun x => { x with misfeeds := x.misfeeds + 1 })
    (s := modBatch h (fun b => { b with misfeeds := bump b.misfeeds }) s) hx

theorem get_batches_misfed (hb : s.batches.get h = some b) :
    (misfed e h s).batches.get h = some { b with misfeeds := bump b.misfeeds } :=
  get_batches_modBatch_self (fun b => { b with misfeeds := bump b.misfeeds }) hb

/-! The expiry -/

/-- The state once the PICKING record is freed and the timer stopped, before the misfeed is counted. -/
def unpicked (e n : Nat) (s : State) : State :=
  modEntry e (fun x => { x with timer := .stopped, traySeenEmpty := false }) (freePicking n s)

/-- The state an expiry leaves before the slot is offered. -/
def pickEnded (e : Nat) (x : Entry) (n h : Nat) (s : State) : State :=
  if x.traySeenEmpty then unpicked e n s else countMisfeed e x h (unpicked e n s)

theorem pickExpiry_of_picking (hr : x.timer.isRunning = true) (hp : pickingOf s e = some (n, r)) : pickExpiry e x s =
    settle [r.batch] [e] s.lastAlloc (offerSlot (pickEnded e x n r.batch s)) := by
  rw [pickExpiry, hr, hp]
  rfl

theorem pickExpiry_of_still (hr : x.timer.isRunning = false) : pickExpiry e x s = s := by
  rw [pickExpiry, hr]

theorem leaves_pickTimerExpiry (e : Fin 24) (hs : Runs s) :
    Leaves (.pickTimerExpiry e) s (onEntry e (pickExpiry e) s) := leaves_of_runs hs

theorem get_entries_unpicked (hr : s.sheets.get n = some r) (hx : s.entries.get r.station = some x) :
    (unpicked r.station n s).entries.get r.station =
      some { x with liveCount := x.liveCount - 1, timer := .stopped, traySeenEmpty := false } :=
  get_entries_modEntry_self (fun x => { x with timer := .stopped, traySeenEmpty := false })
    (get_entries_freePicking_self hr hx)

theorem timer_halted {k : HaltCause} (ht : x.timer = .stopped) : (x.halted k).timer = .stopped := by
  unfold Entry.halted
  (repeat' split) <;> simp [ht, Timer.suspend]

/-- What the freed record and a counted misfeed leave of its station, its batch and its port. -/
structure PickEnded (n : Nat) (r : Sheet) (x : Entry) (b : Batch) (s u : State) : Prop where
  sheets : u.sheets = s.sheets.del n
  room : u.room = s.room
  entry : ∃ y, u.entries.get r.station = some y ∧ y = { x with
    liveCount := x.liveCount - 1, timer := .stopped, traySeenEmpty := false
    misfeeds := if x.traySeenEmpty then x.misfeeds else x.misfeeds + 1, feed := y.feed, cause := y.cause }
  batch : u.batches.get r.batch = some { b with
    picking := b.picking - 1, misfeeds := if x.traySeenEmpty then b.misfeeds else bump b.misfeeds }
  grant : ∀ p : Fin 16, x.port = some p → u.ports[p].queues.grant =
    if s.ports[p].queues.grant = some r.tag then none else s.ports[p].queues.grant

theorem pickEnded_unpicked (hr : s.sheets.get n = some r) (hx : s.entries.get r.station = some x)
    (hb : s.batches.get r.batch = some b) (ht : x.traySeenEmpty = true) :
    PickEnded n r x b s (unpicked r.station n s) where
  sheets := by rw [unpicked, modEntry_sheets, freePicking_frame hr]
  room := by rw [unpicked, modEntry_room, freePicking_frame hr]
  entry := ⟨_, get_entries_unpicked hr hx, by simp [ht]⟩
  batch := by rw [unpicked, modEntry_batches, get_batches_freePicking_self hr hb, ht]; rfl
  grant p hp := by rw [unpicked, modEntry_ports, ports_freePicking_self hr hx hp]

theorem pickEnded_misfed (hr : s.sheets.get n = some r) (hx : s.entries.get r.station = some x)
    (hb : s.batches.get r.batch = some b) (ht : x.traySeenEmpty = false) :
    PickEnded n r x b s (misfed r.station r.batch (unpicked r.station n s)) where
  sheets := by
    show (freePicking n s).sheets = _
    rw [freePicking_frame hr]
  room := by
    show (freePicking n s).room = _
    rw [freePicking_frame hr]
  entry := ⟨_, get_entries_misfed (get_entries_unpicked hr hx), by simp [ht]⟩
  batch := by
    rw [get_batches_misfed (b := { b with picking := b.picking - 1 })
      (by rw [unpicked, modEntry_batches, get_batches_freePicking_self hr hb]), ht]
    rfl
  grant p hp := by
    show (freePicking n s).ports[p].queues.grant = _
    rw [ports_freePicking_self hr hx hp]

theorem PickEnded.halt (h : PickEnded n r x b s u) : PickEnded n r x b s (halt r.station .misfeed u) := by
  obtain ⟨y, hy, hyx⟩ := h.entry
  refine ⟨by rw [halt_frame]; exact h.sheets, by rw [halt_frame]; exact h.room, ⟨_, get_entries_halt_self hy, ?_⟩,
    by rw [halt_frame]; exact h.batch, fun p hp => by rw [ports_halt_frame]; exact h.grant p hp⟩
  have htimer : (y.halted .misfeed).timer = .stopped := timer_halted (by rw [hyx])
  have hframe : ∀ f c, ({ y with feed := f, cause := c, timer := .stopped } : Entry) = { x with
      liveCount := x.liveCount - 1, timer := .stopped, traySeenEmpty := false
      misfeeds := if x.traySeenEmpty then x.misfeeds else x.misfeeds + 1, feed := f, cause := c } := by
    intro f c
    rw [hyx]
  calc y.halted .misfeed = { y with feed := (y.halted .misfeed).feed, cause := (y.halted .misfeed).cause, timer := .stopped } := by
        conv_lhs => rw [Entry.halted_frame, htimer]
    _ = _ := hframe _ _

theorem pickEnded_spec (hr : s.sheets.get n = some r) (hx : s.entries.get r.station = some x)
    (hb : s.batches.get r.batch = some b) : PickEnded n r x b s (pickEnded r.station x n r.batch s) := by
  unfold pickEnded
  split
  · next ht => exact pickEnded_unpicked hr hx hb ht
  · next ht =>
    have hmis := pickEnded_misfed hr hx hb (Bool.eq_false_iff.2 ht)
    rcases countMisfeed_cases r.station r.batch x (unpicked r.station n s) with h | h <;> rw [h]
    · exact hmis
    · exact hmis.halt

/-- Settles O50, from the freed record, the misfeed and the judgments that end the event. -/
theorem pickTimeoutCountsAMisfeed : Obligations.PickTimeoutCountsAMisfeed := by
  unfold Obligations.PickTimeoutCountsAMisfeed
  refine ⟨fun a => isRunning_iff, fun e s hs => ⟨fun hstill => ?_, fun x n r b ht hx hrun hp hb => ?_⟩⟩
  · have hsame : onEntry e (pickExpiry e) s = s := by
      unfold onEntry
      split
      · next x hx => exact pickExpiry_of_still (hstill x hx)
      · rfl
    have hleaves := leaves_pickTimerExpiry e hs
    rwa [hsame] at hleaves
  · obtain ⟨-, hst, -⟩ := mem_of_pickingOf hp
    have hr : s.sheets.get n = some r := get_of_pickingOf ht hp
    have hxr : s.entries.get r.station = some x := hst.symm ▸ hx
    obtain ⟨u, hu⟩ : ∃ u, pickEnded e x n r.batch s = u := ⟨_, rfl⟩
    have hended : PickEnded n r x b s u := by
      rw [← hu, ← hst]
      exact pickEnded_spec hr hxr hb
    have hleaves : Leaves (.pickTimerExpiry e) s (settle [r.batch] [e.val] s.lastAlloc (offerSlot u)) := by
      have hleaves := leaves_pickTimerExpiry e hs
      rwa [onEntry_of_get hx, pickExpiry_of_picking hrun hp, hu] at hleaves
    obtain ⟨y, hy, hyx⟩ := hended.entry
    rw [hst] at hy
    refine ⟨?_, ?_⟩
    · have hsettled : Settles True u (settle [r.batch] [e.val] s.lastAlloc (offerSlot u)) :=
        (settles_offerSlot u).trans (settles_settle _ _ _ _)
      obtain ⟨z, hz, hzy⟩ := hsettled.entry e y hy
      obtain ⟨c, hc, hcb⟩ := hsettled.batch _ _ hended.batch
      have hmis : z.misfeeds = y.misfeeds := by rw [hzy.frame]
      have hcmis : c.misfeeds = if x.traySeenEmpty then b.misfeeds else bump b.misfeeds := by rw [hcb.frame]
      refine ⟨_, z, c, hleaves, hz, hc, by rw [hzy.frame, hyx], by rw [hcb.frame], by rw [hcb.frame], by rw [hcb.frame],
        fun hseen => ⟨?_, ?_⟩, fun hseen => ⟨?_, ?_⟩⟩
      · rw [hmis, hyx, hseen]
        rfl
      · rw [hcmis, hseen]
        rfl
      · rw [hmis, hyx, hseen]
        rfl
      · rw [hcmis, hseen]
        rfl
    · refine ⟨u, y, _, hleaves, hended.sheets, hy, hended.batch, by rw [hyx], by rw [hyx], by rw [hyx], rfl, hended.grant,
        fun hseen => ?_, fun h d hh hd hseen => ?_⟩
      · have hunpicked : u = unpicked e n s := by rw [← hu, pickEnded, if_pos hseen]
        have hget := get_entries_unpicked hr hxr
        rw [hst, ← hunpicked] at hget
        cases hy.symm.trans hget
        exact ⟨rfl, rfl⟩
      · obtain ⟨v, hv⟩ : ∃ v, misfed e r.batch (unpicked e n s) = v := ⟨_, rfl⟩
        obtain ⟨a, ha⟩ : ∃ a, ({ x with
          liveCount := x.liveCount - 1, timer := .stopped, traySeenEmpty := false, misfeeds := x.misfeeds + 1 } : Entry) = a :=
          ⟨_, rfl⟩
        have hva : v.entries.get e = some a := by
          have hget := get_entries_misfed (h := r.batch) (get_entries_unpicked hr hxr)
          rw [hst, hv] at hget
          rw [hget, ← ha]
        have hafeed : a.feed = x.feed := by rw [← ha]
        have hacause : a.cause = x.cause := by rw [← ha]
        have hacover : a.coverOpen = x.coverOpen := by rw [← ha]; rfl
        have haport : a.port = x.port := by rw [← ha]
        have hvfields : v.attention = s.attention ∧ v.room = s.room := by
          rw [← hv]
          show (freePicking n s).attention = _ ∧ (freePicking n s).room = _
          rw [freePicking_frame hr]
          exact ⟨rfl, rfl⟩
        have hretries : ∃ f, (unpicked e n s).batches.get h = some f ∧ f.retries = d.retries := by
          rw [unpicked, modEntry_batches]
          by_cases hb' : h = r.batch
          · rw [hb'] at hd ⊢
            exact ⟨_, get_batches_freePicking_self hr hd, rfl⟩
          · exact ⟨d, (get_batches_freePicking_ne hr hb').trans hd, rfl⟩
        obtain ⟨f, hf, hfd⟩ := hretries
        have hcount : u = if d.retries < x.misfeeds + 1 then halt e .misfeed v else v := by
          rw [← hu, pickEnded, if_neg (Bool.eq_false_iff.1 hseen), countMisfeed_of_bound hh hf, hfd, hv]
        refine ⟨fun hover hmoving => ?_, fun hwithin => ?_⟩
        · rw [if_pos hover] at hcount
          have hm : a.feed.moving = true := moving_iff.2 (hafeed.symm ▸ hmoving)
          rw [hcount, get_entries_halt_self hva, halted_of_moving hm, hacover] at hy
          obtain rfl := Option.some.inj hy
          refine ⟨rfl, rfl, fun p hpt => ?_, fun hattn hk => ?_⟩
          · rw [hcount, ports_halt_of_moving hva hm (haport.trans hpt)]
          · rw [hcount]
            refine mem_attention_halt hva (haltRaises_of_moving hm) (hvfields.2.symm ▸ hk) (e.isLt.trans (by decide)) ?_
            rwa [hvfields.1]
        · rw [if_neg (by omega)] at hcount
          rw [hcount, hva] at hy
          obtain rfl := Option.some.inj hy
          exact ⟨hafeed, hacause⟩

end Sys2Proof.Machine
end

section
/-! The loss of a station, step by step: its upload, its path, its PICKING record and the releases it owes (R42, R54, R89, R140,
R142). -/

set_option Elab.async false

namespace Sys2Proof.Machine

variable {s t u : State} {p q : Fin 16} {e h n m j : Nat} {x y z : Entry} {r : Sheet} {b d : Batch} {v : Upload}
  {f : Evidence → Evidence}

/-! Owed releases (R42, R43) -/

theorem mem_foldl_owe {l rs : List (Tag × ReleaseOutcome)} (h : (l.map Prod.fst).Pairwise (· < ·))
    (hn : (rs.map Prod.fst).Nodup) (c : Tag × ReleaseOutcome) :
    c ∈ rs.foldl (fun l r => owe r l) l ↔ c ∈ rs ∨ (c ∈ l ∧ ∀ w ∈ rs, w.1 ≠ c.1) := by
  induction rs generalizing l with
  | nil => simp
  | cons a rs ih =>
    rw [List.map_cons, List.nodup_cons] at hn
    have hfresh : ∀ w ∈ rs, w.1 ≠ a.1 := fun w hw heq => hn.1 (heq ▸ List.mem_map_of_mem hw)
    rw [List.foldl_cons, ih (owe_pairwise h) hn.2, mem_owe h, List.mem_cons, List.forall_mem_cons]
    constructor
    · rintro (hc | ⟨rfl | ⟨hc, hne⟩, hall⟩)
      · exact .inl (.inr hc)
      · exact .inl (.inl rfl)
      · exact .inr ⟨hc, Ne.symm hne, hall⟩
    · rintro ((rfl | hc) | ⟨hc, hne, hall⟩)
      · exact .inr ⟨.inl rfl, hfresh⟩
      · exact .inl hc
      · exact .inr ⟨.inr ⟨hc, Ne.symm hne⟩, hall⟩

/-! The first record that meets a test -/

/-- No record before the one found meets the test. -/
theorem Tab.find_first {α : Type} {k : Nat} {t : Tab α} {q : Nat → α → Bool} (w : Tab.wf k t) {n m : Nat} {v a : α}
    (hf : t.find q = some (n, v)) (hm : t.get m = some a) (hlt : m < n) : q m a ≠ true := by
  intro ha
  obtain ⟨-, as, bs, hsplit, hall⟩ := List.find?_eq_some_iff_append.1 hf
  have hmem := Tab.mem_of_get hm
  have hsorted := w.1
  rw [hsplit] at hmem
  rw [hsplit, List.map_append, List.map_cons, List.pairwise_append] at hsorted
  rcases List.mem_append.1 hmem with hmem | hmem
  · have hno := hall _ hmem
    rw [ha] at hno
    cases hno
  · rcases List.mem_cons.1 hmem with heq | hmem
    · cases heq
      exact lt_irrefl _ hlt
    · exact lt_asymm hlt ((List.pairwise_cons.1 hsorted.2.1).1 m (List.mem_map_of_mem (f := Prod.fst) hmem))

/-- Two tables in which the same keys meet a test find the same key. -/
theorem Tab.find_of_same {α : Type} {k : Nat} {t u : Tab α} {q : Nat → α → Bool} {R : α → α → Prop} (wt : Tab.wf k t)
    (wu : Tab.wf k u) (h : ∀ n v, t.get n = some v → q n v = true → ∃ a, u.get n = some a ∧ q n a = true ∧ R v a)
    (hback : ∀ n a, u.get n = some a → q n a = true → ∃ v, t.get n = some v ∧ q n v = true) {n : Nat} {v : α}
    (hf : t.find q = some (n, v)) : ∃ a, u.find q = some (n, a) ∧ R v a := by
  obtain ⟨hmem, hq⟩ := Tab.find_spec hf
  obtain ⟨a, ha, hqa, hva⟩ := h n v (Tab.get_of_mem wt hmem) hq
  obtain ⟨⟨m, c⟩, hc⟩ : ∃ o, u.find q = some o :=
    Option.isSome_iff_exists.1 (List.find?_isSome.2 ⟨_, Tab.mem_of_get ha, hqa⟩)
  obtain ⟨hcmem, hqc⟩ := Tab.find_spec hc
  have hcget : u.get m = some c := Tab.get_of_mem wu hcmem
  rcases lt_trichotomy m n with hlt | rfl | hlt
  · obtain ⟨d, hd, hqd⟩ := hback m c hcget hqc
    exact absurd hqd (Tab.find_first wt hf hd hlt)
  · cases ha.symm.trans hcget
    exact ⟨a, hc, hva⟩
  · exact absurd hqa (Tab.find_first wu hc ha hlt)

/-! The PICKING record (R35) -/

/-- What of a record a pick is found by, and what its freeing looks at. -/
def Sheet.pick (r : Sheet) : Nat × Bool × Nat × Tag := (r.station, decide (r.state = .picking), r.batch, r.tag)

/-- Where the records keep their stations, batches and tags and which of them pick, the same one is found. -/
theorem pickingOf_of_same (hs : TablesOk s) (ht : TablesOk t)
    (h : ∀ n, (t.sheets.get n).map Sheet.pick = (s.sheets.get n).map Sheet.pick) (hp : pickingOf s e = some (n, r)) :
    ∃ a, pickingOf t e = some (n, a) ∧ a.pick = r.pick := by
  have hfound : ∀ {s t : State}, (∀ n, (t.sheets.get n).map Sheet.pick = (s.sheets.get n).map Sheet.pick) → ∀ n r,
      s.sheets.get n = some r → (decide (r.station = e) && decide (r.state = .picking)) = true → ∃ a, t.sheets.get n = some a ∧
      (decide (a.station = e) && decide (a.state = .picking)) = true ∧ a.pick = r.pick := by
    intro s t h n r hr hq
    have hn := h n
    rw [hr] at hn
    obtain ⟨a, ha, har⟩ := Option.map_eq_some_iff.1 hn
    have hstation : a.station = r.station := congrArg Prod.fst har
    have hpick : decide (a.state = .picking) = decide (r.state = .picking) := congrArg (fun k => k.2.1) har
    exact ⟨a, ha, by rw [hstation, hpick, hq], har⟩
  exact Tab.find_of_same (sheetsWf hs) (sheetsWf ht) (hfound h) (fun n a ha hq => by
    obtain ⟨r, hr, hqr, -⟩ := hfound (fun n => (h n).symm) n a ha hq
    exact ⟨r, hr, hqr⟩) hp

theorem pickingOf_none_of_same (ht : TablesOk t) (hs : TablesOk s)
    (h : ∀ n, (t.sheets.get n).map Sheet.pick = (s.sheets.get n).map Sheet.pick) (hp : pickingOf s e = none) :
    pickingOf t e = none := by
  cases hq : pickingOf t e with
  | none => rfl
  | some a =>
    obtain ⟨c, hc, -⟩ := pickingOf_of_same (n := a.1) (r := a.2) ht hs (fun n => (h n).symm) hq
    exact nomatch hp.symm.trans hc

/-! The upload is abandoned (R140, R142) -/

/-- What abandoning the upload of entry `e`, `x`, leaves. -/
structure UploadEnded (e : Nat) (x : Entry) (s t : State) : Prop where
  frame : t = { s with sheets := t.sheets, lanes := t.lanes, uploads := s.uploads.del e, ports := t.ports }
  port : ∀ p : Fin 16, t.ports[p] = { s.ports[p] with queues := t.ports[p].queues }
  away : ∀ p : Fin 16, x.port ≠ some p → t.ports[p] = s.ports[p]
  bare : bareSheets t = bareSheets s
  sheet : ∀ n, (∀ v, s.uploads.get e = some v → v.slot ≠ n) → t.sheets.get n = s.sheets.get n
  given : ∀ v, s.uploads.get e = some v → ∀ r, s.sheets.get v.slot = some r →
    t.sheets.get v.slot = some (r.mapDeliveries (destBack v.side v.dests))
  gone : ∀ v, s.uploads.get e = some v → ∀ r, s.sheets.get v.slot = some r → ∀ c ∈ v.dests, ∀ d m,
    deliveryOf r v.side c.2 = some d → d.status = .inFlight → d.number = some m →
    Abandoned m (s.lanes[d.lane].state ≠ .loopback) t.lanes[d.lane]
  quiet : s.uploads.get e = none → t.lanes = s.lanes

theorem ports_onQueues_frame (e : Nat) (f : Queues → Queues) (s : State) (p : Fin 16) :
    (onQueues e f s).ports[p] = { s.ports[p] with queues := (onQueues e f s).ports[p].queues } := by
  cases hx : s.entries.get e with
  | none => rw [onQueues_of_none _ hx]
  | some x =>
    by_cases hp : x.port = some p
    · rw [ports_onQueues_self _ hx hp]
    · rw [ports_onQueues_of_ne _ hx hp]

theorem uploadEnded_abandonUpload (hx : s.entries.get e = some x) : UploadEnded e x s (abandonUpload e s) := by
  cases hv : s.uploads.get e with
  | none =>
    have hsame : abandonUpload e s = s := by rw [abandonUpload, hv]
    rw [hsame]
    refine ⟨?_, fun _ => rfl, fun _ _ => rfl, rfl, fun _ _ => rfl, fun v hv' => ?_, fun v hv' => ?_, fun _ => rfl⟩
    · rw [Tab.del_eq_self hv]
    · exact nomatch hv.symm.trans hv'
    · exact nomatch hv.symm.trans hv'
  | some v =>
    obtain ⟨a, ha⟩ : ∃ a, v.dests.foldl (abandonDest v.slot v.side) s = a := ⟨_, rfl⟩
    have hframe : a = { s with sheets := a.sheets, lanes := a.lanes } := ha ▸ foldl_abandonDest_frame _ _ _ s
    have hports : a.ports = s.ports := by rw [hframe]
    have hax : a.entries.get e = some x := by rw [hframe]; exact hx
    have hend : abandonUpload e s = onQueues e Queues.dropUpload { a with uploads := a.uploads.del e } := by
      rw [abandonUpload_of_get hv, ha]
      rfl
    refine ⟨abandonUpload_frame hv, fun p => ?_, fun p hp => ?_, (onlyImages_abandonUpload e s).bare, fun n hn => ?_,
      fun w hw r hr => ?_, fun w hw r hr c hc d m hd hs hm => ?_, fun hnone => nomatch hv.symm.trans hnone⟩
    · rw [hend, ← hports]
      exact ports_onQueues_frame e _ { a with uploads := a.uploads.del e } p
    · rw [hend, ← hports]
      exact ports_onQueues_of_ne (s := { a with uploads := a.uploads.del e }) _ hax hp
    · rw [sheets_abandonUpload hv]
      exact get_sheets_foldl_abandonDest_ne _ (Ne.symm (hn v hv)) s
    · cases hv.symm.trans hw
      rw [sheets_abandonUpload hv]
      exact get_sheets_foldl_abandonDest_self _ hr
    · cases hv.symm.trans hw
      rw [lanes_abandonUpload hv]
      exact abandoned_foldl_abandonDest hr hc hd (onLane_iff.2 (.inl hs)) hm id

end Sys2Proof.Machine
end

section
/-! The loss of a station applied by every owner (R54, R74, R89, R142). -/

set_option Elab.async false

namespace Sys2Proof.Machine

variable {s t u : State} {p q : Fin 16} {e h n m j : Nat} {x y z : Entry} {r : Sheet} {b d : Batch} {v : Upload}
  {rs : List (Tag × ReleaseOutcome)}

/-! The PICKING record is freed, if there is one (R35, R89) -/

theorem freePickingOf_of_none (hp : pickingOf s e = none) : freePickingOf e s = (s, false) := by rw [freePickingOf, hp]

theorem freePickingOf_of_some (hp : pickingOf s e = some (n, r)) :
    freePickingOf e s = (stopTimer e (freePicking n s), true) := by rw [freePickingOf, hp]

theorem freePickingOf_snd (e : Nat) (s : State) : (freePickingOf e s).2 = (pickingOf s e).isSome := by
  cases hp : pickingOf s e with
  | none => rw [freePickingOf_of_none hp]; rfl
  | some a => rw [freePickingOf_of_some (n := a.1) (r := a.2) hp]; rfl

/-- A freed record takes from an entry its grant count at most. -/
theorem freePicking_entry (n : Nat) (hx : s.entries.get e = some x) :
    ∃ y, (freePicking n s).entries.get e = some y ∧ y = { x with liveCount := y.liveCount } := by
  cases hr : s.sheets.get n with
  | none =>
    rw [freePicking, hr]
    exact ⟨x, hx, rfl⟩
  | some r =>
    by_cases he : e = r.station
    · subst he
      exact ⟨_, get_entries_freePicking_self hr hx, rfl⟩
    · exact ⟨x, (get_entries_freePicking_ne hr he).trans hx, rfl⟩

theorem freePickingOf_entry (hx : s.entries.get e = some x) :
    ∃ y, (freePickingOf e s).1.entries.get e = some y ∧ y = { x with liveCount := y.liveCount, timer := y.timer } := by
  cases hp : pickingOf s e with
  | none =>
    rw [freePickingOf_of_none hp]
    exact ⟨x, hx, rfl⟩
  | some a =>
    obtain ⟨y, hy, hyx⟩ := freePicking_entry a.1 hx
    rw [freePickingOf_of_some (n := a.1) (r := a.2) hp]
    refine ⟨_, get_entries_modEntry_self _ hy, ?_⟩
    dsimp only
    rw [hyx]

theorem freePickingOf_port (e : Nat) (s : State) (p : Fin 16) : (freePickingOf e s).1.ports[p] =
    { s.ports[p] with queues := (freePickingOf e s).1.ports[p].queues } := by
  cases hp : pickingOf s e with
  | none => rw [freePickingOf_of_none hp]
  | some a =>
    rw [freePickingOf_of_some (n := a.1) (r := a.2) hp]
    dsimp only
    rw [stopTimer, modEntry_ports, freePicking]
    split
    · rfl
    · exact ports_onQueues_frame _ _ _ p

/-- What the freeing of the PICKING record of entry `e`, `x`, leaves, if it has one. -/
structure PickFreed (e : Nat) (x : Entry) (s t : State) : Prop where
  frame : t = { s with sheets := t.sheets, batches := t.batches, entries := t.entries, ports := t.ports }
  other : ∀ j, j ≠ e → t.entries.get j = s.entries.get j
  away : ∀ p : Fin 16, x.port ≠ some p → t.ports[p] = s.ports[p]
  none : pickingOf s e = none → t = s
  some : ∀ n r, pickingOf s e = some (n, r) → t.sheets = s.sheets.del n ∧
    t.entries.get e = some { x with liveCount := x.liveCount - 1, timer := .stopped } ∧
    (∀ b, s.batches.get r.batch = some b → t.batches.get r.batch = some { b with picking := b.picking - 1 }) ∧
    ∀ h, h ≠ r.batch → t.batches.get h = s.batches.get h

theorem pickFreed_freePickingOf (ht : TablesOk s) (hx : s.entries.get e = some x) :
    PickFreed e x s (freePickingOf e s).1 := by
  cases hp : pickingOf s e with
  | none =>
    rw [freePickingOf_of_none hp]
    exact ⟨rfl, fun _ _ => rfl, fun _ _ => rfl, fun _ => rfl, fun n r hp' => nomatch hp.symm.trans hp'⟩
  | some a =>
    obtain ⟨n, r⟩ := a
    obtain ⟨-, rfl, -⟩ := mem_of_pickingOf hp
    have hr : s.sheets.get n = some r := get_of_pickingOf ht hp
    rw [freePickingOf_of_some hp]
    refine ⟨?_, fun j hj => ?_, fun p hxp => ?_, fun hp' => (nomatch hp.symm.trans hp'), fun n' r' hp' => ?_⟩
    · obtain ⟨w, hw⟩ : ∃ w, freePicking n s = w := ⟨_, rfl⟩
      have hframe : w = { s with sheets := w.sheets, batches := w.batches, entries := w.entries, ports := w.ports } := by
        rw [← hw, freePicking_frame hr]
      rw [hw]
      exact congrArg (fun u : State => { u with entries := (stopTimer r.station w).entries }) hframe
    · rw [stopTimer, get_entries_modEntry_ne _ hj, get_entries_freePicking_ne hr hj]
    · rw [stopTimer, modEntry_ports, ports_freePicking_of_ne hr hx hxp]
    · cases hp.symm.trans hp'
      refine ⟨?_, get_entries_modEntry_self _ (get_entries_freePicking_self hr hx),
        fun b hb => get_batches_freePicking_self hr hb, fun h hh => get_batches_freePicking_ne hr hh⟩
      rw [stopTimer, modEntry_sheets, freePicking_frame hr]

/-! The entry -/

/-- An absent entry with the LINK_LOST halt taken (R54, R74). -/
theorem halted_detached (rs : List (Tag × ReleaseOutcome)) (y : Entry) : (y.detached rs).halted .linkLost = { y with
    port := none, view := none, lastPos := none, lastGaugeTrail := none, traySeenEmpty := false
    owed := rs.foldl (fun l r => owe r l) y.owed
    feed := if y.feed = .idle then .idle else .halted
    cause := if y.feed = .idle then y.cause else some .linkLost
    timer := if y.feed = .running ∨ y.feed = .ready then y.timer.suspend else y.timer } := by
  have hfeed : (y.detached rs).feed = y.feed := rfl
  have hcover : (y.detached rs).coverOpen = false := rfl
  cases hf : y.feed with
  | running => rw [halted_of_moving (by rw [hfeed, hf]; rfl), hcover]; rfl
  | ready => rw [halted_of_moving (by rw [hfeed, hf]; rfl), hcover]; rfl
  | idle =>
    rw [halted_of_idle (hfeed.trans hf)]
    simp [Entry.detached, hf]
  | halted =>
    rw [halted_of_halted (hfeed.trans hf)]
    simp [Entry.detached, hf]
  | clearing =>
    rw [halted_of_clearing (hfeed.trans hf)]
    simp [Entry.detached]

/-! The whole loss -/

/-- The state once the path of entry `e` is lost. -/
def pathLost (e : Nat) (s : State) : State := emptyPath (fun v => { v with linkLost := true }) e (abandonUpload e s)

/-- The state once the PICKING record of entry `e` is freed too. -/
def pickLost (e : Nat) (s : State) : State := (freePickingOf e (pathLost e s)).1

/-- The state once the loss of entry `e` on port `p` has been applied. -/
def stationLost (p : Fin 16) (e : Nat) (s : State) : State :=
  halt e .linkLost (modEntry e (Entry.detached s.ports[p].unsentReleases) (modPort p (fun _ => {}) (pickLost e s)))

theorem detach_of_get (hx : s.entries.get e = some x) : detach e p s =
    arbitrate (settle (stationBatches s e ++ pickingBatches s e) [e] s.lastAlloc
      (if (pickingOf (pathLost e s) e).isSome then offerSlot (requeryDuplicate x.id (stationLost p e s))
        else requeryDuplicate x.id (stationLost p e s))) := by
  rw [← freePickingOf_snd, detach, stationBatches, hx]
  rfl

theorem entries_abandonUpload (e : Nat) (s : State) : (abandonUpload e s).entries = s.entries := by
  rw [(onlyImages_abandonUpload e s).frame]

theorem parted_pathLost (hx : s.entries.get e = some x) :
    Parted (fun v => { v with linkLost := true }) e x x.path (abandonUpload e s) (pathLost e s) :=
  parted_emptyPath _ (by rw [entries_abandonUpload]; exact hx)

theorem pathLost_entry (hx : s.entries.get e = some x) :
    ∃ y, (pathLost e s).entries.get e = some y ∧ y = { x with path := [], lastGaugeTrail := y.lastGaugeTrail } :=
  (parted_pathLost hx).emptied

/-- The port and the entry a loss leaves, whatever the tables hold. -/
structure StationGone (p : Fin 16) (e : Nat) (x : Entry) (s u : State) : Prop where
  down : u.ports[p] = {}
  port : ∀ q : Fin 16, q ≠ p → u.ports[q] = { s.ports[q] with queues := u.ports[q].queues }
  entry : ∃ y, u.entries.get e = some y ∧ y = { x with
    port := none, path := [], view := none, lastPos := none, lastGaugeTrail := none, traySeenEmpty := false
    feed := if x.feed = .idle then .idle else .halted
    cause := if x.feed = .idle then x.cause else some .linkLost
    owed := (waitingReleases s.ports[p]).foldl (fun l r => owe r l) x.owed
    timer := y.timer, liveCount := y.liveCount }

/-- The entry a halt of an absent entry finds, and the ports it leaves. -/
theorem ports_stationLost (hy : (pickLost e s).entries.get e = some y) (q : Fin 16) :
    (stationLost p e s).ports[q] = (modPort p (fun _ => {}) (pickLost e s)).ports[q] := by
  rw [stationLost, ports_halt_of_ne (get_entries_modEntry_self (s := modPort p (fun _ => {}) (pickLost e s)) _ hy)
    fun h => nomatch (h : none = some q)]
  rfl

theorem get_entries_stationLost (hy : (pickLost e s).entries.get e = some y) :
    (stationLost p e s).entries.get e = some ((y.detached (waitingReleases s.ports[p])).halted .linkLost) := by
  rw [stationLost]
  exact get_entries_halt_self (get_entries_modEntry_self (s := modPort p (fun _ => {}) (pickLost e s)) _ hy)

theorem stationGone_stationLost (hx : s.entries.get e = some x) : StationGone p e x s (stationLost p e s) := by
  obtain ⟨y, hy, hyx⟩ := pathLost_entry hx
  obtain ⟨z, hz, hzy⟩ := freePickingOf_entry hy
  have hz' : (pickLost e s).entries.get e = some z := hz
  refine ⟨?_, fun q hq => ?_, ?_⟩
  · rw [ports_stationLost hz', getElem_modPort_self]
  · have hport : (pickLost e s).ports[q] = { s.ports[q] with queues := (pickLost e s).ports[q].queues } := by
      have hfree : (pickLost e s).ports[q] = { (pathLost e s).ports[q] with queues := (pickLost e s).ports[q].queues } :=
        freePickingOf_port e _ q
      rw [hfree, (parted_pathLost hx).port q, (uploadEnded_abandonUpload hx).port q]
    rw [ports_stationLost hz', getElem_modPort_ne _ _ hq]
    exact hport
  · refine ⟨_, get_entries_stationLost hz', ?_⟩
    rw [halted_detached, hzy, hyx]

end Sys2Proof.Machine
end

section
/-! What a detach leaves: the loss applied, a waiting port re-queried, and the judgments (R53, R54, R74, R89, R142). -/

set_option Elab.async false

namespace Sys2Proof.Machine

variable {s t u : State} {p q : Fin 16} {e h n m j : Nat} {x y z : Entry} {r a : Sheet} {b d : Batch} {v : Upload}
  {f : Evidence → Evidence}

/-! The path is lost -/

theorem Sheet.pick_gained (f : Evidence → Evidence) (r : Sheet) : (r.gained f).pick = r.pick := by
  unfold Sheet.pick Sheet.gained
  by_cases hs : r.state = .inPath <;> simp [hs]

theorem pick_gainEvidence (m : Nat) :
    ((gainEvidence f n s).sheets.get m).map Sheet.pick = (s.sheets.get m).map Sheet.pick := by
  by_cases hm : m = n
  · subst hm
    cases hr : s.sheets.get m with
    | none => rw [gainEvidence_of_none hr, hr]
    | some r => rw [get_sheets_gainEvidence_self hr, Option.map_some, Option.map_some, Sheet.pick_gained]
  · rw [get_sheets_gainEvidence_ne hm]

theorem pick_partSheets (f : Evidence → Evidence) (e : Nat) (l : List Place) (s : State) (m : Nat) :
    ((l.foldl (fun t c => partSheet f e t c.slot) s).sheets.get m).map Sheet.pick = (s.sheets.get m).map Sheet.pick := by
  induction l generalizing s with
  | nil => rfl
  | cons c l ih => rw [List.foldl_cons, ih, partSheet_sheets, pick_gainEvidence]

theorem pick_of_bareSheets (h : bareSheets t = bareSheets s) (m : Nat) :
    (t.sheets.get m).map Sheet.pick = (s.sheets.get m).map Sheet.pick := by
  have hbare : ∀ o : Option Sheet, o.map Sheet.pick = (o.map fun r => { r with deliveries := none }).map Sheet.pick :=
    fun o => by rw [Option.map_map]; rfl
  rw [hbare (t.sheets.get m), hbare (s.sheets.get m), ← get_bareSheets, ← get_bareSheets, h]

theorem pick_pathLost (hx : s.entries.get e = some x) (m : Nat) :
    ((pathLost e s).sheets.get m).map Sheet.pick = (s.sheets.get m).map Sheet.pick := by
  rw [pathLost, emptyPath_of_get (by rw [entries_abandonUpload]; exact hx), pick_partSheets]
  exact pick_of_bareSheets (onlyImages_abandonUpload e s).bare m

theorem tablesOk_pathLost (ht : TablesOk s) : TablesOk (pathLost e s) :=
  ((keeps_abandonUpload e s).trans (keeps_emptyPath (fun v => { v with linkLost := true }) e _)).tables ht

/-- The record that picks is the same before and after the path is lost. -/
theorem pickingOf_pathLost (ht : TablesOk s) (hx : s.entries.get e = some x) (hp : pickingOf s e = some (n, r)) :
    ∃ a, pickingOf (pathLost e s) e = some (n, a) ∧ a.batch = r.batch := by
  obtain ⟨a, ha, hpick⟩ := pickingOf_of_same ht (tablesOk_pathLost ht) (pick_pathLost hx) hp
  exact ⟨a, ha, congrArg (fun k => k.2.2.1) hpick⟩

theorem pickingOf_pathLost_none (ht : TablesOk s) (hx : s.entries.get e = some x) (hp : pickingOf s e = none) :
    pickingOf (pathLost e s) e = none := pickingOf_none_of_same (tablesOk_pathLost ht) ht (pick_pathLost hx) hp

theorem pickingOf_pathLost_isSome (ht : TablesOk s) (hx : s.entries.get e = some x) :
    (pickingOf (pathLost e s) e).isSome = (pickingOf s e).isSome := by
  cases hp : pickingOf s e with
  | none => rw [pickingOf_pathLost_none ht hx hp]
  | some a =>
    obtain ⟨c, hc, -⟩ := pickingOf_pathLost (n := a.1) (r := a.2) ht hx hp
    rw [hc]
    rfl

theorem isNew_of_bareSheets (h : bareSheets t = bareSheets s) (c : Place) : isNew t j c = isNew s j c := by
  have hone : ∀ {s t : State}, bareSheets t = bareSheets s → isNew t j c = true → isNew s j c = true := by
    intro s t h hn
    obtain ⟨q, hq, hb, hst⟩ := isNew_iff.1 hn
    obtain ⟨r, hr, hqr⟩ := get_of_bareSheets h hq
    rw [hqr] at hb hst
    exact isNew_iff.2 ⟨r, hr, hb, hst⟩
  exact Bool.eq_iff_iff.2 ⟨hone h, hone h.symm⟩

theorem pathNews_of_bareSheets (h : bareSheets t = bareSheets s) : pathNews t x j = pathNews s x j := by
  rw [pathNews_eq, pathNews_eq, newsAt, newsAt, List.filter_congr fun c _ => isNew_of_bareSheets h c]

theorem pathEmptied_pathLost (hx : s.entries.get e = some x) (hn : (x.path.map (·.slot)).Nodup)
    (hb : ∀ a ∈ s.sheets, a.2.batch < 48) (ha : ∀ a ∈ s.attention, a.2 < 256) :
    PathEmptied (fun v => { v with linkLost := true }) x s (pathLost e s) := by
  have hended := uploadEnded_abandonUpload hx
  obtain ⟨v, hv⟩ : ∃ v, abandonUpload e s = v := ⟨_, rfl⟩
  have hpart := parted_pathLost hx
  rw [hv] at hended hpart
  have hattn : v.attention = s.attention := by rw [hended.frame]
  have hbatches : v.batches = s.batches := by rw [hended.frame]
  have hroom : v.room = s.room := by rw [hended.frame]
  have hbelow : ∀ m r, v.sheets.get m = some r → r.batch < 256 := fun m r hr => by
    obtain ⟨q, hq, hrq⟩ := get_of_bareSheets hended.bare hr
    rw [hrq]
    exact (hb _ (Tab.mem_of_get hq)).trans (by decide)
  obtain ⟨hsheets, hrest⟩ := hpart.pathEmptied hn hbelow (hattn ▸ ha)
  refine ⟨fun c hc r hr hs => ?_, fun i b hi => ?_⟩
  · obtain ⟨q, hq, hqr⟩ := get_sheets_of_bareSheets hended.bare hr
    obtain ⟨k, hk, hkq⟩ := hsheets c hc q hq (by rw [hqr]; exact hs)
    refine ⟨k, hk, hkq.trans ?_⟩
    rw [hqr]
  · obtain ⟨c, hc, hcb, hnews⟩ := hrest i b (hbatches ▸ hi)
    rw [pathNews_of_bareSheets hended.bare] at hcb hnews
    exact ⟨c, hc, hcb, hroom ▸ hnews⟩

theorem attention_pathLost (hx : s.entries.get e = some x) (hb : ∀ a ∈ s.sheets, a.2.batch < 48)
    (ha : ∀ a ∈ s.attention, a.2 < 256) : ∀ a ∈ (pathLost e s).attention, a.2 < 256 := by
  have hended := uploadEnded_abandonUpload hx
  have hattn : (abandonUpload e s).attention = s.attention := by rw [hended.frame]
  refine (parted_pathLost hx).bounded (fun m r hr => ?_) (hattn ▸ ha)
  obtain ⟨q, hq, hrq⟩ := get_of_bareSheets hended.bare hr
  rw [hrq]
  exact (hb _ (Tab.mem_of_get hq)).trans (by decide)

theorem picking_pathLost (hx : s.entries.get e = some x) (hn : (x.path.map (·.slot)).Nodup)
    (hb : s.batches.get h = some b) (hd : (pathLost e s).batches.get h = some d) : d.picking = b.picking := by
  have hbatches : (abandonUpload e s).batches = s.batches := by rw [(onlyImages_abandonUpload e s).frame]
  obtain ⟨c, hc, hcb⟩ := (parted_pathLost hx).batch hn h b (hbatches ▸ hb)
  cases hd.symm.trans hc
  rw [hcb]

/-- What the loss of the path leaves of one record. -/
theorem get_sheets_pathLost (hx : s.entries.get e = some x) (hn : (x.path.map (·.slot)).Nodup)
    (ha : (abandonUpload e s).sheets.get n = some a) : ∃ q, (pathLost e s).sheets.get n = some q ∧
      ((∀ c ∈ x.path, c.slot ≠ n) → q = a) ∧ q = { a with evidence := q.evidence, state := q.state } := by
  have hpart := parted_pathLost hx
  by_cases hin : ∃ c ∈ x.path, c.slot = n
  · obtain ⟨c, hc, rfl⟩ := hin
    exact ⟨_, hpart.gained hn c hc a ha, fun hout => absurd rfl (hout c hc), rfl⟩
  · push Not at hin
    exact ⟨a, (hpart.kept n hin).trans ha, fun _ => rfl, rfl⟩

theorem pathLost_frame (hx : s.entries.get e = some x) : pathLost e s = { s with
    entries := (pathLost e s).entries, batches := (pathLost e s).batches, sheets := (pathLost e s).sheets
    uploads := s.uploads.del e, lanes := (abandonUpload e s).lanes, ports := (pathLost e s).ports
    attention := (pathLost e s).attention } := by
  have hpart := (parted_pathLost hx).frame
  have hended := (uploadEnded_abandonUpload hx).frame
  obtain ⟨v, hv⟩ : ∃ v, abandonUpload e s = v := ⟨_, rfl⟩
  obtain ⟨u, hu⟩ : ∃ u, pathLost e s = u := ⟨_, rfl⟩
  rw [hv, hu] at hpart
  rw [hv] at hended
  rw [hv, hu]
  exact hpart.trans (congrArg (fun w : State => { w with
    entries := u.entries, batches := u.batches, sheets := u.sheets, ports := u.ports, attention := u.attention }) hended)

/-! The whole loss -/

/-- What the whole loss takes over from the freed PICKING record. -/
theorem stationLost_frame (p : Fin 16) (e : Nat) (s : State) : stationLost p e s = { pickLost e s with
    entries := (stationLost p e s).entries, ports := (stationLost p e s).ports
    attention := (stationLost p e s).attention } := by
  rw [stationLost, halt_frame]
  rfl

theorem pickFreed_pickLost (ht : TablesOk s) (hy : (pathLost e s).entries.get e = some y) :
    PickFreed e y (pathLost e s) (pickLost e s) := pickFreed_freePickingOf (tablesOk_pathLost ht) hy

theorem mem_attention_stationLost {w : Attn} (hf : PickFreed e y (pathLost e s) (pickLost e s))
    (hw : w ∈ (pathLost e s).attention) : w ∈ (stationLost p e s).attention := by
  rw [stationLost]
  refine raised_halt ?_
  show w ∈ (pickLost e s).attention
  rw [hf.frame]
  exact hw

theorem haltRaises_linkLost {k : FeedState} (hk : k ≠ .idle) : haltRaises k .linkLost = true := by
  cases k with
  | idle => exact absurd rfl hk
  | running => rfl
  | ready => rfl
  | halted => rfl
  | clearing => rfl

theorem get_entries_stationLost_ne (hx : s.entries.get e = some x) (hf : PickFreed e y (pathLost e s) (pickLost e s))
    (hj : j ≠ e) : (stationLost p e s).entries.get j = s.entries.get j := by
  rw [stationLost, get_entries_halt_ne hj, get_entries_modEntry_ne _ hj, modPort_entries, hf.other j hj,
    (parted_pathLost hx).other j hj, entries_abandonUpload]

/-- What only the loss of a station changes. -/
theorem stationLost_outer (hx : s.entries.get e = some x) (hf : PickFreed e y (pathLost e s) (pickLost e s)) :
    stationLost p e s = { s with
      entries := (stationLost p e s).entries, batches := (pickLost e s).batches, sheets := (pickLost e s).sheets
      uploads := s.uploads.del e, lanes := (abandonUpload e s).lanes, ports := (stationLost p e s).ports
      attention := (stationLost p e s).attention } := by
  have hlost := stationLost_frame p e s
  have hfreed := hf.frame
  have hpath := pathLost_frame hx
  obtain ⟨u, hu⟩ : ∃ u, stationLost p e s = u := ⟨_, rfl⟩
  obtain ⟨v, hv⟩ : ∃ v, pickLost e s = v := ⟨_, rfl⟩
  obtain ⟨w, hw⟩ : ∃ w, pathLost e s = w := ⟨_, rfl⟩
  rw [hu, hv] at hlost
  rw [hv, hw] at hfreed
  rw [hw] at hpath
  rw [hu, hv]
  calc u = { v with entries := u.entries, ports := u.ports, attention := u.attention } := hlost
    _ = { w with
        entries := u.entries, batches := v.batches, sheets := v.sheets, ports := u.ports, attention := u.attention } :=
      congrArg (fun a : State => { a with entries := u.entries, ports := u.ports, attention := u.attention }) hfreed
    _ = _ := congrArg (fun a : State => { a with
        entries := u.entries, batches := v.batches, sheets := v.sheets, ports := u.ports, attention := u.attention }) hpath

theorem ports_stationLost_away (hx : s.entries.get e = some x) (hf : PickFreed e y (pathLost e s) (pickLost e s))
    (hz : (pickLost e s).entries.get e = some z) (hport : y.port = x.port) (hq : q ≠ p) (hxq : x.port ≠ some q) :
    (stationLost p e s).ports[q] = s.ports[q] := by
  rw [ports_stationLost hz, getElem_modPort_ne _ _ hq, hf.away q (hport ▸ hxq), (parted_pathLost hx).away q hxq,
    (uploadEnded_abandonUpload hx).away q hxq]

/-- The grant count and the pick timer a loss leaves. -/
theorem pickLost_entry (ht : TablesOk s) (hx : s.entries.get e = some x) (hy : (pathLost e s).entries.get e = some y)
    (hz : (pickLost e s).entries.get e = some z) :
    (pickingOf s e = none → z = y) ∧ ∀ n r, pickingOf s e = some (n, r) → (pickLost e s).sheets.get n = none ∧
      z = { y with liveCount := y.liveCount - 1, timer := .stopped } := by
  have hfreed := pickFreed_pickLost ht hy
  refine ⟨fun hp => ?_, fun n r hp => ?_⟩
  · rw [hfreed.none (pickingOf_pathLost_none ht hx hp)] at hz
    exact Option.some.inj (hz.symm.trans hy)
  · obtain ⟨a, ha, -⟩ := pickingOf_pathLost ht hx hp
    obtain ⟨hsheets, hentry, -⟩ := hfreed.some n a ha
    exact ⟨by rw [hsheets, Tab.get_del_self], Option.some.inj (hz.symm.trans hentry)⟩

theorem pickLost_picking (ht : TablesOk s) (hx : s.entries.get e = some x) (hy : (pathLost e s).entries.get e = some y)
    (hd : (pathLost e s).batches.get h = some d) : ∃ c, (pickLost e s).batches.get h = some c ∧
      c = { d with picking := c.picking } ∧
      ((∀ n r, pickingOf s e = some (n, r) → r.batch ≠ h) → c.picking = d.picking) ∧
      ∀ n r, pickingOf s e = some (n, r) → r.batch = h → c.picking = d.picking - 1 := by
  have hfreed := pickFreed_pickLost ht hy
  cases hp : pickingOf s e with
  | none =>
    rw [hfreed.none (pickingOf_pathLost_none ht hx hp)]
    exact ⟨d, hd, rfl, fun _ => rfl, fun _ _ hno _ => (Option.some_ne_none _ hno.symm).elim⟩
  | some k =>
    obtain ⟨n, r⟩ := k
    obtain ⟨a, ha, hbatch⟩ := pickingOf_pathLost ht hx hp
    obtain ⟨-, -, hsame, hother⟩ := hfreed.some n a ha
    by_cases hh : h = r.batch
    · subst hh
      rw [← hbatch] at hd
      have hcount := hsame d hd
      rw [hbatch] at hcount
      exact ⟨_, hcount, rfl, fun hno => absurd rfl (hno n r rfl), fun _ _ _ _ => rfl⟩
    · rw [← hbatch] at hh
      refine ⟨d, (hother h hh).trans hd, rfl, fun _ => rfl, fun n' r' hr' heq => ?_⟩
      cases hr'
      exact absurd (heq.symm.trans hbatch.symm) hh

/-- A record that is not the one picking is still there. -/
theorem get_sheets_pickLost (ht : TablesOk s) (hx : s.entries.get e = some x) (hy : (pathLost e s).entries.get e = some y)
    (hn : ∀ m r, pickingOf s e = some (m, r) → m ≠ n) :
    (pickLost e s).sheets.get n = (pathLost e s).sheets.get n := by
  have hfreed := pickFreed_pickLost ht hy
  cases hp : pickingOf s e with
  | none => rw [hfreed.none (pickingOf_pathLost_none ht hx hp)]
  | some k =>
    obtain ⟨m, r⟩ := k
    obtain ⟨a, ha, -⟩ := pickingOf_pathLost ht hx hp
    rw [(hfreed.some m a ha).1, Tab.get_del_other _ (Ne.symm (hn m r hp))]

theorem ne_of_pickingOf (ht : TablesOk s) (hr : s.sheets.get n = some r) (hs : r.state ≠ .picking) :
    ∀ m a, pickingOf s e = some (m, a) → m ≠ n := by
  rintro m a hp rfl
  cases (get_of_pickingOf ht hp).symm.trans hr
  exact hs (mem_of_pickingOf hp).2.2

/-- What abandoning the upload of a station leaves of one record. -/
theorem UploadEnded.sheet_kept (hu : UploadEnded e x s t) (hr : s.sheets.get n = some r) : ∃ a, t.sheets.get n = some a ∧
    a = { r with deliveries := a.deliveries } ∧ ((∀ v, s.uploads.get e = some v → v.slot ≠ n) → a = r) ∧
    ∀ v, s.uploads.get e = some v → v.slot = n → a = r.mapDeliveries (destBack v.side v.dests) := by
  by_cases hin : ∃ v, s.uploads.get e = some v ∧ v.slot = n
  · obtain ⟨v, hv, rfl⟩ := hin
    refine ⟨_, hu.given v hv r hr, rfl, fun hout => absurd rfl (hout v hv), fun w hw _ => ?_⟩
    cases hv.symm.trans hw
    rfl
  · push Not at hin
    exact ⟨r, (hu.sheet n hin).trans hr, rfl, fun _ => rfl, fun v hv hn => absurd hn (hin v hv)⟩

theorem deliveryOf_congr {o : Role} {k : Side} (h : a.deliveries = r.deliveries) : deliveryOf a k o = deliveryOf r k o := by
  rw [deliveryOf, deliveryOf, h]

/-- The loss of a station, as a detach applies it to every owner (R54, R74, R89, R142). -/
theorem lossApplied_stationLost (ht : TablesOk s) (hx : s.entries.get e = some x) (hn : (x.path.map (·.slot)).Nodup)
    (hb : ∀ a ∈ s.sheets, a.2.batch < 48) (ha : ∀ a ∈ s.attention, a.2 < 256) :
    LossApplied p e x s (stationLost p e s) := by
  obtain ⟨y, hy, hyx⟩ := pathLost_entry hx
  obtain ⟨z, hz, hzy⟩ := freePickingOf_entry hy
  have hfreed := pickFreed_pickLost ht hy
  have hgone := stationGone_stationLost (p := p) hx
  have hended := uploadEnded_abandonUpload hx
  have houter := stationLost_outer (p := p) hx hfreed
  have hlost := get_entries_stationLost (p := p) (s := s) (e := e) hz
  have hemptied := pathEmptied_pathLost hx hn hb ha
  obtain ⟨hpickNone, hpickSome⟩ := pickLost_entry ht hx hy hz
  have hsheets : (stationLost p e s).sheets = (pickLost e s).sheets := by rw [houter]
  have hbatches : (stationLost p e s).batches = (pickLost e s).batches := by rw [houter]
  have hlanes : (stationLost p e s).lanes = (abandonUpload e s).lanes := by rw [houter]
  refine ⟨?_, ⟨hgone.down, fun q hq hxq => ?_, fun j hj => get_entries_stationLost_ne hx hfreed hj⟩, ?_, fun hidle hmask => ?_,
    ⟨fun c hc r hr hstate => ?_, fun i b hi => ?_⟩, fun i b c hi hc => ?_, fun n r hr hnot => ?_, fun hnone => ?_⟩
  · rw [hsheets, hbatches, hlanes]
    exact houter
  · exact ports_stationLost_away hx hfreed hz (by rw [hyx]) hq hxq
  · obtain ⟨w, hw, hwx⟩ := hgone.entry
    have hwz := Option.some.inj (hw.symm.trans hlost)
    have howed : w.owed = (waitingReleases s.ports[p]).foldl (fun l r => owe r l) x.owed := by rw [hwx]
    refine ⟨w, hw, ?_, fun hp => ?_, fun n r hp => ?_, fun hsorted hnodup q => ?_⟩
    · rw [howed]
      exact hwx
    · rw [hwz, halted_detached, hpickNone hp, hyx]
      exact ⟨rfl, rfl⟩
    · obtain ⟨hgo, hzy⟩ := hpickSome n r hp
      rw [hwz, halted_detached, hzy, hyx]
      exact ⟨hsheets ▸ hgo, rfl, ite_self _⟩
    · rw [howed]
      exact mem_foldl_owe hsorted hnodup q
  · have hfeed : z.feed = x.feed := by rw [hzy, hyx]
    have hroom : (pickLost e s).room = s.room := by rw [hfreed.frame, pathLost_frame hx]
    have hattn : (pickLost e s).attention = (pathLost e s).attention := by rw [hfreed.frame]
    rw [stationLost]
    refine mem_attention_halt (get_entries_modEntry_self (s := modPort p (fun _ => {}) (pickLost e s)) _ hz)
      (haltRaises_linkLost (hfeed ▸ hidle)) (hroom ▸ hmask) ((Tab.key_lt (entriesWf ht) hx).trans (by decide)) ?_
    show ∀ a ∈ (pickLost e s).attention, a.2 < 256
    rw [hattn]
    exact attention_pathLost hx hb ha
  · obtain ⟨q, hq, hqr⟩ := hemptied.1 c hc r hr hstate
    have hpick : r.state ≠ .picking := by rcases hstate with h | h <;> rw [h] <;> nofun
    exact ⟨q, by rw [hsheets, get_sheets_pickLost ht hx hy (ne_of_pickingOf ht hr hpick), hq], hqr⟩
  · obtain ⟨d, hd, hdb, hnews⟩ := hemptied.2 i b hi
    obtain ⟨c, hc, hcd, -⟩ := pickLost_picking ht hx hy hd
    refine ⟨c, by rw [hbatches, hc], ?_, fun hpos hmask => mem_attention_stationLost hfreed (hnews hpos hmask)⟩
    rw [hcd, hdb]
  · obtain ⟨d, hd, hdb, -⟩ := hemptied.2 i b hi
    obtain ⟨c', hc', -, hsame, hless⟩ := pickLost_picking ht hx hy hd
    rw [hbatches, hc'] at hc
    obtain rfl := Option.some.inj hc
    rw [picking_pathLost hx hn hi hd] at hsame hless
    exact ⟨hsame, hless⟩
  · obtain ⟨a, ha, hkept, hsame, hback⟩ := hended.sheet_kept hr
    obtain ⟨q, hq, hout, hqa⟩ := get_sheets_pathLost hx hn ha
    have hdel : q.deliveries = a.deliveries := by rw [hqa]
    refine ⟨q, by rw [hsheets, get_sheets_pickLost ht hx hy hnot, hq], fun hpath => ?_, fun hno => by rw [hdel, hsame hno],
      fun v hv hslot => ⟨by rw [hqa, hkept], fun c hc d hd => ⟨?_, fun m hm hfly => ?_⟩⟩⟩
    · rw [hout hpath]
      exact hkept
    · rw [deliveryOf_congr hdel, hback v hv hslot, deliveryOf_mapDeliveries (destBack_keeps _ _), hd, Option.map_some]
      obtain ⟨-, hside, hrole⟩ := deliveryOf_spec hd
      exact congrArg some (if_pos ⟨hside, List.mem_map.2 ⟨c, hc, hrole.symm⟩⟩)
    · subst hslot
      have hab := hended.gone v hv r hr c hc d m hd hfly hm
      rw [hlanes]
      exact ⟨hab.window, hab.fifo, hab.ctrl⟩
  · rw [hlanes, hended.quiet hnone]

end Sys2Proof.Machine
end

section
/-! The events of a feed port: words, line activity, silence and the query timer, and a port that goes to DOWN (R49, R50, R53,
R54, R89, R142). -/

set_option Elab.async false

namespace Sys2Proof.Machine

variable {s t u : State} {p q : Fin 16} {e n : Nat} {x y : Entry} {i : StationId} {g : Port → Bool}

/-! Ports that wait, and their re-query (R53) -/

theorem lowestPort_of_same (h : ∀ q : Fin 16, g t.ports[q] = g s.ports[q]) : lowestPort t g = lowestPort s g := by
  rw [lowestPort, lowestPort, funext h]

theorem waitsFor_of_linked {y : Port} (h : y.link ≠ .unlisted) : y.waitsFor i = false :=
  Bool.eq_false_iff.2 fun hw => h (waitsFor_iff.1 hw).1

theorem waitsFull_of_linked {y : Port} (h : y.link ≠ .unlisted) : y.waitsFull = false :=
  Bool.eq_false_iff.2 fun hw => h (waitsFull_iff.1 hw).1

/-- A port that leaves a state in which it does not wait leaves the lowest waiting port what it was. -/
theorem lowestPort_reset (hg : ∀ y : Port, y.link ≠ .unlisted → g y = false) (h : s.ports[p].link ≠ .unlisted) :
    lowestPort (modPort p (fun _ => {}) s) g = lowestPort s g := by
  refine lowestPort_of_same fun q => ?_
  rw [getElem_modPort]
  split
  · next hq => rw [hq, hg _ h, hg {} fun hno => nomatch hno]
  · rfl

theorem requeryDuplicate_of_none (h : lowestPort s (Port.waitsFor i) = none) : requeryDuplicate i s = s := by
  rw [requeryDuplicate, h]

theorem requeryDuplicate_of_some (h : lowestPort s (Port.waitsFor i) = some q) :
    requeryDuplicate i s = modPort q (Port.toQuerying (some i)) s := by
  rw [requeryDuplicate, h]

theorem requeryDuplicate_frame (i : StationId) (s : State) :
    requeryDuplicate i s = { s with ports := (requeryDuplicate i s).ports } := by
  unfold requeryDuplicate
  split <;> rfl

/-- A port that does not wait is left as it is. -/
theorem ports_requeryDuplicate (h : s.ports[p].link ≠ .unlisted) : (requeryDuplicate i s).ports[p] = s.ports[p] := by
  unfold requeryDuplicate
  split
  · next q hq =>
    refine getElem_modPort_ne _ _ fun hpq => h ?_
    rw [hpq]
    exact (waitsFor_iff.1 (lowestPort_spec hq)).1
  · rfl

theorem passRequery_none (s : State) : passRequery none s = s := rfl

theorem passRequery_of_absent (hf : findId s i = some (e, x)) (hx : x.port = none) :
    passRequery (some i) s = requeryDuplicate i s := by
  rw [passRequery, hf]
  exact if_pos (by rw [hx]; rfl)

theorem passRequery_of_present (h : ∀ e x, findId s i = some (e, x) → x.port.isSome = true) : passRequery (some i) s = s := by
  unfold passRequery
  dsimp only
  split
  · next e x hf =>
    refine if_neg fun hno => ?_
    rw [Option.isNone_iff_eq_none] at hno
    have hsome := h e x hf
    rw [hno] at hsome
    cases hsome
  · rfl

theorem passRequery_cases (f : Option StationId) (s : State) :
    passRequery f s = s ∨ ∃ i, f = some i ∧ passRequery f s = requeryDuplicate i s := by
  cases f with
  | none => exact .inl rfl
  | some i =>
    unfold passRequery
    dsimp only
    split
    · split
      · exact .inr ⟨i, rfl, rfl⟩
      · exact .inl rfl
    · exact .inl rfl

theorem ports_passRequery {f : Option StationId} (h : s.ports[p].link ≠ .unlisted) :
    (passRequery f s).ports[p] = s.ports[p] := by
  rcases passRequery_cases f s with hs | ⟨i, -, hs⟩ <;> rw [hs]
  exact ports_requeryDuplicate h

/-! Reservations (R53) -/

theorem reservedFor_eq_none : reservedFor s p = none ↔ ∀ r ∈ s.reservations, r.2 ≠ p.val := by
  rw [reservedFor, Option.map_eq_none_iff]
  simp [Tab.find]

theorem releaseReservation_of_none (h : reservedFor s p = none) : releaseReservation p s = s := by
  rw [releaseReservation, h]

theorem releaseReservation_of_some (h : reservedFor s p = some n) : releaseReservation p s = reserveEntry n s := by
  rw [releaseReservation, h]

theorem ports_releaseReservation (h : s.ports[p].link ≠ .unlisted) : (releaseReservation q s).ports[p] = s.ports[p] := by
  unfold releaseReservation
  split
  · rw [ports_reserveEntry]
    refine if_neg fun hlow => h ?_
    exact (waitsFull_iff.1 (lowestPort_spec hlow)).1
  · rfl

/-! A port goes to DOWN (R49, R50, R54, R55) -/

theorem portDown_of_down (h : s.ports[p].link = .down) : portDown p s = s := by
  unfold portDown
  dsimp only
  rw [h]

theorem portDown_of_attached (h : AttachedTo s p e) : portDown p s = detach e p s := by
  unfold portDown
  dsimp only
  rw [h.1, h.2]

theorem portDown_of_querying (h : s.ports[p].link = .querying) : portDown p s =
    passRequery s.ports[p].requeriedFor (releaseReservation p (modPort p (fun _ => {}) s)) := by
  unfold portDown
  dsimp only
  rw [h]

theorem portDown_of_other (hd : s.ports[p].link ≠ .down) (hq : s.ports[p].link ≠ .querying)
    (hu : s.ports[p].link = .up → s.ports[p].entry = none) : portDown p s = modPort p (fun _ => {}) s := by
  unfold portDown
  dsimp only
  split
  · exact absurd ‹_› hd
  · next e hup he => exact nomatch (hu hup).symm.trans he
  · exact absurd ‹_› hq
  · rfl

/-- The lowest port that waits for an ID is the same before and after a station is lost. -/
theorem lowestPort_stationLost (ha : AttachedTo s p e) (hx : s.entries.get e = some x) :
    lowestPort (stationLost p e s) (Port.waitsFor i) = lowestPort s (Port.waitsFor i) := by
  have hgone := stationGone_stationLost (p := p) hx
  refine lowestPort_of_same fun q => ?_
  by_cases hq : q = p
  · subst hq
    rw [hgone.down, waitsFor_of_linked (y := s.ports[q]) (by rw [ha.1]; nofun)]
    rfl
  · rw [hgone.port q hq]
    rfl

/-- What a detach leaves. -/
theorem detachLeaves_detach (ht : TablesOk s) (hb : ∀ n ∈ s.sheets, n.2.batch < 48) (hatt : ∀ a ∈ s.attention, a.2 < 256)
    (ha : AttachedTo s p e) (hx : s.entries.get e = some x) (hn : (x.path.map (·.slot)).Nodup) :
    DetachLeaves p e x s (detach e p s) := by
  refine ⟨stationLost p e s, requeryDuplicate x.id (stationLost p e s), lossApplied_stationLost ht hx hn hb hatt,
    fun hlow => ?_, fun q hlow => ?_, ?_⟩
  · exact requeryDuplicate_of_none ((lowestPort_stationLost ha hx).trans hlow)
  · exact requeryDuplicate_of_some ((lowestPort_stationLost ha hx).trans hlow)
  · rw [detach_of_get hx, pickingOf_pathLost_isSome ht hx]

/-! The events -/

theorem leaves_of_eq {c : Instr} {f : State → State} (hs : Runs s) (h : f s = t) (hc : exec c s = event f s := by rfl) :
    Leaves c s t := h ▸ leaves_of_runs hs hc

theorem leaves_fill_of_eq (hs : Runs s) (h : counted p s = t) : Leaves (.fill p) s t := h ▸ leaves_fill hs

theorem counted_of_aligning (h : s.ports[p].link = .aligning) (ha : s.ports[p].align < 7) : counted p s = modPort p (fun x =>
    { x with align := x.align + 1, silence := some s.room.silence, malformed := 0 }) s :=
  modPort_congr (Port.wellFormed_of_aligning s.room.silence h ha)

theorem counted_of_aligned (h : s.ports[p].link = .aligning) (ha : 7 ≤ s.ports[p].align) : counted p s = modPort p (fun x =>
    { x with
      link := .querying, align := 0, silence := some s.room.silence, malformed := 0, queryTimer := none, kept := none
      requeriedFor := none, queues := { x.queues with query := true } }) s :=
  modPort_congr (Port.wellFormed_of_aligned s.room.silence h ha)

theorem takeMalformed_of_linked (hd : s.ports[p].link ≠ .down) (ha : s.ports[p].link ≠ .aligning) : takeMalformed p s =
    if 8 ≤ s.ports[p].malformed + 1 then portDown p s
    else modPort p (fun x => { x with malformed := x.malformed + 1, silence := some s.room.silence }) s := by
  unfold takeMalformed
  split
  · exact absurd ‹_› hd
  · exact absurd ‹_› ha
  · rfl

theorem takeMalformed_of_down (hd : s.ports[p].link = .down) : takeMalformed p s = s := by
  unfold takeMalformed
  rw [hd]

theorem takeMalformed_of_aligning (ha : s.ports[p].link = .aligning) :
    takeMalformed p s = modPort p (fun x => { x with align := 0, silence := some s.room.silence }) s := by
  unfold takeMalformed
  rw [ha]

/-- A port that goes to DOWN from QUERYING passes on what it held. -/
theorem portDown_requeries {queried : Option StationId → Port → Port} (hu : u = modPort p (fun _ => {}) s)
    (hq : queried = Port.toQuerying) (h : s.ports[p].link = .querying) :
    (s.ports[p].requeriedFor = none →
      ((∀ q ∈ s.reservations, q.2 ≠ p.val) → portDown p s = u) ∧
      ∀ i, reservedFor s p = some i →
        (lowestPort s Port.waitsFull = none → portDown p s = { u with reservations := s.reservations.del i }) ∧
        ∀ q, lowestPort s Port.waitsFull = some q →
          portDown p s = modPort q (queried none) { u with reservations := s.reservations.put i q.val }) ∧
    ((∀ q ∈ s.reservations, q.2 ≠ p.val) → ∀ i, s.ports[p].requeriedFor = some i →
      ((∀ e x, findId s i = some (e, x) → x.port.isSome = true) → portDown p s = u) ∧
      ∀ e x, findId s i = some (e, x) → x.port = none →
        (lowestPort s (Port.waitsFor i) = none → portDown p s = u) ∧
        ∀ q, lowestPort s (Port.waitsFor i) = some q → portDown p s = modPort q (queried (some i)) u) := by
  subst hu hq
  have hlink : s.ports[p].link ≠ .unlisted := by rw [h]; nofun
  have hfull : lowestPort (modPort p (fun _ => {}) s) Port.waitsFull = lowestPort s Port.waitsFull :=
    lowestPort_reset (fun y => waitsFull_of_linked) hlink
  have hdup : ∀ i, lowestPort (modPort p (fun _ => {}) s) (Port.waitsFor i) = lowestPort s (Port.waitsFor i) := fun i =>
    lowestPort_reset (fun y => waitsFor_of_linked) hlink
  have hnone : (∀ q ∈ s.reservations, q.2 ≠ p.val) →
      releaseReservation p (modPort p (fun _ => {}) s) = modPort p (fun _ => {}) s := fun hr =>
    releaseReservation_of_none (reservedFor_eq_none.2 hr)
  rw [portDown_of_querying h]
  refine ⟨fun hreq => ?_, fun hres i hreq => ?_⟩
  · rw [hreq, passRequery_none]
    refine ⟨hnone, fun i hi => ?_⟩
    rw [releaseReservation_of_some (s := modPort p (fun _ => {}) s) hi]
    exact ⟨fun hlow => reserveEntry_of_none (hfull.trans hlow), fun q hlow => reserveEntry_of_some (hfull.trans hlow)⟩
  · rw [hreq, hnone hres]
    refine ⟨fun hall => passRequery_of_present (s := modPort p (fun _ => {}) s) hall, fun e x hf hx => ?_⟩
    rw [passRequery_of_absent (s := modPort p (fun _ => {}) s) hf hx]
    exact ⟨fun hlow => requeryDuplicate_of_none ((hdup i).trans hlow),
      fun q hlow => requeryDuplicate_of_some ((hdup i).trans hlow)⟩

/-- Settles O39, event by event. -/
theorem portEventsFollowTheLink : Obligations.PortEventsFollowTheLink := by
  unfold Obligations.PortEventsFollowTheLink
  refine ⟨fun s => rfl, fun p s hs => ⟨fun h => ?_, fun h ha => ?_, fun h ha => ?_, fun h => ?_⟩,
    fun p s hs => ⟨fun h => ?_, fun h => ?_, fun h => ?_, fun h => ?_, fun hd ha => ⟨fun hm => ?_, fun hm => ?_⟩, fun h => ?_,
      fun h => ?_, fun h hq => ?_, fun h => ?_⟩,
    fun p e x s ht hb hatt ha hx hn => ?_, fun p s u hu => ⟨portDown_of_down, fun h => ?_, fun queried hq => ?_⟩⟩
  · exact leaves_fill_of_eq hs (counted_of_down h)
  · exact leaves_fill_of_eq hs (counted_of_aligning h ha)
  · exact leaves_fill_of_eq hs (counted_of_aligned h ha)
  · refine leaves_fill_of_eq hs (counted_of_linked ?_ ?_) <;> rcases h with h | h | h <;> rw [h] <;> nofun
  · exact leaves_of_eq (f := lineActivity p) hs (if_pos h)
  · exact leaves_of_eq (f := lineActivity p) hs (if_neg h)
  · exact leaves_of_eq (f := takeMalformed p) hs (takeMalformed_of_down h)
  · exact leaves_of_eq (f := takeMalformed p) hs (takeMalformed_of_aligning h)
  · exact leaves_of_eq (f := takeMalformed p) hs ((takeMalformed_of_linked hd ha).trans (if_neg (by omega)))
  · exact leaves_of_eq (f := takeMalformed p) hs ((takeMalformed_of_linked hd ha).trans (if_pos (by omega)))
  · exact leaves_of_eq (f := fun s => if s.ports[p].silence.isSome then portDown p s else s) hs (if_pos h)
  · exact leaves_of_eq (f := fun s => if s.ports[p].silence.isSome then portDown p s else s) hs
      (if_neg (by rw [h]; nofun))
  · exact leaves_of_eq (f := queryExpiry p) hs (if_pos ⟨h, hq⟩)
  · refine leaves_of_eq (f := queryExpiry p) hs (if_neg fun ⟨hl, hq⟩ => ?_)
    rcases h with h | h
    · exact h hl
    · rw [h] at hq
      cases hq
  · rw [portDown_of_attached ha]
    exact detachLeaves_detach ht hb hatt ha hx hn
  · rw [hu]
    rcases h with h | h
    · exact portDown_of_other (by rw [h]; nofun) (by rw [h]; nofun) fun hup => nomatch h.symm.trans hup
    · exact portDown_of_other (by rw [h]; nofun) (by rw [h]; nofun) fun hup => nomatch h.symm.trans hup
  · have hqueried : queried = Port.toQuerying := funext fun f => funext fun y => hq f y
    exact ⟨fun h => (portDown_requeries hu hqueried h).1, fun h => (portDown_requeries hu hqueried h).2⟩

end Sys2Proof.Machine
end

section
/-! Requests that name stations by address, and RESET_PORT (R55, R62–R64). -/

set_option Elab.async false

namespace Sys2Proof.Machine

variable {s t u : State} {p q : Fin 16} {e n j : Nat} {x y : Entry} {a : StationId} {on : Bool} {l : List Nat}

/-! Addresses (R62) -/

theorem addressOk_iff : addressOk a = true ↔ a.maker ≠ 65535 ∨ a.serial = 4294967295 := by
  rw [addressOk, Bool.or_eq_true, decide_eq_true_iff, decide_eq_true_iff]

theorem addressMatches_iff : addressMatches a x = true ↔
    (a.serial ≠ 4294967295 ∧ x.id = a) ∨ (a.serial = 4294967295 ∧ a.maker ≠ 65535 ∧ x.id.maker = a.maker) ∨
      (a.serial = 4294967295 ∧ a.maker = 65535) := by
  unfold addressMatches
  by_cases hs : a.serial = 4294967295
  · rw [if_pos hs, Bool.or_eq_true, decide_eq_true_iff, decide_eq_true_iff]
    by_cases hm : a.maker = 65535 <;> simp [hs, hm]
  · rw [if_neg hs, decide_eq_true_iff]
    simp [hs]

theorem matching_nodup (ht : TablesOk s) (a : StationId) : (matching s a).Nodup := by
  have hsub : (matching s a).Sublist (s.entries.map Prod.fst) := List.filter_sublist.map _
  exact ((entriesWf ht).1.imp fun h => h.ne).sublist hsub

theorem mem_matching (ht : TablesOk s) : e ∈ matching s a ↔ ∃ x, s.entries.get e = some x ∧ addressMatches a x = true := by
  rw [matching, List.mem_map]
  constructor
  · rintro ⟨⟨k, x⟩, hm, rfl⟩
    obtain ⟨hmem, hmatch⟩ := List.mem_filter.1 hm
    exact ⟨x, Tab.get_of_mem (entriesWf ht) hmem, hmatch⟩
  · rintro ⟨x, hx, hmatch⟩
    exact ⟨(e, x), List.mem_filter.2 ⟨Tab.mem_of_get hx, hmatch⟩, rfl⟩

/-! The identify lamp (R63) -/

theorem get_entries_setIdentify_self (hx : s.entries.get e = some x) :
    (setIdentify on s e).entries.get e = some { x with identify := on } := by
  rw [setIdentify, onQueues_entries]
  exact get_entries_modEntry_self _ hx

theorem get_entries_setIdentify_ne (hj : j ≠ e) : (setIdentify on s e).entries.get j = s.entries.get j := by
  rw [setIdentify, onQueues_entries]
  exact get_entries_modEntry_ne _ hj

theorem ports_setIdentify_self (hx : s.entries.get e = some x) (hp : x.port = some q) : (setIdentify on s e).ports[q] =
    { s.ports[q] with queues := { s.ports[q].queues with identify := some on } } := by
  rw [setIdentify, ports_onQueues_self _ (get_entries_modEntry_self _ hx) hp]
  rfl

theorem ports_setIdentify_of_ne (hp : ∀ x, s.entries.get e = some x → x.port ≠ some q) :
    (setIdentify on s e).ports[q] = s.ports[q] := by
  cases hx : s.entries.get e with
  | none =>
    rw [setIdentify, onQueues_of_none]
    · rfl
    · rw [modEntry_entries, Tab.modify_eq_self _ hx, hx]
  | some x =>
    rw [setIdentify, ports_onQueues_of_ne _ (get_entries_modEntry_self _ hx) (hp x hx)]
    rfl

theorem setIdentify_frame (on : Bool) (s : State) (e : Nat) : setIdentify on s e =
    { s with entries := (setIdentify on s e).entries, ports := (setIdentify on s e).ports } := by
  rw [setIdentify, onQueues_frame]
  rfl

/-- An entry of the list is attached to port `q`. -/
def ReachesPort (s : State) (l : List Nat) (q : Fin 16) : Prop :=
  ∃ e ∈ l, ∃ x, s.entries.get e = some x ∧ x.port = some q

/-- From `s` to `t` the entries of a list have their identify lamp set. -/
structure Identified (on : Bool) (l : List Nat) (s t : State) : Prop where
  frame : t = { s with entries := t.entries, ports := t.ports }
  entry : ∀ e x, s.entries.get e = some x → t.entries.get e = some (if e ∈ l then { x with identify := on } else x)
  told : ∀ q : Fin 16, ReachesPort s l q →
    t.ports[q] = { s.ports[q] with queues := { s.ports[q].queues with identify := some on } }
  quiet : ∀ q : Fin 16, ¬ ReachesPort s l q → t.ports[q] = s.ports[q]

theorem get_entries_setIdentify (hx : s.entries.get j = some x) :
    (setIdentify on s e).entries.get j = some (if j = e then { x with identify := on } else x) := by
  by_cases hj : j = e
  · rw [hj] at hx ⊢
    rw [if_pos rfl]
    exact get_entries_setIdentify_self hx
  · rw [if_neg hj, get_entries_setIdentify_ne hj, hx]

/-- Which ports a list of entries reaches does not depend on the lamps. -/
theorem reachesPort_setIdentify : ReachesPort (setIdentify on s e) l q ↔ ReachesPort s l q := by
  refine exists_congr fun j => and_congr_right fun _ => ?_
  cases hx : s.entries.get j with
  | none =>
    have hnone : (setIdentify on s e).entries.get j = none := by
      rw [setIdentify, onQueues_entries, modEntry_entries, Tab.get_modify, hx]
      split <;> rfl
    simp [hnone]
  | some x =>
    rw [get_entries_setIdentify hx]
    simp only [Option.some.injEq, exists_eq_left']
    split <;> rfl

theorem identified_foldl (l : List Nat) (s : State) : Identified on l s (l.foldl (setIdentify on) s) := by
  induction l generalizing s with
  | nil => exact ⟨rfl, fun e x hx => by rw [if_neg (by nofun)]; exact hx, fun q ⟨_, h, _⟩ => (nomatch h), fun _ _ => rfl⟩
  | cons e l ih =>
    obtain ⟨t, ht⟩ : ∃ t, (e :: l).foldl (setIdentify on) s = t := ⟨_, rfl⟩
    have hrest : Identified on l (setIdentify on s e) t := ht ▸ ih (setIdentify on s e)
    rw [ht]
    refine ⟨hrest.frame.trans (congrArg (fun v : State => { v with entries := t.entries, ports := t.ports })
      (setIdentify_frame on s e)), fun j x hx => ?_, fun q hq => ?_, fun q hq => ?_⟩
    · rw [hrest.entry j _ (get_entries_setIdentify hx)]
      by_cases hj : j = e <;> by_cases hl : j ∈ l <;> simp [hj, hl]
    · by_cases hl : ReachesPort s l q
      · rw [hrest.told q (reachesPort_setIdentify.2 hl)]
        by_cases he : ∃ x, s.entries.get e = some x ∧ x.port = some q
        · obtain ⟨x, hx, hp⟩ := he
          rw [ports_setIdentify_self hx hp]
        · rw [ports_setIdentify_of_ne fun x hx hp => he ⟨x, hx, hp⟩]
      · obtain ⟨j, hj, x, hx, hp⟩ := hq
        obtain rfl : j = e := (List.mem_cons.1 hj).resolve_right fun hj => hl ⟨j, hj, x, hx, hp⟩
        rw [hrest.quiet q fun h => hl (reachesPort_setIdentify.1 h), ports_setIdentify_self hx hp]
    · have hl : ¬ ReachesPort s l q := fun ⟨j, hj, hx⟩ => hq ⟨j, List.mem_cons_of_mem e hj, hx⟩
      rw [hrest.quiet q fun h => hl (reachesPort_setIdentify.1 h),
        ports_setIdentify_of_ne fun x hx hp => hq ⟨e, List.mem_cons_self, x, hx, hp⟩]

/-! RESET_PORT (R55) -/

/-- The judgments after a loss keep its records. -/
theorem settles_detach (hx : s.entries.get e = some x) :
    ∃ w, Settles True (requeryDuplicate x.id (stationLost p e s)) w ∧ detach e p s = arbitrate w := by
  refine ⟨_, ?_, detach_of_get hx⟩
  split
  · exact (settles_offerSlot _).trans (settles_settle _ _ _ _)
  · exact settles_settle _ _ _ _

theorem link_detach (e : Nat) (p : Fin 16) (s : State) : (detach e p s).ports[p].link = .down := by
  cases hx : s.entries.get e with
  | none =>
    rw [detach, hx]
    dsimp only
    rw [getElem_modPort_self]
  | some x =>
    have hdown := (stationGone_stationLost (p := p) hx).down
    obtain ⟨w, hsettled, hdetach⟩ := settles_detach (p := p) hx
    obtain ⟨u, hu⟩ : ∃ u, stationLost p e s = u := ⟨_, rfl⟩
    rw [hu] at hdown hsettled
    have hquiet : u.ports[p].link ≠ .unlisted := by rw [hdown]; nofun
    calc (detach e p s).ports[p].link = w.ports[p].link := by rw [hdetach, (offered_arbitrate w).port p]
      _ = (requeryDuplicate x.id u).ports[p].link := by rw [hsettled.port p]
      _ = .down := by rw [ports_requeryDuplicate hquiet, hdown]

/-- A port that goes to DOWN is in DOWN. -/
theorem link_portDown (p : Fin 16) (s : State) : (portDown p s).ports[p].link = .down := by
  have hreset : (modPort p (fun _ => {}) s).ports[p] = {} := getElem_modPort_self _ _ _
  have hquiet : (modPort p (fun _ => {}) s).ports[p].link ≠ .unlisted := by rw [hreset]; nofun
  cases hl : s.ports[p].link with
  | down => rw [portDown_of_down hl, hl]
  | querying =>
    have hkept := ports_releaseReservation (q := p) hquiet
    rw [portDown_of_querying hl, ports_passRequery (by rw [hkept]; exact hquiet), hkept, hreset]
  | aligning =>
    rw [portDown_of_other (by rw [hl]; nofun) (by rw [hl]; nofun) fun h => (nomatch hl.symm.trans h), hreset]
  | unlisted =>
    rw [portDown_of_other (by rw [hl]; nofun) (by rw [hl]; nofun) fun h => (nomatch hl.symm.trans h), hreset]
  | up =>
    cases he : s.ports[p].entry with
    | none => rw [portDown_of_other (by rw [hl]; nofun) (by rw [hl]; nofun) fun _ => he, hreset]
    | some e => rw [portDown_of_attached ⟨hl, he⟩, link_detach]

/-- The entry a detach leaves. -/
theorem detach_entry (hx : s.entries.get e = some x) : ∃ y, (detach e p s).entries.get e = some y ∧ y.port = none ∧
    y.path = [] ∧ y.view = none ∧ y.id = x.id ∧ y.name = x.name := by
  obtain ⟨z, hz, hzx⟩ := (stationGone_stationLost (p := p) hx).entry
  obtain ⟨w, hsettled, hdetach⟩ := settles_detach (p := p) hx
  obtain ⟨y, hy, hyz⟩ := hsettled.entry e z (by rw [requeryDuplicate_frame]; exact hz)
  refine ⟨y, by rw [hdetach, entries_arbitrate, hy], ?_⟩
  rw [hyz.frame, hzx]
  exact ⟨rfl, rfl, rfl, rfl, rfl⟩

theorem ownResetPort_of_lt (p : Fin 16) (s : State) :
    ownResetPort p.val s = .done (portDown p s) (.portWas s.ports[p].link) := dif_pos p.isLt

/-- Settles O21, request by request. -/
theorem addressAndPortRequests : Obligations.AddressAndPortRequests := by
  unfold Obligations.AddressAndPortRequests
  refine ⟨fun a => addressOk_iff, fun a s ht => ⟨fun hbad on => ?_, fun hok on => ?_, fun e x on hx => ?_⟩,
    fun a s ht hok => ⟨matching_nodup ht a, fun e => ?_, fun on t htt => ?_⟩, fun s ht => ⟨fun n hn => ?_, fun p hp => ?_,
      fun p t htt => ⟨?_, ?_, fun e x ha hx => ⟨?_, fun hok hb hatt hn => ?_⟩⟩⟩⟩
  · have hno : ¬ addressOk a = true := Bool.eq_false_iff.1 hbad
    exact ⟨refuses_of (v := IdentifyArgs.mk a on) (owner := ownIdentify) ht (if_neg hno),
      refuses_of (owner := ownHold true) ht (if_neg hno), refuses_of (owner := ownHold false) ht (if_neg hno)⟩
  · exact ⟨replies_of (v := IdentifyArgs.mk a on) (owner := ownIdentify) ht (if_pos hok),
      replies_of (owner := ownHold true) ht (if_pos hok), replies_of (owner := ownHold false) ht (if_pos hok)⟩
  · exact ⟨get_entries_setIdentify_self hx, rfl⟩
  · simp only [mem_matching ht, addressMatches_iff]
  · subst htt
    have hset := identified_foldl (on := on) (matching s a) s
    exact ⟨hset.frame, hset.entry, fun q => ⟨hset.told q, fun hno => hset.quiet q fun ⟨e, he, x, hx, hp⟩ => hno e he x hx hp⟩⟩
  · exact refuses_of (owner := ownResetPort) ht (dif_neg (Nat.not_lt.2 hn))
  · have hreset := ownResetPort_of_lt p s
    rw [portDown_of_down hp, hp] at hreset
    exact replies_of (owner := ownResetPort) ht hreset
  · subst htt
    exact replies_of (owner := ownResetPort) ht (ownResetPort_of_lt p s)
  · rw [htt]
    exact link_portDown p s
  · rw [htt, portDown_of_attached ha]
    exact detach_entry hx
  · rw [htt, portDown_of_attached ha]
    exact detachLeaves_detach hok hb hatt ha hx hn

end Sys2Proof.Machine
end

section
/-! A station that comes back with another store: its records go to FAULT with IMAGES_LOST (R43a, R58). -/

set_option Elab.async false

namespace Sys2Proof.Machine

variable {s t u : State} {p q : Fin 16} {e n m j : Nat} {x y : Entry} {r a : Sheet} {k : FaultCause} {l : List Nat}

/-! One record enters FAULT (R43a) -/

/-- The record may enter FAULT. -/
def Sheet.MayFault (r : Sheet) : Prop := r.state = .suspect ∨ r.state = .routing ∨ r.state = .fault

theorem enterFault_of_mayFault (hr : s.sheets.get n = some r) (hs : r.MayFault) : enterFault n k s = faultRecord n r k s := by
  rw [enterFault, hr]
  rcases hs with hs | hs | hs <;> (dsimp only; rw [hs])

theorem enterFault_of_not (h : ∀ r, s.sheets.get n = some r → ¬ r.MayFault) : enterFault n k s = s := by
  unfold enterFault
  split
  · rfl
  · next r hr =>
    have hno := h r hr
    split
    · next hs => exact absurd (.inl hs) hno
    · next hs => exact absurd (.inr (.inl hs)) hno
    · next hs => exact absurd (.inr (.inr hs)) hno
    · rfl
    · rfl

theorem ports_abandonUpload_frame (e : Nat) (s : State) (p : Fin 16) :
    (abandonUpload e s).ports[p] = { s.ports[p] with queues := (abandonUpload e s).ports[p].queues } := by
  cases hv : s.uploads.get e with
  | none => rw [abandonUpload, hv]
  | some v =>
    obtain ⟨a, ha⟩ : ∃ a, v.dests.foldl (abandonDest v.slot v.side) s = a := ⟨_, rfl⟩
    have hframe : a = { s with sheets := a.sheets, lanes := a.lanes } := ha ▸ foldl_abandonDest_frame _ _ _ s
    have hports : a.ports = s.ports := by rw [hframe]
    rw [abandonUpload_of_get hv, ha, ← hports]
    exact ports_onQueues_frame e Queues.dropUpload { a with uploads := a.uploads.del e } p

/-- What a record's images leave when its upload is abandoned and its deliveries are withdrawn. -/
structure ImagesBack (n : Nat) (s t : State) : Prop extends OnlyImages s t where
  port : ∀ p : Fin 16, t.ports[p] = { s.ports[p] with queues := t.ports[p].queues }
  other : ∀ i, i ≠ n → t.sheets.get i = s.sheets.get i

theorem ImagesBack.refl (n : Nat) (s : State) : ImagesBack n s s := ⟨.refl s, fun _ => rfl, fun _ _ => rfl⟩

theorem imagesBack_abandonUploadOf (n : Nat) (r : Sheet) (s : State) : ImagesBack n s (abandonUploadOf n r s) := by
  unfold abandonUploadOf
  split
  · exact .refl n s
  · next v hv =>
    split
    · next hn =>
      refine ⟨onlyImages_abandonUpload _ s, ports_abandonUpload_frame _ s, fun i hi => ?_⟩
      rw [sheets_abandonUpload hv]
      exact get_sheets_foldl_abandonDest_ne _ (hn ▸ hi) s
    · exact .refl n s

theorem imagesBack_withdrawDeliveries (n : Nat) (s : State) : ImagesBack n s (withdrawDeliveries n s) := by
  cases hr : s.sheets.get n with
  | none =>
    rw [withdrawDeliveries, hr]
    exact .refl n s
  | some r =>
    refine ⟨onlyImages_withdrawDeliveries n s, fun p => ?_, fun i hi => get_sheets_withdrawDeliveries_ne hr hi⟩
    rw [withdrawDeliveries_frame hr]

theorem ImagesBack.trans (h : ImagesBack n s t) (i : ImagesBack n t u) : ImagesBack n s u :=
  ⟨h.toOnlyImages.trans i.toOnlyImages, fun p => (i.port p).trans (congrArg (fun y : Port =>
    { y with queues := u.ports[p].queues }) (h.port p)), fun m hm => (i.other m hm).trans (h.other m hm)⟩

/-- What the entry of record `n`, `r`, to FAULT leaves. -/
structure Faulted (n : Nat) (r : Sheet) (k : FaultCause) (s t : State) : Prop where
  frame : t = { s with
    sheets := t.sheets, batches := t.batches, uploads := t.uploads, lanes := t.lanes, ports := t.ports
    attention := t.attention }
  port : ∀ p : Fin 16, t.ports[p] = { s.ports[p] with queues := t.ports[p].queues }
  other : ∀ i, i ≠ n → t.sheets.get i = s.sheets.get i
  sheet : ∃ q, t.sheets.get n = some q ∧ q.state = .fault ∧ q.fault = some k ∧ (k = .imagesLost → q.images = none) ∧
    q.batch = r.batch
  attention : t.attention = if r.state = .fault ∧ r.fault = some k then s.attention
    else (raise .sheetFault r.batch s).attention

theorem faulted_enterFault (hr : s.sheets.get n = some r) (hs : r.MayFault) : Faulted n r k s (enterFault n k s) := by
  obtain ⟨v, hv⟩ : ∃ v, withdrawDeliveries n (abandonUploadOf n r s) = v := ⟨_, rfl⟩
  have hback : ImagesBack n s v :=
    hv ▸ (imagesBack_abandonUploadOf n r s).trans (imagesBack_withdrawDeliveries n _)
  obtain ⟨a, ha, har⟩ := get_sheets_of_bareSheets hback.bare hr
  obtain ⟨w, hw⟩ : ∃ w, (if r.state = .routing then modBatch r.batch (fun b => { b with openSuspects := b.openSuspects + 1 })
    (modSheet n (Sheet.toFault k) v) else modSheet n (Sheet.toFault k) v) = w := ⟨_, rfl⟩
  have hwframe : w = { v with sheets := v.sheets.modify n (Sheet.toFault k), batches := w.batches } := by
    rw [← hw]
    split <;> rfl
  have hwattn : w.attention = s.attention := by rw [hwframe, hback.frame]
  have hwroom : w.room = s.room := by rw [hwframe, hback.frame]
  have hfault : enterFault n k s =
      if r.state = .fault ∧ r.fault = some k then w else raise .sheetFault r.batch w := by
    rw [enterFault_of_mayFault hr hs, faultRecord, hv, hw]
  have hkeep : enterFault n k s = { w with attention := (enterFault n k s).attention } := by
    rw [hfault]
    split
    · rfl
    · rw [raise_frame]
  have hsheets : (enterFault n k s).sheets = v.sheets.modify n (Sheet.toFault k) := by rw [hkeep, hwframe]
  have hports : (enterFault n k s).ports = v.ports := by rw [hkeep, hwframe]
  obtain ⟨u, hu⟩ : ∃ u, enterFault n k s = u := ⟨_, rfl⟩
  rw [hu] at hfault hkeep hsheets hports ⊢
  refine ⟨?_, fun p => by rw [hports]; exact hback.port p, fun i hi => ?_, ⟨a.toFault k, ?_, rfl, rfl, fun hk => if_pos hk, ?_⟩,
    ?_⟩
  · have hvframe := hback.frame
    calc u = { w with attention := u.attention } := hkeep
      _ = { v with sheets := w.sheets, batches := w.batches, attention := u.attention } := by rw [hwframe]
      _ = { s with
          sheets := w.sheets, batches := w.batches, uploads := v.uploads, lanes := v.lanes, ports := v.ports
          attention := u.attention } :=
        congrArg (fun a : State => { a with sheets := w.sheets, batches := w.batches, attention := u.attention }) hvframe
      _ = _ := by rw [hkeep, hwframe]
  · rw [hsheets, Tab.get_modify_other _ _ hi, hback.other i hi]
  · rw [hsheets, Tab.get_modify_self, ha, Option.map_some]
  · rw [har]
    rfl
  · rw [hfault]
    split
    · exact hwattn
    · exact raise_attention_congr hwattn hwroom

/-! The records of a store that is gone (R58) -/

/-- The record's images are lost. -/
def Sheet.ImagesGone (r : Sheet) : Prop := r.state = .fault ∧ r.fault = some .imagesLost ∧ r.images = none

/-- What the entry of some records to FAULT with IMAGES_LOST leaves. -/
structure StoreGone (l : List Nat) (s t : State) : Prop where
  frame : t = { s with
    sheets := t.sheets, batches := t.batches, uploads := t.uploads, lanes := t.lanes, ports := t.ports
    attention := t.attention }
  port : ∀ p : Fin 16, t.ports[p] = { s.ports[p] with queues := t.ports[p].queues }
  raised : ∀ a ∈ s.attention, a ∈ t.attention
  bounded : (∀ m r, s.sheets.get m = some r → r.batch < 48) → (∀ a ∈ s.attention, a.2 < 256) →
    (∀ m r, t.sheets.get m = some r → r.batch < 48) ∧ ∀ a ∈ t.attention, a.2 < 256
  kept : ∀ n, n ∉ l → t.sheets.get n = s.sheets.get n
  stay : ∀ n r, s.sheets.get n = some r → r.ImagesGone → ∃ q, t.sheets.get n = some q ∧ q.ImagesGone
  gone : ∀ n ∈ l, ∀ r, s.sheets.get n = some r → r.MayFault → ∃ q, t.sheets.get n = some q ∧ q.ImagesGone
  told : (∀ m r, s.sheets.get m = some r → r.batch < 48) → (∀ a ∈ s.attention, a.2 < 256) →
    AttnKind.sheetFault ∉ s.room.mask → ∀ n ∈ l, ∀ r, s.sheets.get n = some r → r.MayFault → r.fault ≠ some .imagesLost →
    (.sheetFault, r.batch) ∈ t.attention

theorem StoreGone.refl (s : State) : StoreGone [] s s where
  frame := rfl
  port _ := rfl
  raised _ := id
  bounded hb ha := ⟨hb, ha⟩
  kept _ _ := rfl
  stay _ r hr hg := ⟨r, hr, hg⟩
  gone := nofun
  told _ _ _ := nofun

theorem storeGone_enterFault (n : Nat) (s : State) : StoreGone [n] s (enterFault n .imagesLost s) := by
  by_cases hmay : ∃ r, s.sheets.get n = some r ∧ r.MayFault
  · obtain ⟨r, hr, hs⟩ := hmay
    have hfault := faulted_enterFault (k := .imagesLost) hr hs
    obtain ⟨t, ht⟩ : ∃ t, enterFault n .imagesLost s = t := ⟨_, rfl⟩
    rw [ht] at hfault ⊢
    obtain ⟨q, hq, hstate, hcause, himages, hbatch⟩ := hfault.sheet
    have hgone : q.ImagesGone := ⟨hstate, hcause, himages rfl⟩
    refine ⟨hfault.frame, hfault.port, fun a ha => ?_, fun hb ha => ⟨fun m c hm => ?_, ?_⟩, fun m hm =>
      hfault.other m fun h => hm (List.mem_singleton.2 h), fun m c hm hc => ?_, fun m hm c hc _ => ?_,
      fun hb ha hmask m hm c hc _ hne => ?_⟩
    · rw [hfault.attention]
      split
      · exact ha
      · exact mem_attention_raise ha
    · by_cases hmn : m = n
      · subst hmn
        cases hq.symm.trans hm
        rw [hbatch]
        exact hb m r hr
      · exact hb m c ((hfault.other m hmn).symm.trans hm)
    · rw [hfault.attention]
      split
      · exact ha
      · exact attention_lt_raise ((hb n r hr).trans (by decide)) ha
    · by_cases hmn : m = n
      · subst hmn
        exact ⟨q, hq, hgone⟩
      · exact ⟨c, (hfault.other m hmn).trans hm, hc⟩
    · obtain rfl := List.mem_singleton.1 hm
      exact ⟨q, hq, hgone⟩
    · obtain rfl := List.mem_singleton.1 hm
      cases hr.symm.trans hc
      rw [hfault.attention, if_neg fun h => hne h.2]
      exact mem_attention_raise_self hmask ((hb m r hr).trans (by decide)) ha
  · have hno : ∀ r, s.sheets.get n = some r → ¬ r.MayFault := fun r hr hs => hmay ⟨r, hr, hs⟩
    rw [enterFault_of_not hno]
    refine { StoreGone.refl s with kept := fun _ _ => rfl, gone := fun m hm r hr hs => ?_, told := fun _ _ _ m hm r hr hs => ?_ }
    · obtain rfl := List.mem_singleton.1 hm
      exact absurd hs (hno r hr)
    · obtain rfl := List.mem_singleton.1 hm
      exact absurd hs (hno r hr)

theorem storeGone_foldl (l : List Nat) (s : State) :
    StoreGone l s (l.foldl (fun t n => enterFault n .imagesLost t) s) := by
  induction l generalizing s with
  | nil => exact .refl s
  | cons n l ih =>
    have hfirst := storeGone_enterFault n s
    obtain ⟨v, hv⟩ : ∃ v, enterFault n .imagesLost s = v := ⟨_, rfl⟩
    rw [List.foldl_cons, hv]
    rw [hv] at hfirst
    have hrest := ih v
    obtain ⟨t, ht⟩ : ∃ t, l.foldl (fun t n => enterFault n .imagesLost t) v = t := ⟨_, rfl⟩
    rw [ht] at hrest ⊢
    have hroom : v.room = s.room := by rw [hfirst.frame]
    refine ⟨hrest.frame.trans (congrArg (fun w : State => { w with
        sheets := t.sheets, batches := t.batches, uploads := t.uploads, lanes := t.lanes, ports := t.ports
        attention := t.attention }) hfirst.frame), fun p => (hrest.port p).trans (congrArg (fun y : Port =>
          { y with queues := t.ports[p].queues }) (hfirst.port p)), fun a ha => hrest.raised a (hfirst.raised a ha),
      fun hb ha => ?_, fun m hm => ?_, fun m r hr hg => ?_, fun m hm r hr hs => ?_, fun hb ha hmask m hm r hr hs hne => ?_⟩
    · obtain ⟨hb', ha'⟩ := hfirst.bounded hb ha
      exact hrest.bounded hb' ha'
    · rw [hrest.kept m fun h => hm (List.mem_cons_of_mem n h), hfirst.kept m fun h => hm ?_]
      exact List.mem_singleton.1 h ▸ List.mem_cons_self
    · obtain ⟨q, hq, hqg⟩ := hfirst.stay m r hr hg
      exact hrest.stay m q hq hqg
    · by_cases hmn : m = n
      · obtain ⟨q, hq, hqg⟩ := hfirst.gone m (List.mem_singleton.2 hmn) r hr hs
        exact hrest.stay m q hq hqg
      · have hget := (hfirst.kept m fun h => hmn (List.mem_singleton.1 h)).trans hr
        exact hrest.gone m ((List.mem_cons.1 hm).resolve_left hmn) r hget hs
    · by_cases hmn : m = n
      · exact hrest.raised _ (hfirst.told hb ha hmask m (List.mem_singleton.2 hmn) r hr hs hne)
      · obtain ⟨hb', ha'⟩ := hfirst.bounded hb ha
        have hget := (hfirst.kept m fun h => hmn (List.mem_singleton.1 h)).trans hr
        exact hrest.told hb' ha' (hroom ▸ hmask) m ((List.mem_cons.1 hm).resolve_left hmn) r hget hs hne

end Sys2Proof.Machine
end

section
/-! What an attach leaves of the entry, its port, the directory and the records (R43, R43a, R58, R75). -/

set_option Elab.async false

namespace Sys2Proof.Machine

variable {s t u v : State} {p q : Fin 16} {e n m j : Nat} {x y z : Entry} {r a : Sheet} {l : List Nat} {w : Ident}

/-! The state that is judged -/

/-- The records that lose their images with the store of entry `x` at an IDENT. -/
def lostRecords (s : State) (e : Nat) (x : Entry) (w : Ident) : List Nat :=
  match x.epoch with
  | some o => if o = w.epoch then [] else storeRecords s e
  | none => []

/-- The state an attach leaves before the judgments. -/
def attachReady (e : Nat) (p : Fin 16) (x : Entry) (w : Ident) (s : State) : State :=
  modEntry e (Entry.attached p w)
    (modPort p (fun _ => { attachedPort s e x (decide (x.epoch = some w.epoch)) with
      line := some (s.ports[p].line.getD (timeWord s)) })
      ((lostRecords s e x w).foldl (fun t n => enterFault n .imagesLost t) s))

theorem attach_of_get (hx : s.entries.get e = some x) : attach e p w s =
    arbitrate (settle ((lostRecords s e x w).filterMap fun n => (s.sheets.get n).map (·.batch)) [e] s.lastAlloc
      (attachReady e p x w s)) := by
  unfold attach
  rw [hx]
  rfl

theorem lostRecords_of_kept (h : x.epoch = none ∨ x.epoch = some w.epoch) : lostRecords s e x w = [] := by
  unfold lostRecords
  rcases h with h | h <;> rw [h]
  exact if_pos rfl

theorem mem_lostRecords {o : Nat} (ho : x.epoch = some o) (hne : o ≠ w.epoch) (hr : s.sheets.get n = some r)
    (hst : r.station = e) (hs : r.MayFault) : n ∈ lostRecords s e x w := by
  unfold lostRecords
  rw [ho]
  dsimp only
  rw [if_neg hne, storeRecords]
  refine List.mem_map.2 ⟨(n, r), List.mem_filter.2 ⟨Tab.mem_of_get hr, ?_⟩, rfl⟩
  rcases hs with h | h | h <;> simp [hst, h]

/-- What is ready to be judged at an attach. -/
structure AttachReady (e : Nat) (p : Fin 16) (x : Entry) (w : Ident) (s t : State) : Prop where
  frame : t = { s with
    entries := t.entries, sheets := t.sheets, batches := t.batches, uploads := t.uploads, lanes := t.lanes
    ports := t.ports, attention := t.attention }
  entries : t.entries = s.entries.modify e (Entry.attached p w)
  port : t.ports[p] = { attachedPort s e x (decide (x.epoch = some w.epoch)) with
    line := some (s.ports[p].line.getD (timeWord s)) }
  ports : ∀ q : Fin 16, q ≠ p → t.ports[q] = { s.ports[q] with queues := t.ports[q].queues }

theorem attachReady_spec (e : Nat) (p : Fin 16) (x : Entry) (w : Ident) (s : State) :
    AttachReady e p x w s (attachReady e p x w s) := by
  have hgone := storeGone_foldl (lostRecords s e x w) s
  obtain ⟨u, hu⟩ : ∃ u, (lostRecords s e x w).foldl (fun t n => enterFault n .imagesLost t) s = u := ⟨_, rfl⟩
  have hready : attachReady e p x w s = modEntry e (Entry.attached p w) (modPort p (fun _ =>
      { attachedPort s e x (decide (x.epoch = some w.epoch)) with line := some (s.ports[p].line.getD (timeWord s)) }) u) := by
    rw [attachReady, hu]
  rw [hu] at hgone
  have hentries : u.entries = s.entries := by rw [hgone.frame]
  obtain ⟨t, ht⟩ : ∃ t, attachReady e p x w s = t := ⟨_, rfl⟩
  rw [ht] at hready ⊢
  have hframe : t = { u with entries := t.entries, ports := t.ports } := by
    rw [hready]
    rfl
  refine ⟨?_, by rw [hready, modEntry_entries, modPort_entries, hentries],
    by rw [hready, modEntry_ports, getElem_modPort_self], fun q hq => ?_⟩
  · have hother : t.sheets = u.sheets ∧ t.batches = u.batches ∧ t.uploads = u.uploads ∧ t.lanes = u.lanes ∧
        t.attention = u.attention := by
      rw [hframe]
      exact ⟨rfl, rfl, rfl, rfl, rfl⟩
    obtain ⟨hs, hb, hul, hl, ha⟩ := hother
    rw [hs, hb, hul, hl, ha]
    exact hframe.trans (congrArg (fun a : State => { a with entries := t.entries, ports := t.ports }) hgone.frame)
  · rw [hready, modEntry_ports, getElem_modPort_ne _ _ hq]
    exact hgone.port q

/-! The attach -/

/-- What the attach of entry `e`, `x`, to port `p` leaves of the entries and the ports. -/
structure Attached (e : Nat) (p : Fin 16) (x : Entry) (w : Ident) (s t : State) : Prop where
  reservations : t.reservations = s.reservations
  room : t.room = s.room
  entry : ∃ y, t.entries.get e = some y ∧ y = { x.attached p w with
    bound := y.bound, feed := y.feed, cause := y.cause, nextTag := y.nextTag, liveCount := y.liveCount
    traySeenEmpty := y.traySeenEmpty } ∧ (x.feed = .idle → x.bound = none → y.feed = .idle ∧ y.bound = none)
  other : ∀ j z, j ≠ e → s.entries.get j = some z → ∃ y, t.entries.get j = some y ∧ y.id = z.id ∧ y.port = z.port
  absent : ∀ j, j ≠ e → s.entries.get j = none → t.entries.get j = none
  port : ∃ g u, t.ports[p] = { attachedPort s e x (decide (x.epoch = some w.epoch)) with
    line := some (s.ports[p].line.getD (timeWord s))
    queues := { (attachedPort s e x (decide (x.epoch = some w.epoch))).queues with grant := g, upload := u } }
  ports : ∀ q : Fin 16, q ≠ p → t.ports[q] = { s.ports[q] with queues := t.ports[q].queues }

theorem attached_attach (hx : s.entries.get e = some x) : Attached e p x w s (attach e p w s) := by
  have hready := attachReady_spec e p x w s
  obtain ⟨u, hu⟩ : ∃ u, attachReady e p x w s = u := ⟨_, rfl⟩
  obtain ⟨v, hv⟩ : ∃ v, settle ((lostRecords s e x w).filterMap fun n => (s.sheets.get n).map (·.batch)) [e] s.lastAlloc u = v :=
    ⟨_, rfl⟩
  have hsettled : Settles True u v := hv ▸ settles_settle _ _ _ u
  have hjudged : Judged u v := hv ▸ judged_settle _ _ _ u
  have hoffered := offered_arbitrate v
  have harb := arbitrated_arbitrate v
  rw [attach_of_get hx, hu, hv]
  rw [hu] at hready
  obtain ⟨t, ht⟩ : ∃ t, arbitrate v = t := ⟨_, rfl⟩
  have hentries : t.entries = v.entries := ht ▸ entries_arbitrate v
  rw [ht] at hoffered harb ⊢
  have hget : u.entries.get e = some (x.attached p w) := by rw [hready.entries, Tab.get_modify_self, hx, Option.map_some]
  have hne : ∀ j, j ≠ e → u.entries.get j = s.entries.get j := fun j hj => by
    rw [hready.entries, Tab.get_modify_other _ _ hj]
  refine ⟨by rw [harb.frame, hjudged.frame, hready.frame], by rw [harb.frame, hjudged.frame, hready.frame], ?_,
    fun j z hj hz => ?_, fun j hj hz => ?_, ⟨t.ports[p].queues.grant, t.ports[p].queues.upload, ?_⟩, fun q hq => ?_⟩
  · obtain ⟨y, hy, hyx⟩ := hsettled.entry e _ hget
    refine ⟨y, by rw [hentries, hy], hyx.frame, fun hfeed hbound => ?_⟩
    rcases hyx.feed with ⟨hf, -, hb⟩ | ⟨-, -, hf, -, hb⟩
    · exact ⟨hf.trans hfeed, hb.trans hbound⟩
    · exact ⟨hf, hb⟩
  · obtain ⟨y, hy, hyz⟩ := hsettled.entry j z ((hne j hj).trans hz)
    exact ⟨y, by rw [hentries, hy], by rw [hyz.frame], by rw [hyz.frame]⟩
  · rw [hentries]
    exact hsettled.absent j ((hne j hj).trans hz)
  · have hgrant : t.ports[p].queues.grant = v.ports[p].queues.grant := by rw [hoffered.port p]
    rw [hgrant]
    calc t.ports[p] = { v.ports[p] with queues := { v.ports[p].queues with upload := t.ports[p].queues.upload } } :=
          hoffered.port p
      _ = { u.ports[p] with queues := { u.ports[p].queues with
          grant := v.ports[p].queues.grant, upload := t.ports[p].queues.upload } } :=
        congrArg (fun y : Port => { y with queues := { y.queues with upload := t.ports[p].queues.upload } }) (hsettled.port p)
      _ = _ := by rw [hready.port]
  · have hport : t.ports[q] = { u.ports[q] with queues := t.ports[q].queues } := by
      rw [harb.ports q, hjudged.ports q]
    rw [hready.ports q hq] at hport
    exact hport

/-- An idle station waits for no grant. -/
theorem grantReady_of_idle (hx : s.entries.get e = some x) (hf : x.feed = .idle) : grantReady s e = false := by
  by_contra hr
  rw [Bool.not_eq_false] at hr
  exact nomatch hf.symm.trans (running_of_grantReady hr hx)

theorem foldl_rejudge_of_not (h : ∀ e ∈ l, grantReady s e = false) : l.foldl (fun t e => rejudge e t) s = s := by
  induction l with
  | nil => rfl
  | cons e l ih =>
    rw [List.foldl_cons, rejudge_of_not (h e List.mem_cons_self)]
    exact ih fun j hj => h j (List.mem_cons_of_mem e hj)

/-- The attach of a new entry raises nothing. -/
theorem attention_attach (hx : s.entries.get e = some x) (he : x.epoch = none) (hf : x.feed = .idle) :
    (attach e p w s).attention = s.attention := by
  have hlost : lostRecords s e x w = [] := lostRecords_of_kept (.inl he)
  have hready := attachReady_spec e p x w s
  have hattn : (attachReady e p x w s).attention = s.attention := by
    rw [attachReady, hlost]
    rfl
  obtain ⟨u, hu⟩ : ∃ u, attachReady e p x w s = u := ⟨_, rfl⟩
  rw [hu] at hready hattn
  have hget : u.entries.get e = some (x.attached p w) := by rw [hready.entries, Tab.get_modify_self, hx, Option.map_some]
  have hquiet : settle [] [e] s.lastAlloc u = u := by
    rw [settle, rejudgeAll]
    refine foldl_rejudge_of_not fun j hj => ?_
    obtain rfl : j = e := by simpa using (List.mem_filter.1 hj).2
    exact grantReady_of_idle hget hf
  rw [attach_of_get hx, hlost, hu, List.filterMap_nil, hquiet, (arbitrated_arbitrate u).frame]
  exact hattn

/-- Where the store is the same, an attach keeps every record but its delivery entries. -/
theorem get_sheets_attach_of_kept (hx : s.entries.get e = some x) (he : x.epoch = none ∨ x.epoch = some w.epoch)
    (hr : s.sheets.get n = some r) :
    ∃ q, (attach e p w s).sheets.get n = some q ∧ q = { r with deliveries := q.deliveries } := by
  have hsheets : (attachReady e p x w s).sheets = s.sheets := by
    rw [attachReady, lostRecords_of_kept he]
    rfl
  rw [attach_of_get hx]
  exact get_sheets_of_bareSheets (offered_arbitrate _).bare ((settles_settle _ _ _ _).sheet n r (hsheets ▸ hr))

/-- Where the store is another, a record of the station that may fault has lost its images (R58). -/
theorem get_sheets_attach_of_lost {o : Nat} (hx : s.entries.get e = some x) (ho : x.epoch = some o) (hne : o ≠ w.epoch)
    (hr : s.sheets.get n = some r) (hst : r.station = e) (hs : r.MayFault) :
    (∃ q, (attach e p w s).sheets.get n = some q ∧ q.ImagesGone) ∧
    ((∀ m r, s.sheets.get m = some r → r.batch < 48) → (∀ a ∈ s.attention, a.2 < 256) →
      AttnKind.sheetFault ∉ s.room.mask → r.fault ≠ some .imagesLost → (.sheetFault, r.batch) ∈ (attach e p w s).attention) := by
  have hgone := storeGone_foldl (lostRecords s e x w) s
  have hmem := mem_lostRecords ho hne hr hst hs
  have hsame : (attachReady e p x w s).sheets = ((lostRecords s e x w).foldl (fun t n => enterFault n .imagesLost t) s).sheets ∧
      (attachReady e p x w s).attention =
        ((lostRecords s e x w).foldl (fun t n => enterFault n .imagesLost t) s).attention := ⟨rfl, rfl⟩
  obtain ⟨hsheets, hattn⟩ := hsame
  obtain ⟨u, hu⟩ : ∃ u, attachReady e p x w s = u := ⟨_, rfl⟩
  rw [hu] at hsheets hattn
  rw [attach_of_get hx, hu]
  have hsettled : Settles True u (settle ((lostRecords s e x w).filterMap fun n => (s.sheets.get n).map (·.batch)) [e]
    s.lastAlloc u) := settles_settle _ _ _ u
  refine ⟨?_, fun hb ha hmask hf => ?_⟩
  · obtain ⟨a, ha, hgone⟩ := hgone.gone n hmem r hr hs
    obtain ⟨q, hq, hqa⟩ := get_sheets_of_bareSheets (offered_arbitrate _).bare (hsettled.sheet n a (hsheets ▸ ha))
    refine ⟨q, hq, ?_⟩
    rw [hqa]
    exact hgone
  · rw [(arbitrated_arbitrate _).frame]
    refine hsettled.raised _ ?_
    rw [hattn]
    exact hgone.told hb ha hmask n hmem r hr hs hf

end Sys2Proof.Machine
end

section
/-! A valid IDENT is looked up in the directory (R43, R51–R53). -/

set_option Elab.async false

namespace Sys2Proof.Machine

variable {s t u v : State} {p q : Fin 16} {e n m j k : Nat} {x y z : Entry} {w : Ident} {i : StationId}
  {f : Option StationId}

/-! Finding by ID -/

theorem findId_eq_none : findId s i = none ↔ ∀ p ∈ s.entries, p.2.id ≠ i := by
  simp [findId, Tab.find]

theorem findId_spec {a : Nat × Entry} (h : findId s i = some a) : a ∈ s.entries ∧ a.2.id = i := by
  obtain ⟨hm, hq⟩ := Tab.find_spec (k := a.1) (v := a.2) h
  exact ⟨hm, of_decide_eq_true hq⟩

theorem get_of_findId (ht : TablesOk s) (h : findId s i = some (e, x)) : s.entries.get e = some x ∧ x.id = i :=
  ⟨Tab.get_of_mem (entriesWf ht) (findId_spec h).1, (findId_spec h).2⟩

theorem findId_congr (h : t.entries = s.entries) : findId t i = findId s i := by rw [findId, findId, h]

/-! Available entries (R51 case 3) -/

theorem availableEntry_of_reserved (h : reservedFor s p = some n) : availableEntry s p = some n := by
  rw [availableEntry, h]

theorem availableEntry_of_free (h : reservedFor s p = none) : availableEntry s p = some n ↔
    n < 24 ∧ s.entries.get n = none ∧ s.reservations.get n = none ∧
      ∀ j < n, s.entries.get j ≠ none ∨ s.reservations.get j ≠ none := by
  rw [availableEntry, h]
  dsimp only
  rw [List.find?_range_eq_some]
  simp only [Bool.and_eq_true, Option.isNone_iff_eq_none, List.mem_range, Bool.not_eq_true', Bool.and_eq_false_iff,
    Option.isNone_eq_false_iff, Option.isSome_iff_ne_none]
  exact ⟨fun ⟨⟨he, hr⟩, hlt, hall⟩ => ⟨hlt, he, hr, hall⟩, fun ⟨hlt, he, hr, hall⟩ => ⟨⟨he, hr⟩, hlt, hall⟩⟩

theorem lowestPort_eq_some {g : Port → Bool} :
    lowestPort s g = some p ↔ g s.ports[p] = true ∧ ∀ q : Fin 16, q < p → g s.ports[q] = false := by
  have hget : ∀ (n : Nat) (hn : n < allPorts.length), (allPorts[n]).val = n := fun n hn => by simp [allPorts]
  rw [lowestPort, List.find?_eq_some_iff_getElem]
  refine and_congr_right fun _ => ⟨?_, fun hall => ⟨p.val, ?_, ?_, fun j hj => ?_⟩⟩
  · rintro ⟨n, hn, rfl, hall⟩ q hq
    have hlt : q.val < n := lt_of_lt_of_eq (Fin.lt_def.1 hq) (hget n hn)
    have hno := hall q.val hlt
    rw [Fin.ext (hget q.val (hlt.trans hn))] at hno
    simpa using hno
  · simp [allPorts]
  · exact Fin.ext (hget _ _)
  · have hj' : j < allPorts.length := hj.trans (lt_of_lt_of_eq p.isLt (List.length_finRange (n := 16)).symm)
    have hlt : allPorts[j] < p := Fin.lt_def.2 (lt_of_eq_of_lt (hget j _) hj)
    rw [hall _ hlt]
    rfl

/-! The cases of a look-up -/

/-- A free index takes a new entry. -/
def newEntry (n : Nat) (w : Ident) (s : State) : State :=
  { s with entries := s.entries.put n { id := w.id }, reservations := s.reservations.del n }

theorem identify_of_absent (hf : findId s w.id = some (e, x)) (hp : x.port = none) : identify p w s =
    passRequery s.ports[p].requeriedFor (releaseReservation p (attach e p w s)) := by
  rw [identify, hf]
  dsimp only
  rw [hp]

theorem identify_of_present (hf : findId s w.id = some (e, x)) (hp : x.port ≠ none) : identify p w s =
    passRequery s.ports[p].requeriedFor (releaseReservation p
      (raise .duplicateId p (modPort p (Port.toUnlisted w.id .duplicate) s))) := by
  obtain ⟨q, hq⟩ := Option.ne_none_iff_exists'.1 hp
  rw [identify, hf]
  dsimp only
  rw [hq]

theorem identify_of_new (hf : findId s w.id = none) (hn : availableEntry s p = some n) : identify p w s =
    passRequery s.ports[p].requeriedFor (raise .stationNew n (attach n p w (newEntry n w s))) := by
  rw [identify, hf]
  dsimp only
  rw [hn]
  rfl

theorem identify_of_full (hf : findId s w.id = none) (hn : availableEntry s p = none) : identify p w s =
    passRequery s.ports[p].requeriedFor (raise .directoryFull p (modPort p (Port.toUnlisted w.id .full) s)) := by
  rw [identify, hf]
  dsimp only
  rw [hn]

/-! What re-queries leave alone -/

theorem ports_requeryDuplicate_of_not (h : s.ports[p].waitsFor i = false) : (requeryDuplicate i s).ports[p] = s.ports[p] := by
  unfold requeryDuplicate
  split
  · next q hq =>
    refine getElem_modPort_ne _ _ fun hpq => ?_
    have hlow := lowestPort_spec hq
    rw [← hpq, h] at hlow
    cases hlow
  · rfl

theorem ports_releaseReservation_of_not (h : s.ports[p].waitsFull = false) :
    (releaseReservation q s).ports[p] = s.ports[p] := by
  unfold releaseReservation
  split
  · rw [ports_reserveEntry]
    refine if_neg fun hlow => ?_
    have hfull := lowestPort_spec hlow
    rw [h] at hfull
    cases hfull
  · rfl

theorem passRequery_frame (f : Option StationId) (s : State) : passRequery f s = { s with ports := (passRequery f s).ports } := by
  rcases passRequery_cases f s with h | ⟨i, -, h⟩ <;> rw [h]
  rw [requeryDuplicate_frame]

theorem releaseReservation_frame (p : Fin 16) (s : State) : releaseReservation p s =
    { s with reservations := (releaseReservation p s).reservations, ports := (releaseReservation p s).ports } := by
  unfold releaseReservation
  split
  · rw [reserveEntry_frame]
  · rfl

/-! The directory and the waiting ports -/

/-- From `s` to `t` an ID other than `i` is found as it was and awaited by the ports that awaited it. -/
structure Looks (i : StationId) (s t : State) : Prop where
  found : ∀ j k z, i ≠ j → findId s j = some (k, z) → z.port = none → ∃ y, findId t j = some (k, y) ∧ y.port = none
  dup : ∀ j (q : Fin 16), i ≠ j → t.ports[q].waitsFor j = s.ports[q].waitsFor j

theorem Looks.trans (h : Looks i s t) (k : Looks i t u) : Looks i s u where
  found j n z hj hf hz := by
    obtain ⟨y, hy, hyp⟩ := h.found j n z hj hf hz
    exact k.found j n y hj hy hyp
  dup j q hj := (k.dup j q hj).trans (h.dup j q hj)

theorem Looks.of_ports (he : t.entries = s.entries)
    (hp : ∀ j (q : Fin 16), i ≠ j → t.ports[q].waitsFor j = s.ports[q].waitsFor j) : Looks i s t where
  found _ _ z _ hf hz := ⟨z, (findId_congr he).trans hf, hz⟩
  dup := hp

theorem looks_raise (c : AttnKind) (n : Nat) (s : State) : Looks i s (raise c n s) :=
  .of_ports (raise_entries ..) fun _ _ _ => by rw [raise_ports]

theorem looks_modPort {g : Port → Port} (hg : ∀ j, i ≠ j → (g s.ports[p]).waitsFor j = s.ports[p].waitsFor j) :
    Looks i s (modPort p g s) := by
  refine .of_ports rfl fun j q hj => ?_
  rw [getElem_modPort]
  split
  · next hq => rw [hq, hg j hj]
  · rfl

theorem looks_releaseReservation (p : Fin 16) (s : State) : Looks i s (releaseReservation p s) := by
  refine .of_ports (by rw [releaseReservation_frame]) fun j q _ => ?_
  unfold releaseReservation
  split
  · rw [ports_reserveEntry]
    split
    · next hlow =>
      obtain ⟨-, a, ha⟩ := waitsFull_iff.1 (lowestPort_spec hlow)
      rw [waitsFor_of_linked (y := Port.toQuerying none s.ports[q]) (by nofun)]
      refine (Bool.eq_false_iff.2 fun hw => ?_).symm
      obtain ⟨-, hk⟩ := waitsFor_iff.1 hw
      rw [ha] at hk
      cases hk
    · rfl
  · rfl

theorem findId_of_same (hs : TablesOk s) (ht : TablesOk t)
    (h : ∀ n x, s.entries.get n = some x → x.id = i → ∃ y, t.entries.get n = some y ∧ y.id = i ∧ y.port = x.port)
    (hback : ∀ n y, t.entries.get n = some y → y.id = i → ∃ x, s.entries.get n = some x ∧ x.id = i)
    (hf : findId s i = some (e, x)) : ∃ y, findId t i = some (e, y) ∧ y.port = x.port := by
  refine Tab.find_of_same (q := fun _ (x : Entry) => decide (x.id = i)) (R := fun x y => y.port = x.port) (entriesWf hs) (entriesWf ht)
    (fun n x hx hid => ?_) (fun n y hy hid => ?_) hf
  · obtain ⟨y, hy, hyid, hport⟩ := h n x hx (of_decide_eq_true hid)
    exact ⟨y, hy, decide_eq_true hyid, hport⟩
  · obtain ⟨x, hx, hxid⟩ := hback n y hy (of_decide_eq_true hid)
    exact ⟨x, hx, decide_eq_true hxid⟩

theorem looks_attach (ht : TablesOk s) (hx : s.entries.get e = some x) (hid : x.id = w.id)
    (hl : s.ports[p].link ≠ .unlisted) : Looks w.id s (attach e p w s) := by
  have hatt := attached_attach (p := p) (w := w) hx
  obtain ⟨y, hy, hyx, -⟩ := hatt.entry
  have hyid : y.id = w.id := by rw [hyx]; exact hid
  refine ⟨fun j k z hj hf hz => ?_, fun j q _ => ?_⟩
  · refine (findId_of_same (i := j) ht ((keeps_attach e p w s).tables ht) (fun n a ha hai => ?_) (fun n a ha hai => ?_) hf).imp
      fun c ⟨hc, hport⟩ => ⟨hc, hport.trans hz⟩
    · by_cases hn : n = e
      · subst hn
        cases hx.symm.trans ha
        exact absurd (hid.symm.trans hai) hj
      · obtain ⟨b, hb, hbid, hbp⟩ := hatt.other n a hn ha
        exact ⟨b, hb, hbid.trans hai, hbp⟩
    · by_cases hn : n = e
      · subst hn
        cases hy.symm.trans ha
        exact absurd (hyid.symm.trans hai) hj
      · cases hb : s.entries.get n with
        | none => exact nomatch (hatt.absent n hn hb).symm.trans ha
        | some b =>
          obtain ⟨c, hc, hcid, -⟩ := hatt.other n b hn hb
          cases hc.symm.trans ha
          exact ⟨b, rfl, hcid.symm.trans hai⟩
  · by_cases hq : q = p
    · subst hq
      obtain ⟨g, a, hport⟩ := hatt.port
      rw [waitsFor_of_linked hl, waitsFor_of_linked]
      rw [hport]
      nofun
    · rw [hatt.ports q hq]
      rfl

theorem waitsFor_toUnlisted {a : UnlistedReason} {y : Port} (hl : y.link ≠ .unlisted) :
    ∀ j, i ≠ j → (Port.toUnlisted i a y).waitsFor j = y.waitsFor j := fun j hj => by
  rw [waitsFor_of_linked hl]
  refine Bool.eq_false_iff.2 fun hw => hj ?_
  obtain ⟨-, hk⟩ := waitsFor_iff.1 hw
  exact congrArg Prod.fst (Option.some.inj hk)

theorem tablesOk_newEntry (ht : TablesOk s) (hn : n < 24) : TablesOk (newEntry n w s) :=
  ⟨Tab.wf_put ht.1 hn _, Tab.wf_del ht.2.1 n, ht.2.2⟩

theorem looks_newEntry (ht : TablesOk s) (hn : n < 24) (hfree : s.entries.get n = none) : Looks w.id s (newEntry n w s) := by
  refine ⟨fun j k z hj hf hz => ?_, fun _ _ _ => rfl⟩
  refine (findId_of_same (i := j) ht (tablesOk_newEntry (w := w) ht hn) (fun m a ha hai => ?_) (fun m a ha hai => ?_) hf).imp
    fun c ⟨hc, hport⟩ => ⟨hc, hport.trans hz⟩
  · have hne : m ≠ n := by
      rintro rfl
      exact nomatch hfree.symm.trans ha
    exact ⟨a, (Tab.get_put_other _ _ hne).trans ha, hai, rfl⟩
  · by_cases hne : m = n
    · subst hne
      cases (Tab.get_put_self s.entries m _).symm.trans ha
      exact absurd hai hj
    · exact ⟨a, (Tab.get_put_other _ _ hne).symm.trans ha, hai⟩

/-- The ID a port was re-queried for passes to the port that awaits it (R53). -/
theorem Looks.requeries {g : Option StationId} {a : StationId} (h : Looks i s t) (hg : g = some a) (hij : i ≠ a)
    (hf : findId s a = some (k, z)) (hz : z.port = none) (hq : lowestPort s (Port.waitsFor a) = some q) :
    (passRequery g t).ports[q].link = .querying ∧ (passRequery g t).ports[q].queues.query = true ∧
      (passRequery g t).ports[q].requeriedFor = some a := by
  obtain ⟨y, hy, hyp⟩ := h.found a k z hij hf hz
  have hlow : lowestPort t (Port.waitsFor a) = some q := (lowestPort_of_same fun q => h.dup a q hij).trans hq
  rw [hg, passRequery_of_absent hy hyp, requeryDuplicate_of_some hlow, getElem_modPort_self]
  exact ⟨rfl, rfl, rfl⟩

/-- A reservation that is given up goes to the lowest FULL port (R53). -/
theorem reservations_released (hres : t.reservations = s.reservations)
    (hfull : ∀ q : Fin 16, t.ports[q].waitsFull = s.ports[q].waitsFull) (f : Option StationId) :
    (reservedFor s p = none → (passRequery f (releaseReservation p t)).reservations = s.reservations) ∧
    ∀ i, reservedFor s p = some i →
      (lowestPort s Port.waitsFull = none →
        (passRequery f (releaseReservation p t)).reservations = s.reservations.del i) ∧
      ∀ q, lowestPort s Port.waitsFull = some q →
        (passRequery f (releaseReservation p t)).reservations = s.reservations.put i q.val ∧
        (passRequery f (releaseReservation p t)).ports[q].link = .querying ∧
        (passRequery f (releaseReservation p t)).ports[q].queues.query = true := by
  have hfor : reservedFor t p = reservedFor s p := by rw [reservedFor, reservedFor, hres]
  have hlow : lowestPort t Port.waitsFull = lowestPort s Port.waitsFull := lowestPort_of_same hfull
  refine ⟨fun h => ?_, fun i h => ?_⟩
  · rw [passRequery_frame, releaseReservation_of_none (hfor.trans h)]
    exact hres
  · rw [releaseReservation_of_some (hfor.trans h)]
    refine ⟨fun hnone => ?_, fun q hsome => ?_⟩
    · rw [passRequery_frame]
      dsimp only
      rw [reservations_reserveEntry, hlow, hnone, hres]
    · have hport : (reserveEntry i t).ports[q] = Port.toQuerying none t.ports[q] := by
        rw [ports_reserveEntry, if_pos (hlow.trans hsome)]
      have hkept : (passRequery f (reserveEntry i t)).ports[q] = (reserveEntry i t).ports[q] :=
        ports_passRequery (by rw [hport]; nofun)
      rw [hkept, hport]
      refine ⟨?_, rfl, rfl⟩
      rw [passRequery_frame]
      dsimp only
      rw [reservations_reserveEntry, hlow, hsome, hres]

end Sys2Proof.Machine
end

section
/-! IDENT: its look-up in QUERYING, and what it does on a port in UP (R43, R43a, R51–R54, R58, R75). -/

set_option Elab.async false

namespace Sys2Proof.Machine

variable {s t u v : State} {p q : Fin 16} {e n m j k : Nat} {x y z : Entry} {w : Ident} {i : StationId}
  {f : Option StationId}

/-! Valid words -/

theorem valid_iff : Ident.valid w = true ↔ w.id.maker ≠ 65535 ∧ w.id.serial ≠ 4294967295 ∧
    4 ≤ w.facts.capacity ∧ w.facts.capacity ≤ 255 ∧ 20 ≤ w.facts.pickToGauge ∧ w.facts.pickToGauge ≤ 4000 ∧
    20 ≤ w.facts.gaugeToExit ∧ w.facts.gaugeToExit ≤ 8000 ∧ w.facts.divertLimit ≤ 8000 := by
  simp only [Ident.valid, Bool.and_eq_true, decide_eq_true_eq, Config.within_iff, Nat.zero_le, true_and, and_assoc]

theorem event_congr {f g : State → State} (h : f s = g s) : event f s = event g s := by
  rw [event, event, h]

theorem leaves_ident (hs : Runs s) (hv : Ident.valid w = true) (h : identTaken p w s = t) : Leaves (.ident p w) s t :=
  leaves_of_eq (f := fun s => if Ident.valid w then identTaken p w s else takeMalformed p s) hs ((if_pos hv).trans h)

theorem identTaken_of_querying (h : s.ports[p].link = .querying) : identTaken p w s = identify p w (counted p s) := by
  unfold identTaken
  dsimp only
  rw [h]
  rfl

theorem identTaken_of_attached (h : AttachedTo s p e) : identTaken p w s = identUp p e w (counted p s) := by
  unfold identTaken
  dsimp only
  rw [h.1, h.2]
  rfl

theorem identTaken_of_other (hq : s.ports[p].link ≠ .querying) (hu : s.ports[p].link ≠ .up) :
    identTaken p w s = counted p s := by
  unfold identTaken
  dsimp only
  split
  · exact absurd ‹_› hq
  · exact absurd ‹_› hu
  · rfl

/-! The counted port -/

theorem ports_counted_ne (hq : q ≠ p) : (counted p s).ports[q] = s.ports[q] := getElem_modPort_ne _ _ hq

theorem ports_counted_self (hd : s.ports[p].link ≠ .down) (ha : s.ports[p].link ≠ .aligning) :
    (counted p s).ports[p] = { s.ports[p] with silence := some s.room.silence, malformed := 0 } := by
  rw [counted_of_linked hd ha, getElem_modPort_self]

theorem ports_counted_of_querying (h : s.ports[p].link = .querying) :
    (counted p s).ports[p] = { s.ports[p] with silence := some s.room.silence, malformed := 0 } :=
  ports_counted_self (by rw [h]; nofun) (by rw [h]; nofun)

theorem lowestPort_counted {g : Port → Bool} (hg : ∀ y : Port, y.link ≠ .unlisted → g y = false)
    (h : s.ports[p].link = .querying) : lowestPort (counted p s) g = lowestPort s g := by
  refine lowestPort_of_same fun q => ?_
  by_cases hq : q = p
  · have hl : s.ports[p].link ≠ .unlisted := by rw [h]; nofun
    rw [hq, hg _ hl, hg _ (by rw [ports_counted_of_querying h]; exact hl)]
  · rw [ports_counted_ne hq]

/-! The handing on of what a port held -/

/-- What is left once a port has given up its reservation and its re-query. -/
theorem handed_frame (f : Option StationId) (p : Fin 16) (s : State) : passRequery f (releaseReservation p s) = { s with
    reservations := (releaseReservation p s).reservations, ports := (passRequery f (releaseReservation p s)).ports } := by
  have hr := releaseReservation_frame p s
  obtain ⟨v, hv⟩ : ∃ v, releaseReservation p s = v := ⟨_, rfl⟩
  rw [hv] at hr ⊢
  exact (passRequery_frame f v).trans (congrArg (fun a : State => { a with ports := (passRequery f v).ports }) hr)

theorem ports_handed (h : s.ports[p].link ≠ .unlisted) : (passRequery f (releaseReservation q s)).ports[p] = s.ports[p] := by
  have hkept := ports_releaseReservation (q := q) h
  rw [ports_passRequery (by rw [hkept]; exact h), hkept]

/-! Reservations and re-queries -/

theorem waitsFull_attach (hx : s.entries.get e = some x) (hl : s.ports[p].link = .querying) (q : Fin 16) :
    (attach e p w s).ports[q].waitsFull = s.ports[q].waitsFull := by
  have hatt := attached_attach (p := p) (w := w) hx
  by_cases hq : q = p
  · subst hq
    obtain ⟨g, a, hport⟩ := hatt.port
    rw [waitsFull_of_linked (y := s.ports[q]) (by rw [hl]; nofun), waitsFull_of_linked]
    rw [hport]
    nofun
  · rw [hatt.ports q hq]
    rfl

theorem waitsFull_duplicate (hl : s.ports[p].link = .querying) (q : Fin 16) :
    (raise .duplicateId n (modPort p (Port.toUnlisted i .duplicate) s)).ports[q].waitsFull = s.ports[q].waitsFull := by
  rw [raise_ports, getElem_modPort]
  split
  · next hq =>
    rw [hq, waitsFull_of_linked (y := s.ports[p]) (by rw [hl]; nofun)]
    refine Bool.eq_false_iff.2 fun hw => ?_
    obtain ⟨-, j, hj⟩ := waitsFull_iff.1 hw
    cases hj
  · rfl

/-- Either way a known ID is taken, the port's own reservation goes to the lowest FULL port. -/
theorem identify_of_known (ht : TablesOk s) (hl : s.ports[p].link = .querying) (hf : findId s w.id = some (e, x)) :
    ∃ v, identify p w s = passRequery s.ports[p].requeriedFor (releaseReservation p v) ∧ v.reservations = s.reservations ∧
      (∀ q : Fin 16, v.ports[q].waitsFull = s.ports[q].waitsFull) ∧ Looks w.id s v := by
  obtain ⟨hx, hid⟩ := get_of_findId ht hf
  have hlink : s.ports[p].link ≠ .unlisted := by rw [hl]; nofun
  by_cases hp : x.port = none
  · exact ⟨_, identify_of_absent hf hp, (attached_attach hx).reservations, waitsFull_attach hx hl,
      looks_attach ht hx hid hlink⟩
  · refine ⟨_, identify_of_present hf hp, ?_, waitsFull_duplicate hl,
      (looks_modPort (waitsFor_toUnlisted hlink)).trans (looks_raise ..)⟩
    rw [raise_frame]
    rfl

/-- A look-up passes on the ID its port was re-queried for. -/
theorem looks_identify (ht : TablesOk s) (hfree : ReservedFree s) (hl : s.ports[p].link = .querying) :
    ∃ v, identify p w s = passRequery s.ports[p].requeriedFor v ∧ Looks w.id s v := by
  have hlink : s.ports[p].link ≠ .unlisted := by rw [hl]; nofun
  cases hf : findId s w.id with
  | some a =>
    obtain ⟨v, hv, -, -, hlooks⟩ := identify_of_known (e := a.1) (x := a.2) ht hl hf
    exact ⟨_, hv, hlooks.trans (looks_releaseReservation p v)⟩
  | none =>
    cases hn : availableEntry s p with
    | none => exact ⟨_, identify_of_full hf hn, (looks_modPort (waitsFor_toUnlisted hlink)).trans (looks_raise ..)⟩
    | some n =>
      obtain ⟨hlt, hnone⟩ := availableEntry_spec hn
      have htables := tablesOk_newEntry (w := w) ht (hlt ht)
      have hget : (newEntry n w s).entries.get n = some { id := w.id } := Tab.get_put_self ..
      exact ⟨_, identify_of_new hf hn, ((looks_newEntry ht (hlt ht) (hnone ht hfree)).trans
        (looks_attach htables hget rfl hlink)).trans (looks_raise ..)⟩

theorem reservations_identify_new (hf : findId s w.id = none) (hn : availableEntry s p = some n) :
    (identify p w s).reservations = s.reservations.del n := by
  have hget : (newEntry n w s).entries.get n = some { id := w.id } := Tab.get_put_self ..
  rw [identify_of_new hf hn, passRequery_frame, raise_frame]
  exact (attached_attach hget).reservations

theorem reservations_identify_full (hf : findId s w.id = none) (hn : availableEntry s p = none) :
    (identify p w s).reservations = s.reservations := by
  rw [identify_of_full hf hn, passRequery_frame, raise_frame]
  rfl

/-! A new entry, or none -/

theorem identify_new_spec (ht : TablesOk s) (ha : ∀ a ∈ s.attention, a.2 < 256) (hf : findId s w.id = none)
    (hn : availableEntry s p = some n) : ∃ y, AttachedTo (identify p w s) p n ∧ (identify p w s).entries.get n = some y ∧
      y.id = w.id ∧ y.name = [] ∧ y.port = some p ∧ y.facts = some w.facts ∧ y.epoch = some w.epoch ∧ y.feed = .idle ∧
      y.bound = none ∧ (AttnKind.stationNew ∉ s.room.mask → (.stationNew, n) ∈ (identify p w s).attention) := by
  obtain ⟨hlt, -⟩ := availableEntry_spec hn
  have hget : (newEntry n w s).entries.get n = some { id := w.id } := Tab.get_put_self ..
  have hatt := attached_attach (p := p) (w := w) hget
  have hattn : (attach n p w (newEntry n w s)).attention = s.attention := attention_attach hget rfl rfl
  rw [identify_of_new hf hn]
  obtain ⟨v, hv⟩ : ∃ v, attach n p w (newEntry n w s) = v := ⟨_, rfl⟩
  rw [hv] at hatt hattn ⊢
  obtain ⟨y, hy, hyx, hidle⟩ := hatt.entry
  obtain ⟨g, a, hport⟩ := hatt.port
  obtain ⟨hfeed, hbound⟩ := hidle rfl rfl
  have hports : (passRequery s.ports[p].requeriedFor (raise .stationNew n v)).ports[p] = v.ports[p] := by
    rw [ports_passRequery (by rw [raise_ports, hport]; nofun), raise_ports]
  refine ⟨y, ⟨by rw [hports, hport]; rfl, by rw [hports, hport]; rfl⟩, by rw [passRequery_frame, raise_frame]; exact hy,
    by rw [hyx]; rfl, by rw [hyx]; rfl, by rw [hyx]; rfl, by rw [hyx]; rfl, by rw [hyx]; rfl, hfeed, hbound, fun hmask => ?_⟩
  rw [passRequery_frame]
  exact mem_attention_raise_self (hatt.room.symm ▸ hmask) ((hlt ht).trans (by decide)) (hattn.symm ▸ ha)

theorem identify_full_spec (ha : ∀ a ∈ s.attention, a.2 < 256) (hf : findId s w.id = none)
    (hn : availableEntry s p = none) : (identify p w s).ports[p].link = .unlisted ∧
      (identify p w s).ports[p].kept = some (w.id, .full) ∧ (identify p w s).entries = s.entries ∧
      (AttnKind.directoryFull ∉ s.room.mask → (.directoryFull, p.val) ∈ (identify p w s).attention) := by
  obtain ⟨v, hv⟩ : ∃ v, raise .directoryFull p (modPort p (Port.toUnlisted w.id .full) s) = v := ⟨_, rfl⟩
  have hport : v.ports[p] = Port.toUnlisted w.id .full s.ports[p] := by rw [← hv, raise_ports, getElem_modPort_self]
  have hkept : (passRequery s.ports[p].requeriedFor v).ports[p] = v.ports[p] := by
    rcases passRequery_cases s.ports[p].requeriedFor v with h | ⟨i, -, h⟩ <;> rw [h]
    refine ports_requeryDuplicate_of_not (Bool.eq_false_iff.2 fun hw => ?_)
    obtain ⟨-, hk⟩ := waitsFor_iff.1 hw
    rw [hport] at hk
    cases hk
  rw [identify_of_full hf hn, hv, hkept, hport]
  refine ⟨rfl, rfl, ?_, fun hmask => ?_⟩
  · rw [passRequery_frame, ← hv, raise_frame]
    rfl
  · rw [passRequery_frame, ← hv]
    exact mem_attention_raise_self (s := modPort p (Port.toUnlisted w.id .full) s) hmask (p.isLt.trans (by decide)) ha

/-- The IDENT of a present entry leaves its port UNLISTED. -/
theorem identify_present_spec (ha : ∀ a ∈ s.attention, a.2 < 256) (hf : findId s w.id = some (e, x)) (hx : x.port ≠ none) :
    (identify p w s).ports[p].link = .unlisted ∧ (identify p w s).ports[p].kept = some (w.id, .duplicate) ∧
      (identify p w s).entries = s.entries ∧
      (AttnKind.duplicateId ∉ s.room.mask → (.duplicateId, p.val) ∈ (identify p w s).attention) := by
  obtain ⟨v, hv⟩ : ∃ v, raise .duplicateId p (modPort p (Port.toUnlisted w.id .duplicate) s) = v := ⟨_, rfl⟩
  have hport : v.ports[p] = Port.toUnlisted w.id .duplicate s.ports[p] := by rw [← hv, raise_ports, getElem_modPort_self]
  have hentries : v.entries = s.entries := by rw [← hv, raise_frame]; rfl
  have hfull : v.ports[p].waitsFull = false := Bool.eq_false_iff.2 fun hw => by
    obtain ⟨-, j, hj⟩ := waitsFull_iff.1 hw
    rw [hport] at hj
    cases hj
  have hreleased := ports_releaseReservation_of_not (q := p) hfull
  obtain ⟨u, hu⟩ : ∃ u, releaseReservation p v = u := ⟨_, rfl⟩
  have huentries : u.entries = s.entries := by rw [← hu, releaseReservation_frame, ← hentries]
  have huattn : u.attention = v.attention := by rw [← hu, releaseReservation_frame]
  rw [hu] at hreleased
  have hkept : (passRequery s.ports[p].requeriedFor u).ports[p] = u.ports[p] := by
    cases hreq : s.ports[p].requeriedFor with
    | none => rfl
    | some i =>
      by_cases hi : i = w.id
      · rw [hi, passRequery_of_present fun k z hk => ?_]
        rw [findId_congr huentries, hf] at hk
        cases hk
        exact Option.isSome_iff_ne_none.2 hx
      · rcases passRequery_cases (some i) u with h | ⟨j, hj, h⟩ <;> rw [h]
        cases hj
        refine ports_requeryDuplicate_of_not (Bool.eq_false_iff.2 fun hw => hi ?_)
        obtain ⟨-, hk⟩ := waitsFor_iff.1 hw
        rw [hreleased, hport] at hk
        exact (congrArg Prod.fst (Option.some.inj hk)).symm
  rw [identify_of_present hf hx, hv, hu, hkept, hreleased, hport]
  refine ⟨rfl, rfl, ?_, fun hmask => ?_⟩
  · rw [passRequery_frame]
    exact huentries
  · rw [passRequery_frame]
    show _ ∈ u.attention
    rw [huattn, ← hv]
    exact mem_attention_raise_self (s := modPort p (Port.toUnlisted w.id .duplicate) s) hmask (p.isLt.trans (by decide)) ha

end Sys2Proof.Machine
end

section
/-! IDENT, settled: the attach of a known entry and the IDENT of an attached one (R43, R43a, R51–R54, R58, R75). -/

set_option Elab.async false

namespace Sys2Proof.Machine

variable {s t u v : State} {p q : Fin 16} {e n m j k : Nat} {x y z : Entry} {w : Ident} {r : Sheet}

/-- The IDENT of an absent entry attaches it, with the words the attach queues. -/
theorem identify_absent_spec (hf : findId s w.id = some (e, x)) (hx : s.entries.get e = some x) (hp : x.port = none) :
    ∃ y, AttachedTo (identify p w s) p e ∧ (identify p w s).entries.get e = some y ∧ y.id = x.id ∧ y.name = x.name ∧
      y.port = some p ∧ y.facts = some w.facts ∧ y.epoch = some w.epoch ∧ y.owed = [] ∧
      (x.epoch = some w.epoch → (identify p w s).ports[p].queues.release = x.owed) ∧
      (x.epoch ≠ some w.epoch → (identify p w s).ports[p].queues.release = []) ∧
      ((identify p w s).ports[p].queues.halt = true ↔ x.feed = .halted ∨ x.feed = .clearing) ∧
      (identify p w s).ports[p].queues.identify = (if x.identify then some true else none) ∧
      (identify p w s).ports[p].lastCall = false := by
  have hatt := attached_attach (p := p) (w := w) hx
  obtain ⟨y, hy, hyx, -⟩ := hatt.entry
  obtain ⟨g, a, hport⟩ := hatt.port
  have hkept := ports_handed (f := s.ports[p].requeriedFor) (q := p) (s := attach e p w s) (p := p) (by rw [hport]; nofun)
  rw [identify_of_absent hf hp, hkept, hport]
  refine ⟨y, ⟨by rw [hkept, hport]; rfl, by rw [hkept, hport]; rfl⟩, by rw [handed_frame]; exact hy, by rw [hyx]; rfl,
    by rw [hyx]; rfl, by rw [hyx]; rfl, by rw [hyx]; rfl, by rw [hyx]; rfl, by rw [hyx]; rfl, fun hsame => ?_, fun hother => ?_,
    ?_, rfl, rfl⟩
  · exact if_pos (decide_eq_true hsame)
  · exact if_neg (by simpa using hother)
  · exact (Bool.or_eq_true _ _ ▸ or_congr decide_eq_true_iff decide_eq_true_iff)

/-- The records an IDENT of an absent entry leaves. -/
theorem identify_absent_records (hf : findId s w.id = some (e, x)) (hp : x.port = none) :
    (identify p w s).sheets = (attach e p w s).sheets ∧ (identify p w s).attention = (attach e p w s).attention := by
  rw [identify_of_absent hf hp, handed_frame]
  exact ⟨rfl, rfl⟩

/-- The facts an attached entry sends again (R52). -/
theorem refreshFacts_spec (ha : AttachedTo s p e) (hx : s.entries.get e = some x) :
    ∃ y, AttachedTo (refreshFacts e w s) p e ∧ (refreshFacts e w s).entries.get e = some y ∧ y.facts = some w.facts ∧
      y.id = x.id ∧ y.epoch = x.epoch ∧ y.feed = x.feed := by
  obtain ⟨u, hu⟩ : ∃ u, modEntry e (fun x => { x with facts := some w.facts }) s = u := ⟨_, rfl⟩
  have hget : u.entries.get e = some { x with facts := some w.facts } :=
    hu ▸ get_entries_modEntry_self (fun x => { x with facts := some w.facts }) hx
  have hports : u.ports = s.ports := by rw [← hu, modEntry_ports]
  have hsettled : Settles False u (refreshFacts e w s) := by
    rw [refreshFacts, hu]
    exact settles_settle_nil ..
  obtain ⟨y, hy, hyx⟩ := hsettled.entry e _ hget
  refine ⟨y, ⟨?_, ?_⟩, hy, by rw [hyx.frame], by rw [hyx.frame], by rw [hyx.frame], ?_⟩
  · rw [hsettled.port p, hports]
    exact ha.1
  · rw [hsettled.port p, hports]
    exact ha.2
  · rcases hyx.feed with ⟨hf, -⟩ | ⟨hno, -⟩
    · exact hf
    · exact hno.elim

theorem attachedTo_counted (ha : AttachedTo s p e) : AttachedTo (counted p s) p e := by
  have hport := ports_counted_self (p := p) (s := s) (by rw [ha.1]; nofun) (by rw [ha.1]; nofun)
  exact ⟨by rw [hport]; exact ha.1, by rw [hport]; exact ha.2⟩

theorem identUp_of_same (hx : s.entries.get e = some x) (h : x.id = w.id ∧ x.epoch = some w.epoch) :
    identUp p e w s = refreshFacts e w s := by
  rw [identUp, hx]
  exact if_pos h

theorem identUp_of_other (hx : s.entries.get e = some x) (h : ¬ (x.id = w.id ∧ x.epoch = some w.epoch)) :
    identUp p e w s = identify p w (modPort p (fun _ => lookupPort s) (detach e p s)) := by
  rw [identUp, hx]
  exact if_neg h

/-- Settles O40, by the link state the IDENT finds. -/
theorem identIsLookedUp : Obligations.IdentIsLookedUp := by
  unfold Obligations.IdentIsLookedUp
  refine ⟨fun w => valid_iff, fun i s => ⟨findId_eq_none, fun a => findId_spec⟩,
    fun p w s hs hv hl => leaves_ident hs hv (identTaken_of_querying hl), fun g p s => lowestPort_eq_some,
    fun y => ⟨waitsFull_iff, fun i => waitsFor_iff⟩, fun p s => ⟨fun i hi => ?_, fun hi => ⟨reservedFor_eq_none.1 hi, fun i =>
      availableEntry_of_free hi⟩⟩, fun p w s hs ht hv hl => ?_, fun p w s hs ht ha => ⟨fun hv => ?_, fun hv hl hf => ?_,
      fun hv hl e x hf => ?_, fun hv e x hat hx => ?_, fun hv hl => ?_⟩⟩
  · exact ⟨mem_of_reservedFor hi, availableEntry_of_reserved hi⟩
  · have hl' : (counted p s).ports[p].link = .querying := by rw [ports_counted_of_querying hl]; exact hl
    have hfull : lowestPort (counted p s) Port.waitsFull = lowestPort s Port.waitsFull :=
      lowestPort_counted (fun y => waitsFull_of_linked) hl
    refine ⟨_, leaves_ident hs hv (identTaken_of_querying hl), fun hf => ⟨fun i hi => ?_, fun hi => ?_⟩, fun hf => ?_,
      fun hfree j k z q hreq hj hk hz hq => ?_⟩
    · exact reservations_identify_new (s := counted p s) hf hi
    · exact reservations_identify_full (s := counted p s) hf hi
    · obtain ⟨⟨e, x⟩, hf⟩ := Option.isSome_iff_exists.1 hf
      obtain ⟨v, hv, hres, hwait, -⟩ := identify_of_known (s := counted p s) (p := p) ht hl' hf
      rw [hv, ← hfull]
      exact reservations_released (s := counted p s) hres hwait _
    · obtain ⟨v, hv, hlooks⟩ := looks_identify (s := counted p s) (p := p) (w := w) ht hfree hl'
      have hreq' : (counted p s).ports[p].requeriedFor = some j := by rw [ports_counted_of_querying hl]; exact hreq
      have hlow : lowestPort (counted p s) (Port.waitsFor j) = some q :=
        (lowestPort_counted (fun y => waitsFor_of_linked) hl).trans hq
      rw [hv]
      exact hlooks.requeries hreq' hj hk hz hlow
  · exact event_congr (f := fun s => if Ident.valid w then identTaken p w s else takeMalformed p s) (g := takeMalformed p)
      (if_neg (Bool.eq_false_iff.1 hv))
  · refine ⟨fun i hi => ?_, fun hi => ?_⟩
    · obtain ⟨y, hy⟩ := identify_new_spec (s := counted p s) (p := p) ht ha hf hi
      exact ⟨_, y, leaves_ident hs hv (identTaken_of_querying hl), hy⟩
    · exact ⟨_, leaves_ident hs hv (identTaken_of_querying hl), identify_full_spec (s := counted p s) (p := p) ha hf hi⟩
  · obtain ⟨hx, -⟩ := get_of_findId ht hf
    refine ⟨fun hp => ?_, fun hp => ⟨_, leaves_ident hs hv (identTaken_of_querying hl),
      identify_present_spec (s := counted p s) (p := p) ha hf hp⟩⟩
    obtain ⟨y, hat, hy, hid, hname, hport, hfacts, hepoch, howed, hsame, hother, hhalt, hlamp, hcall⟩ :=
      identify_absent_spec (s := counted p s) (p := p) hf hx hp
    obtain ⟨hsheets, hattn⟩ := identify_absent_records (s := counted p s) (p := p) hf hp
    refine ⟨_, y, leaves_ident hs hv (identTaken_of_querying hl), hat, hy, hid, hname, hport, hfacts, hepoch, howed, hsame,
      hother, hhalt, hlamp, hcall, fun hkept n r hr => ?_, fun o ho hne n r hr hst hstate => ?_⟩
    · rw [hsheets]
      exact get_sheets_attach_of_kept (s := counted p s) hx hkept hr
    · obtain ⟨hgone, htold⟩ := get_sheets_attach_of_lost (s := counted p s) (p := p) hx ho hne hr hst hstate
      rw [hsheets, hattn]
      exact ⟨hgone, fun hb hf hmask => htold (fun m c hc => hb _ (Tab.mem_of_get hc)) ha hmask hf⟩
  · have hat' := attachedTo_counted hat
    refine ⟨fun hid hepoch => ?_, fun hother => ?_⟩
    · obtain ⟨y, hy⟩ := refreshFacts_spec (s := counted p s) (w := w) hat' hx
      refine ⟨_, y, leaves_ident hs hv ?_, hy⟩
      rw [identTaken_of_attached hat, identUp_of_same (s := counted p s) hx ⟨hid, hepoch⟩]
    · have hne : ¬ (x.id = w.id ∧ x.epoch = some w.epoch) := fun ⟨h1, h2⟩ => hother.elim (· h1) (· h2)
      refine leaves_ident hs hv ?_
      rw [identTaken_of_attached hat, identUp_of_other (s := counted p s) hx hne, portDown_of_attached hat']
      rfl
  · have hother : identTaken p w s = counted p s := by
      rcases hl with hl | hl | hl <;> exact identTaken_of_other (by rw [hl]; nofun) (by rw [hl]; nofun)
    refine event_congr (f := fun s => if Ident.valid w then identTaken p w s else takeMalformed p s)
      (g := takeWord p fun _ t => t) ((if_pos hv).trans ?_)
    rw [hother, takeWord_fill]

end Sys2Proof.Machine
end

section
/-! The records of an aborted batch end: what each end keeps, and what it leaves of its record (R24, R42, R140, R148). -/

set_option Elab.async false

namespace Sys2Proof.Machine

variable {s t u v : State} {p q : Fin 16} {e h n m j : Nat} {x y z : Entry} {r a : Sheet} {b c : Batch} {d : Delivery}
  {l : Fin 4} {g : Tag}

/-! What the end of a record keeps -/

/-- What an abort's later steps keep of an entry: its place, and every release it owes as DROPPED. -/
structure Entry.Kept (x y : Entry) : Prop where
  port : y.port = x.port
  path : y.path = x.path
  bound : y.bound = x.bound
  feed : y.feed = x.feed
  cause : y.cause = x.cause
  owed : ∀ g, (g, .dropped) ∈ x.owed → (g, .dropped) ∈ y.owed

theorem Entry.Kept.refl (x : Entry) : x.Kept x := ⟨rfl, rfl, rfl, rfl, rfl, fun _ h => h⟩

theorem Entry.Kept.trans (h : x.Kept y) (k : y.Kept z) : x.Kept z :=
  ⟨k.port.trans h.port, k.path.trans h.path, k.bound.trans h.bound, k.feed.trans h.feed, k.cause.trans h.cause,
    fun g hg => k.owed g (h.owed g hg)⟩

/-- What those steps keep of a port's queues. -/
structure Queues.Kept (q k : Queues) : Prop where
  halt : k.halt = q.halt
  release : ∀ a ∈ q.release, a ∈ k.release

theorem Queues.Kept.refl (q : Queues) : q.Kept q := ⟨rfl, fun _ => id⟩

/-- From `s` to `t` records end: entries and queues keep what an abort has left there, deliveries are only abandoned, and
uploads only end. -/
structure Retires (s t : State) : Prop where
  entry : ∀ e x, s.entries.get e = some x → ∃ y, t.entries.get e = some y ∧ x.Kept y
  port : ∀ p : Fin 16, s.ports[p].queues.Kept t.ports[p].queues
  lanes : Abandons s t
  window : ∀ l : Fin 4, ∀ w ∈ t.lanes[l].window, w ∈ s.lanes[l].window
  upload : ∀ e u, t.uploads.get e = some u → s.uploads.get e = some u

theorem Retires.of_same (he : t.entries = s.entries := by rfl) (hp : t.ports = s.ports := by rfl)
    (hl : t.lanes = s.lanes := by rfl) (hu : t.uploads = s.uploads := by rfl) : Retires s t where
  entry e x hx := ⟨x, he ▸ hx, .refl x⟩
  port p := by rw [hp]; exact .refl _
  lanes := .of_lanes hl
  window l w hw := hl ▸ hw
  upload e u h := hu ▸ h

theorem Retires.refl (s : State) : Retires s s := .of_same

theorem Retires.trans (h : Retires s t) (k : Retires t u) : Retires s u where
  entry e x hx := by
    obtain ⟨y, hy, hxy⟩ := h.entry e x hx
    obtain ⟨z, hz, hyz⟩ := k.entry e y hy
    exact ⟨z, hz, hxy.trans hyz⟩
  port p := ⟨(k.port p).halt.trans (h.port p).halt, fun a ha => (k.port p).release a ((h.port p).release a ha)⟩
  lanes := h.lanes.trans k.lanes
  window l w hw := h.window l w (k.window l w hw)
  upload e u hu := h.upload e u (k.upload e u hu)

theorem retires_foldl {α : Type} {f : State → α → State} (hf : ∀ t a, Retires t (f t a)) (as : List α) (s : State) :
    Retires s (as.foldl f s) := by
  induction as generalizing s with
  | nil => exact .refl s
  | cons a as ih => exact (hf s a).trans (ih _)

theorem retires_modEntry {f : Entry → Entry} (hf : ∀ x, s.entries.get e = some x → x.Kept (f x)) : Retires s (modEntry e f s) :=
  { Retires.refl s with
    lanes := .of_lanes
    entry := fun j x hx => by
      by_cases hj : j = e
      · rw [hj] at hx ⊢
        exact ⟨f x, get_entries_modEntry_self f hx, hf x hx⟩
      · exact ⟨x, (get_entries_modEntry_ne f hj).trans hx, .refl x⟩ }

theorem retires_onQueues {f : Queues → Queues} (hf : ∀ q : Queues, q.Kept (f q)) : Retires s (onQueues e f s) where
  entry j x hx := ⟨x, by rw [onQueues_entries]; exact hx, .refl x⟩
  port p := by
    cases hx : s.entries.get e with
    | none => rw [onQueues_of_none _ hx]; exact .refl _
    | some x =>
      by_cases hp : x.port = some p
      · rw [ports_onQueues_self _ hx hp]; exact hf _
      · rw [ports_onQueues_of_ne _ hx hp]; exact .refl _
  lanes := .of_lanes (onQueues_lanes ..)
  window l w hw := by rwa [onQueues_lanes] at hw
  upload e u h := by rwa [onQueues_uploads] at h

theorem retires_abandonOn (d : Delivery) (s : State) : Retires s (abandonOn d s) := by
  refine { Retires.of_same (s := s) (t := { abandonOn d s with lanes := s.lanes }) (by rw [abandonOn_frame])
    (by rw [abandonOn_frame]) rfl (by rw [abandonOn_frame]) with lanes := abandons_abandonOn d s, window := fun l w hw => ?_ }
  rcases abandonOn_cases d s with h | ⟨m, -, h⟩ <;> rw [h] at hw
  · exact hw
  · rw [getElem_modLane] at hw
    split at hw
    · next hl =>
      rw [abandon_window] at hw
      rw [hl]
      exact (List.mem_filter.1 hw).1
    · exact hw

theorem retires_abandonDest (n : Nat) (k : Side) (s : State) (i : Fin 4 × Role) : Retires s (abandonDest n k s i) := by
  unfold abandonDest
  split
  · exact .refl s
  · exact (retires_abandonOn _ s).trans .of_same

theorem retires_endUpload (e : Nat) (s : State) : Retires s (endUpload e s) := by
  have hdel : Retires s { s with uploads := s.uploads.del e } :=
    { Retires.refl s with
      lanes := .of_lanes
      upload := fun j u hu => by
        dsimp only at hu
        rw [Tab.get_del] at hu
        split at hu
        · cases hu
        · exact hu }
  exact hdel.trans (retires_onQueues fun q => ⟨rfl, fun _ => id⟩)

theorem retires_abandonUpload (e : Nat) (s : State) : Retires s (abandonUpload e s) := by
  unfold abandonUpload
  split
  · exact .refl s
  · exact (retires_foldl (retires_abandonDest _ _) _ s).trans (retires_endUpload e _)

theorem retires_abandonUploadOf (n : Nat) (r : Sheet) (s : State) : Retires s (abandonUploadOf n r s) := by
  unfold abandonUploadOf
  split
  · exact .refl s
  · split
    · exact retires_abandonUpload _ s
    · exact .refl s

theorem retires_withdrawDeliveries (n : Nat) (s : State) : Retires s (withdrawDeliveries n s) := by
  unfold withdrawDeliveries
  split
  · exact .refl s
  · exact (retires_foldl (fun t d => retires_abandonOn d t) _ s).trans .of_same

theorem retires_recordOut (n : Nat) (r : Sheet) (s : State) : Retires s (recordOut n r s) := by
  have hcount : Retires s (modEntry r.station (fun x => { x with liveCount := x.liveCount - 1 })
      (modBatch r.batch (Batch.loseRecord r) { s with sheets := s.sheets.del n })) :=
    (Retires.of_same (s := s) (t := modBatch r.batch (Batch.loseRecord r) { s with sheets := s.sheets.del n })).trans
      (retires_modEntry fun x _ => ⟨rfl, rfl, rfl, rfl, rfl, fun _ => id⟩)
  refine hcount.trans (.of_same ?_ ?_ ?_ ?_) <;> rw [recordOut, dropCapture_frame]

/-- A release owed stays owed where another falls due with the same outcome. -/
theorem mem_owe_of_mem {i : Tag × ReleaseOutcome} {k : ReleaseOutcome} {is : List (Tag × ReleaseOutcome)} (h : i ∈ is)
    (hk : i.2 = k) : i ∈ owe (g, k) is := by
  induction is with
  | nil => cases h
  | cons a is ih =>
    unfold owe
    split_ifs with hlt heq
    · exact List.mem_cons_of_mem _ h
    · rcases List.mem_cons.1 h with rfl | h
      · exact List.mem_cons.2 (.inl (Prod.ext heq.symm hk))
      · exact List.mem_cons_of_mem _ h
    · rcases List.mem_cons.1 h with rfl | h
      · exact List.mem_cons_self
      · exact List.mem_cons_of_mem _ (ih h)

theorem retires_releaseDue (e : Nat) (g : Tag) (s : State) : Retires s (releaseDue e g .dropped s) := by
  unfold releaseDue
  split
  · exact retires_onQueues fun q => ⟨rfl, fun a ha => List.mem_append_left _ ha⟩
  · exact retires_modEntry fun x _ => ⟨rfl, rfl, rfl, rfl, rfl, fun g hg => mem_owe_of_mem hg rfl⟩

theorem retires_removeRecord {o : Option ReleaseOutcome} (n : Nat) (ho : ∀ k, o = some k → k = .dropped) (s : State) :
    Retires s (removeRecord n o s) := by
  cases hr : s.sheets.get n with
  | none =>
    rw [removeRecord, hr]
    exact .refl s
  | some r =>
    rw [removeRecord_eq_recordOut hr]
    cases o with
    | none => exact retires_recordOut n r s
    | some k =>
      obtain rfl := ho k rfl
      exact (retires_recordOut n r s).trans (retires_releaseDue _ _ _)

/-- The release due for an aborted record. -/
def dropDue (r : Sheet) : Option ReleaseOutcome := if r.fault = some .imagesLost then none else some .dropped

theorem dropDue_dropped (r : Sheet) : ∀ k, dropDue r = some k → k = .dropped := by
  unfold dropDue
  split
  · nofun
  · rintro k ⟨⟩
    rfl

theorem abortRecord_of_get (hr : s.sheets.get n = some r) : abortRecord s n =
    removeRecord n (dropDue r) (withdrawDeliveries n (abandonUploadOf n r s)) := by
  rw [abortRecord, hr]
  rfl

theorem retires_abortRecord (s : State) (n : Nat) : Retires s (abortRecord s n) := by
  cases hr : s.sheets.get n with
  | none =>
    rw [abortRecord, hr]
    exact .refl s
  | some r =>
    rw [abortRecord_of_get hr]
    exact ((retires_abandonUploadOf n r s).trans (retires_withdrawDeliveries n _)).trans
      (retires_removeRecord n (dropDue_dropped r) _)

theorem retires_freePicking (n : Nat) (s : State) : Retires s (freePicking n s) := by
  cases hr : s.sheets.get n with
  | none =>
    rw [freePicking, hr]
    exact .refl s
  | some r =>
    have hout : Retires s (modBatch r.batch (fun b => { b with picking := b.picking - 1 })
        { s with sheets := s.sheets.del n }) := .of_same
    have hcount := hout.trans (retires_modEntry (e := r.station) (f := fun x => { x with liveCount := x.liveCount - 1 })
      fun x _ => ⟨rfl, rfl, rfl, rfl, rfl, fun _ => id⟩)
    rw [freePicking_of_get hr]
    refine hcount.trans (retires_onQueues fun q => ?_)
    rw [Queues.dropGrant_eq]
    exact ⟨rfl, fun _ => id⟩

theorem retires_abortPicking (s : State) (n : Nat) : Retires s (abortPicking s n) := by
  unfold abortPicking
  split
  · exact .refl s
  · next r hr =>
    exact (retires_freePicking n s).trans (retires_modEntry (f := fun x => { x with timer := .stopped })
      fun x _ => ⟨rfl, rfl, rfl, rfl, rfl, fun _ => id⟩)

/-! The judgments keep it too -/

theorem EntrySettled.kept {free : Prop} (h : EntrySettled False free x y) : x.Kept y := by
  obtain ⟨hfeed, hcause, hbound⟩ := h.feed.resolve_right fun ⟨hno, _⟩ => hno
  exact ⟨by rw [h.frame], by rw [h.frame], hbound, hfeed, hcause, fun g hg => by rw [h.frame]; exact hg⟩

theorem retires_of_settles (h : Settles False s t) (hl : t.lanes = s.lanes) (hu : t.uploads = s.uploads) : Retires s t where
  entry e x hx := by
    obtain ⟨y, hy, hxy⟩ := h.entry e x hx
    exact ⟨y, hy, hxy.kept⟩
  port p := by
    rw [h.port p]
    exact ⟨rfl, fun _ => id⟩
  lanes := .of_lanes hl
  window l w hw := hl ▸ hw
  upload e u he := hu ▸ he

/-! What the end of a record leaves of it -/

/-- From `s` to `t` record `n`, `r`, has ended: its release as DROPPED is queued or owed, its upload has ended, and its
deliveries are off their lanes and told to the archives. -/
structure RecordEnded (n : Nat) (r : Sheet) (s t : State) : Prop where
  released : r.fault ≠ some .imagesLost → ∀ x, s.entries.get r.station = some x →
    (∀ p : Fin 16, x.port = some p → (r.tag, .dropped) ∈ t.ports[p].queues.release) ∧
    (x.port = none → ∃ y, t.entries.get r.station = some y ∧ (r.tag, .dropped) ∈ y.owed)
  upload : ∀ u, t.uploads.get r.station = some u → u.slot ≠ n
  abandoned : (r.deliveries.getD []).Pairwise (fun a d => a.side ≠ d.side ∨ a.role ≠ d.role) →
    ∀ d ∈ r.deliveries.getD [], ∀ m, d.onLane = true → d.number = some m →
      Abandoned m (s.lanes[d.lane].state ≠ .loopback) t.lanes[d.lane]
  window : ∀ l : Fin 4, ∀ w ∈ t.lanes[l].window, w ∈ s.lanes[l].window

/-- What has ended stays ended. -/
theorem RecordEnded.after (h : RecordEnded n r s t) (k : Retires t u) : RecordEnded n r s u where
  released hf x hx := by
    obtain ⟨hport, howed⟩ := h.released hf x hx
    refine ⟨fun p hp => (k.port p).release _ (hport p hp), fun hp => ?_⟩
    obtain ⟨y, hy, hmem⟩ := howed hp
    obtain ⟨z, hz, hyz⟩ := k.entry _ y hy
    exact ⟨z, hz, hyz.owed _ hmem⟩
  upload v hv := h.upload v (k.upload _ v hv)
  abandoned hp d hd m hon hm := k.lanes.keeps _ _ _ (h.abandoned hp d hd m hon hm)
  window l w hw := h.window l w (k.window l w hw)

theorem Abandoned.mono {m : DelivNo} {a b : Prop} {y : Lane} (h : Abandoned m a y) (hab : b → a) : Abandoned m b y :=
  ⟨h.window, h.fifo, fun hb => h.ctrl (hab hb)⟩

/-- What ends after other steps has ended since before them. -/
theorem RecordEnded.before (h : RecordEnded n r t u)
    (he : ∀ e x, s.entries.get e = some x → ∃ y, t.entries.get e = some y ∧ y.port = x.port)
    (hl : ∀ l : Fin 4, s.lanes[l].state ≠ .loopback → t.lanes[l].state ≠ .loopback)
    (hw : ∀ l : Fin 4, ∀ w ∈ t.lanes[l].window, w ∈ s.lanes[l].window) : RecordEnded n r s u where
  released hf x hx := by
    obtain ⟨y, hy, hport⟩ := he _ x hx
    rw [← hport]
    exact h.released hf y hy
  upload := h.upload
  abandoned hp d hd m hon hm := (h.abandoned hp d hd m hon hm).mono (hl _)
  window l w hmem := hw l w (h.window l w hmem)

/-- The upload of a record ends without a word about the state of its deliveries. -/
theorem uploadGone_abandonUploadOf (hr : s.sheets.get n = some r) : ∃ k ds, UploadGone n r k ds s (abandonUploadOf n r s) := by
  unfold abandonUploadOf
  cases hv : s.uploads.get r.station with
  | none => exact ⟨.one, [], uploadGone_nil hr (by rw [hv]; nofun)⟩
  | some v =>
    dsimp only
    by_cases hn : v.slot = n
    · rw [if_pos hn]
      exact ⟨v.side, v.dests, uploadGone_abandonUpload hr hv hn⟩
    · rw [if_neg hn]
      refine ⟨.one, [], uploadGone_nil hr fun z hz => ?_⟩
      obtain rfl : v = z := Option.some.inj (hv.symm.trans hz)
      exact hn

theorem mem_mapDeliveries {f : Delivery → Delivery} (hd : d ∈ r.deliveries.getD []) :
    f d ∈ (r.mapDeliveries f).deliveries.getD [] := by
  unfold Sheet.mapDeliveries
  cases hl : r.deliveries with
  | none =>
    rw [hl] at hd
    cases hd
  | some ld =>
    rw [hl] at hd
    exact List.mem_map_of_mem hd

/-- Once its upload has ended and its deliveries are withdrawn, no delivery of a record is on a lane. -/
theorem abandoned_withdrawn (hr : s.sheets.get n = some r)
    (hp : (r.deliveries.getD []).Pairwise (fun a d => a.side ≠ d.side ∨ a.role ≠ d.role)) {m : DelivNo}
    (hd : d ∈ r.deliveries.getD []) (hon : d.onLane = true) (hm : d.number = some m) :
    Abandoned m (s.lanes[d.lane].state ≠ .loopback) (withdrawDeliveries n (abandonUploadOf n r s)).lanes[d.lane] := by
  obtain ⟨k, ds, hgone⟩ := uploadGone_abandonUploadOf hr
  by_cases hc : d.side = k ∧ d.role ∈ ds.map Prod.snd
  · obtain ⟨rfl, hmem⟩ := hc
    obtain ⟨c, hc, hrole⟩ := List.mem_map.1 hmem
    exact (abandons_withdrawDeliveries hgone.sheet).keeps _ _ _
      (hgone.gone c hc d m _ (hrole ▸ deliveryOf_of_mem hp hd) hon hm id)
  · have hstay : d ∈ (r.mapDeliveries (destBack k ds)).deliveries.getD [] := by
      have hmap := mem_mapDeliveries (f := destBack k ds) hd
      rwa [destBack, if_neg hc] at hmap
    rw [lanes_withdrawDeliveries hgone.sheet]
    exact abandoned_foldl_abandonOn hstay hon hm fun h => hgone.lanes.state _ h

/-- The release of a record that is taken out is queued or owed. -/
theorem released_removeRecord (hr : s.sheets.get n = some r) (hx : s.entries.get r.station = some x) :
    (∀ p : Fin 16, x.port = some p → (r.tag, .dropped) ∈ (removeRecord n (some .dropped) s).ports[p].queues.release) ∧
    (x.port = none → ∃ y, (removeRecord n (some .dropped) s).entries.get r.station = some y ∧ (r.tag, .dropped) ∈ y.owed) := by
  have hout := get_entries_recordOut n r hx
  rw [removeRecord_eq_recordOut hr]
  dsimp only
  refine ⟨fun p hp => ?_, fun hp => ?_⟩
  · rw [releaseDue_of_port (k := .dropped) hout hp, ports_onQueues_self _ hout hp]
    exact List.mem_append_right _ (List.mem_singleton.2 rfl)
  · rw [releaseDue_of_absent (k := .dropped) hout hp]
    exact ⟨_, get_entries_modEntry_self _ hout, mem_owe_self _ _⟩

theorem removeRecord_outer (hr : s.sheets.get n = some r) (o : Option ReleaseOutcome) :
    (removeRecord n o s).lanes = s.lanes ∧ (removeRecord n o s).uploads = s.uploads ∧
      (removeRecord n o s).attention = s.attention ∧ (removeRecord n o s).room = s.room := by
  rw [removeRecord_frame hr]
  exact ⟨rfl, rfl, rfl, rfl⟩

/-- An aborted record has ended (R24 steps 3 to 5). -/
theorem recordEnded_abortRecord (hr : s.sheets.get n = some r) : RecordEnded n r s (abortRecord s n) := by
  obtain ⟨k, ds, hgone⟩ := uploadGone_abandonUploadOf hr
  have hretires := (retires_abandonUploadOf n r s).trans (retires_withdrawDeliveries n (abandonUploadOf n r s))
  have hbare : bareSheets (withdrawDeliveries n (abandonUploadOf n r s)) = bareSheets s := (onlyImages_abortRecord n r s).bare
  have habandoned := fun hp d hd m hon hm => abandoned_withdrawn (d := d) (m := m) hr hp hd hon hm
  have huploads : (withdrawDeliveries n (abandonUploadOf n r s)).uploads = (abandonUploadOf n r s).uploads := by
    rw [withdrawDeliveries_frame hgone.sheet]
  obtain ⟨v, hv⟩ : ∃ v, withdrawDeliveries n (abandonUploadOf n r s) = v := ⟨_, rfl⟩
  rw [abortRecord_of_get hr, hv]
  rw [hv] at hretires hbare habandoned huploads
  obtain ⟨a, ha, har⟩ := get_sheets_of_bareSheets hbare hr
  obtain ⟨hlanes, hups, -, -⟩ := removeRecord_outer ha (dropDue r)
  refine ⟨fun hf x hx => ?_, fun u hu => ?_, fun hp d hd m hon hm => ?_, fun l w hw => ?_⟩
  · obtain ⟨y, hy, hxy⟩ := hretires.entry _ x hx
    have hst : a.station = r.station := by rw [har]
    have htag : a.tag = r.tag := by rw [har]
    have hrel := released_removeRecord (n := n) ha (hst.symm ▸ hy)
    rw [hst, htag, hxy.port] at hrel
    rw [dropDue, if_neg hf]
    exact hrel
  · rw [hups, huploads] at hu
    exact hgone.upload u hu
  · rw [hlanes]
    exact habandoned hp d hd m hon hm
  · rw [hlanes] at hw
    exact hretires.window l w hw

end Sys2Proof.Machine
end

section
/-! The station of an aborted batch is parted from it, and its records end (R24). -/

set_option Elab.async false

namespace Sys2Proof.Machine

variable {s t u v : State} {p q : Fin 16} {e h n m j : Nat} {x y z : Entry} {r a : Sheet} {b c : Batch} {l : List Nat}

/-! All records of the batch end -/

/-- From `s` to `t` the records in some slots end and nothing else does. -/
structure EndsRecords (l : List Nat) (s t : State) : Prop where
  retires : Retires s t
  gone : Gone l s t
  other : ∀ i, i ∉ l → t.sheets.get i = s.sheets.get i
  attention : t.attention = s.attention
  room : t.room = s.room

theorem endsRecords_foldl {f : State → Nat → State} (hf : ∀ t n, EndsRecords [n] t (f t n)) (l : List Nat) (s : State) :
    EndsRecords l s (l.foldl f s) := by
  induction l generalizing s with
  | nil => exact ⟨.refl s, ⟨rfl, rfl⟩, fun _ _ => rfl, rfl, rfl⟩
  | cons n l ih =>
    have hfirst := hf s n
    have hrest := ih (f s n)
    refine ⟨hfirst.retires.trans hrest.retires, hfirst.gone.cons hrest.gone, fun i hi => ?_,
      hrest.attention.trans hfirst.attention, hrest.room.trans hfirst.room⟩
    rw [List.mem_cons, not_or] at hi
    exact (hrest.other i hi.2).trans (hfirst.other i fun h => hi.1 (List.mem_singleton.1 h))

theorem endsRecords_abortPicking (s : State) (n : Nat) : EndsRecords [n] s (abortPicking s n) := by
  suffices hquiet : (∀ i, i ∉ [n] → (abortPicking s n).sheets.get i = s.sheets.get i) ∧
      (abortPicking s n).attention = s.attention ∧ (abortPicking s n).room = s.room by
    obtain ⟨hother, hattn, hroom⟩ := hquiet
    exact ⟨retires_abortPicking s n, gone_abortPicking n s, hother, hattn, hroom⟩
  cases hr : s.sheets.get n with
  | none =>
    rw [abortPicking, hr]
    exact ⟨fun _ _ => rfl, rfl, rfl⟩
  | some r =>
    have habort : abortPicking s n = stopTimer r.station (freePicking n s) := by rw [abortPicking, hr]
    rw [habort, stopTimer, modEntry_sheets, modEntry_attention, modEntry_room, freePicking_frame hr]
    exact ⟨fun i hi => Tab.get_del_other _ fun h => hi (List.mem_singleton.2 h), rfl, rfl⟩

theorem endsRecords_abortRecord (s : State) (n : Nat) : EndsRecords [n] s (abortRecord s n) := by
  suffices hquiet : (∀ i, i ∉ [n] → (abortRecord s n).sheets.get i = s.sheets.get i) ∧
      (abortRecord s n).attention = s.attention ∧ (abortRecord s n).room = s.room by
    obtain ⟨hother, hattn, hroom⟩ := hquiet
    exact ⟨retires_abortRecord s n, gone_abortRecord n s, hother, hattn, hroom⟩
  cases hr : s.sheets.get n with
  | none =>
    rw [abortRecord, hr]
    exact ⟨fun _ _ => rfl, rfl, rfl⟩
  | some r =>
    have hback := (imagesBack_abandonUploadOf n r s).trans (imagesBack_withdrawDeliveries n (abandonUploadOf n r s))
    obtain ⟨v, hv⟩ : ∃ v, withdrawDeliveries n (abandonUploadOf n r s) = v := ⟨_, rfl⟩
    rw [hv] at hback
    obtain ⟨a, ha, -⟩ := get_sheets_of_bareSheets hback.bare hr
    obtain ⟨-, -, hattn, hroom⟩ := removeRecord_outer ha (dropDue r)
    have hsheets : (removeRecord n (dropDue r) v).sheets = v.sheets.del n := by rw [removeRecord_frame ha]
    rw [abortRecord_of_get hr, hv, hattn, hroom, hsheets]
    refine ⟨fun i hi => ?_, by rw [hback.frame], by rw [hback.frame]⟩
    have hne : i ≠ n := fun h => hi (List.mem_singleton.2 h)
    rw [Tab.get_del_other _ hne, hback.other i hne]

theorem RecordEnded.before_retires (h : RecordEnded n r t u) (k : Retires s t) : RecordEnded n r s u :=
  h.before (fun e x hx => by
    obtain ⟨y, hy, hxy⟩ := k.entry e x hx
    exact ⟨y, hy, hxy.port⟩) k.lanes.state k.window

/-- Every record in the slots has ended. -/
theorem recordEnded_foldl (l : List Nat) (hn : n ∈ l) (hr : s.sheets.get n = some r) :
    RecordEnded n r s (l.foldl abortRecord s) := by
  induction l generalizing s with
  | nil => cases hn
  | cons m l ih =>
    by_cases hm : n = m
    · subst hm
      exact (recordEnded_abortRecord hr).after (retires_foldl retires_abortRecord l _)
    · have hfirst := endsRecords_abortRecord s m
      have hget := (hfirst.other n fun h => hm (List.mem_singleton.1 h)).trans hr
      exact (ih ((List.mem_cons.1 hn).resolve_left hm) hget).before_retires hfirst.retires

/-! Sheets leave the path -/

/-- What is left once the sheets in some places have left the path queue of entry `e`, `x`. -/
structure LeftPath (e : Nat) (x : Entry) (l : List Place) (s t : State) : Prop where
  frame : t = { s with entries := t.entries, ports := t.ports }
  entry : ∃ y, t.entries.get e = some y ∧ y = { x with
    path := x.path.filter fun a => decide (∀ c ∈ l, a.slot ≠ c.slot), lastGaugeTrail := y.lastGaugeTrail }
  other : ∀ j, j ≠ e → t.entries.get j = s.entries.get j
  halt : ∀ p : Fin 16, t.ports[p].queues.halt = s.ports[p].queues.halt

theorem halt_leavePath (e n : Nat) (s : State) (p : Fin 16) :
    (leavePath e n s).ports[p].queues.halt = s.ports[p].queues.halt := by
  cases hr : s.sheets.get n with
  | none => rw [ports_leavePath_of_none hr]
  | some r =>
    rw [leavePath_of_get hr]
    cases hx : (modEntry e (Entry.without n) s).entries.get e with
    | none => rw [onQueues_of_none _ hx, modEntry_ports]
    | some x =>
      by_cases hp : x.port = some p
      · rw [ports_onQueues_self _ hx hp]
        rfl
      · rw [ports_onQueues_of_ne _ hx hp, modEntry_ports]

theorem leftPath_foldl (hx : s.entries.get e = some x) (l : List Place) :
    LeftPath e x l s (l.foldl (fun t c => leavePath e c.slot t) s) := by
  induction l generalizing s x with
  | nil => exact ⟨rfl, ⟨x, hx, by simp⟩, fun _ _ => rfl, fun _ => rfl⟩
  | cons c l ih =>
    have hrest := ih (get_entries_leavePath_self (n := c.slot) hx)
    rw [List.foldl_cons]
    obtain ⟨v, hv⟩ : ∃ v, leavePath e c.slot s = v := ⟨_, rfl⟩
    have hvframe : v = { s with entries := v.entries, ports := v.ports } := by rw [← hv, leavePath_frame]
    rw [hv] at hrest ⊢
    obtain ⟨t, ht⟩ : ∃ t, l.foldl (fun t c => leavePath e c.slot t) v = t := ⟨_, rfl⟩
    rw [ht] at hrest ⊢
    refine ⟨hrest.frame.trans (congrArg (fun w : State => { w with entries := t.entries, ports := t.ports }) hvframe), ?_,
      fun j hj => (hrest.other j hj).trans (hv ▸ get_entries_leavePath_ne hj),
      fun p => (hrest.halt p).trans (hv ▸ halt_leavePath e c.slot s p)⟩
    obtain ⟨y, hy, hyx⟩ := hrest.entry
    refine ⟨y, hy, hyx.trans ?_⟩
    simp only [Entry.without, List.filter_filter, List.forall_mem_cons, ne_eq, Bool.decide_and, Bool.and_comm]

/-! The station is parted (R24 step 1) -/

/-- The places of the sheets of batch `h` in a path queue. -/
def batchPlaces (s : State) (x : Entry) (h : Nat) : List Place :=
  x.path.filter fun c => match s.sheets.get c.slot with
    | some r => decide (r.batch = h)
    | none => false

theorem mem_batchPlaces {k : Place} :
    k ∈ batchPlaces s x h ↔ k ∈ x.path ∧ ∃ r, s.sheets.get k.slot = some r ∧ r.batch = h := by
  rw [batchPlaces, List.mem_filter]
  refine and_congr_right fun _ => ?_
  cases s.sheets.get k.slot <;> simp

/-- The state once the binding is cleared and the station IDLE or halted. -/
def partedStation (h e : Nat) (x : Entry) (s : State) : State :=
  if x.path.isEmpty then modEntry e (fun x => { x with feed := .idle, cause := none })
    (modEntry e (fun x => { x with bound := none }) (modBatch h (fun b => { b with bound := none }) s))
  else halt e .abort (modEntry e (fun x => { x with bound := none }) (modBatch h (fun b => { b with bound := none }) s))

/-- The entry that leaves. -/
def Entry.parted (x : Entry) : Entry :=
  if x.path.isEmpty then { x with bound := none, feed := .idle, cause := none } else ({ x with bound := none } : Entry).halted .abort

theorem abortStation_of_get (hx : s.entries.get e = some x) : abortStation h e s =
    (batchPlaces s x h).foldl (fun t c => leavePath e c.slot t) (partedStation h e x s) := by
  rw [abortStation, hx]
  rfl

theorem Entry.parted_frame (x : Entry) : x.parted =
    { x with bound := none, feed := x.parted.feed, cause := x.parted.cause, timer := x.parted.timer } := by
  unfold Entry.parted
  split
  · rfl
  · rw [Entry.halted_frame]

theorem get_entries_partedStation (hx : s.entries.get e = some x) :
    (partedStation h e x s).entries.get e = some x.parted := by
  have hget : (modEntry e (fun x => { x with bound := none }) (modBatch h (fun b => { b with bound := none }) s)).entries.get e =
      some { x with bound := none } :=
    get_entries_modEntry_self (s := modBatch h (fun b => { b with bound := none }) s) (fun x => { x with bound := none }) hx
  unfold partedStation Entry.parted
  split
  · exact get_entries_modEntry_self _ hget
  · exact get_entries_halt_self hget

theorem get_entries_partedStation_ne (hj : j ≠ e) : (partedStation h e x s).entries.get j = s.entries.get j := by
  unfold partedStation
  split
  · rw [get_entries_modEntry_ne _ hj, get_entries_modEntry_ne _ hj, modBatch_entries]
  · rw [get_entries_halt_ne hj, get_entries_modEntry_ne _ hj, modBatch_entries]

theorem partedStation_frame (h e : Nat) (x : Entry) (s : State) : partedStation h e x s = { s with
    entries := (partedStation h e x s).entries, batches := s.batches.modify h fun b => { b with bound := none }
    ports := (partedStation h e x s).ports, attention := (partedStation h e x s).attention } := by
  unfold partedStation
  split
  · rfl
  · rw [halt_frame]
    rfl

theorem attention_partedStation (he : e < 256) (ha : ∀ a ∈ s.attention, a.2 < 256) :
    ∀ a ∈ (partedStation h e x s).attention, a.2 < 256 := by
  unfold partedStation
  split
  · exact ha
  · obtain ⟨v, hv⟩ : ∃ v, modEntry e (fun x => { x with bound := none }) (modBatch h (fun b => { b with bound := none }) s) = v :=
      ⟨_, rfl⟩
    have hattn : v.attention = s.attention := by rw [← hv]; rfl
    rw [hv]
    cases hx : v.entries.get e with
    | none =>
      rw [halt, hx, hattn]
      exact ha
    | some y =>
      rw [attention_halt hx]
      split
      · exact attention_lt_raise he (hattn ▸ ha)
      · exact hattn ▸ ha

/-- A moving station with sheets in its path is told to halt. -/
theorem halt_partedStation (hx : s.entries.get e = some x) (hpath : x.path ≠ []) (hm : x.feed.moving = true)
    (hp : x.port = some p) : (partedStation h e x s).ports[p].queues.halt = true := by
  have hget : (modEntry e (fun x => { x with bound := none }) (modBatch h (fun b => { b with bound := none }) s)).entries.get e =
      some { x with bound := none } :=
    get_entries_modEntry_self (s := modBatch h (fun b => { b with bound := none }) s) (fun x => { x with bound := none }) hx
  rw [partedStation, if_neg (by rwa [List.isEmpty_iff]), ports_halt_of_moving hget hm hp]

theorem Entry.parted_of_empty (hp : x.path = []) : x.parted.feed = .idle ∧ x.parted.cause = none := by
  rw [Entry.parted, if_pos (by rw [hp]; rfl)]
  exact ⟨rfl, rfl⟩

theorem Entry.parted_of_moving (hp : x.path ≠ []) (hm : x.feed.moving = true) :
    x.parted.feed = (if x.coverOpen then .clearing else .halted) ∧ x.parted.cause = some .abort := by
  rw [Entry.parted, if_neg (by rwa [List.isEmpty_iff]), halted_of_moving (x := { x with bound := none }) hm]
  exact ⟨rfl, rfl⟩

theorem Entry.parted_of_still (hp : x.path ≠ []) (hf : x.feed = .halted ∨ x.feed = .clearing) :
    x.parted.feed = x.feed ∧ x.parted.cause = some .abort := by
  rw [Entry.parted, if_neg (by rwa [List.isEmpty_iff])]
  rcases hf with hf | hf
  · rw [halted_of_halted (x := { x with bound := none }) hf, if_pos (.inr rfl)]
    exact ⟨rfl, rfl⟩
  · rw [halted_of_clearing (x := { x with bound := none }) hf, if_neg nofun, if_pos rfl]
    exact ⟨rfl, rfl⟩

/-- What is left of the station of an aborted batch. -/
structure StationParted (h e : Nat) (x : Entry) (s t : State) : Prop where
  frame : t = { s with
    entries := t.entries, batches := s.batches.modify h fun b => { b with bound := none }, ports := t.ports
    attention := t.attention }
  entry : ∃ y, t.entries.get e = some y ∧ y.port = x.port ∧ y.bound = none ∧ y.feed = x.parted.feed ∧ y.cause = x.parted.cause ∧
    ∀ k, k ∈ y.path ↔ k ∈ x.path ∧ ∀ r, s.sheets.get k.slot = some r → r.batch ≠ h
  other : ∀ j, j ≠ e → t.entries.get j = s.entries.get j
  bounded : e < 256 → (∀ a ∈ s.attention, a.2 < 256) → ∀ a ∈ t.attention, a.2 < 256
  halt : x.path ≠ [] → x.feed.moving = true → ∀ p : Fin 16, x.port = some p → t.ports[p].queues.halt = true

theorem stationParted_abortStation (hx : s.entries.get e = some x) : StationParted h e x s (abortStation h e s) := by
  have hget := get_entries_partedStation (h := h) hx
  have hleft := leftPath_foldl hget (batchPlaces s x h)
  have hframe := partedStation_frame h e x s
  rw [abortStation_of_get hx]
  obtain ⟨t, ht⟩ : ∃ t, (batchPlaces s x h).foldl (fun t c => leavePath e c.slot t) (partedStation h e x s) = t := ⟨_, rfl⟩
  rw [ht] at hleft ⊢
  have hattn : t.attention = (partedStation h e x s).attention := by rw [hleft.frame]
  refine ⟨?_, ?_, fun j hj => (hleft.other j hj).trans (get_entries_partedStation_ne hj), fun he ha => ?_,
    fun hpath hm p hp => ?_⟩
  · rw [hattn]
    exact hleft.frame.trans (congrArg (fun w : State => { w with entries := t.entries, ports := t.ports }) hframe)
  · obtain ⟨y, hy, hyx⟩ := hleft.entry
    refine ⟨y, hy, ?_, ?_, by rw [hyx], by rw [hyx], fun k => ?_⟩
    · rw [hyx, Entry.parted_frame]
    · rw [hyx, Entry.parted_frame]
    · have hpath : x.parted.path = x.path := by rw [Entry.parted_frame]
      have hypath : y.path = x.parted.path.filter fun a => decide (∀ c ∈ batchPlaces s x h, a.slot ≠ c.slot) := by rw [hyx]
      rw [hypath, hpath, List.mem_filter, decide_eq_true_eq]
      refine and_congr_right fun hk => ⟨fun hall r hr hb => ?_, fun hall c hc heq => ?_⟩
      · exact hall k (mem_batchPlaces.2 ⟨hk, r, hr, hb⟩) rfl
      · obtain ⟨-, r, hr, hb⟩ := mem_batchPlaces.1 hc
        exact hall r (heq ▸ hr) hb
  · rw [hattn]
    exact attention_partedStation he ha
  · rw [hleft.halt p]
    exact halt_partedStation hx hpath hm hp

end Sys2Proof.Machine
end

section
/-! ABORT: the batch closes, its station parts and its records end (R24). -/

set_option Elab.async false

namespace Sys2Proof.Machine

variable {s t u v : State} {p q : Fin 16} {e h n m j k : Nat} {x y z : Entry} {r a : Sheet} {b c : Batch} {l : List Nat}

/-! The station parted, the records ended -/

/-- What the parting of its station leaves of the state of an aborted batch. -/
structure AbortParted (h : Nat) (b : Batch) (s t : State) : Prop where
  frame : t = { s with entries := t.entries, batches := t.batches, ports := t.ports, attention := t.attention }
  entry : ∀ e x, s.entries.get e = some x → ∃ y, t.entries.get e = some y ∧ y.port = x.port
  batch : ∃ c, t.batches.get h = some c ∧ c = { b with bound := c.bound }
  bounded : (∀ a ∈ s.attention, a.2 < 256) → ∀ a ∈ t.attention, a.2 < 256

theorem abortParted_of_bound (hb : b.bound = some e) : abortParted h b s = abortStation h e s := by rw [abortParted, hb]

theorem abortParted_abortParted (ht : TablesOk s) (hb : s.batches.get h = some b) :
    AbortParted h b s (abortParted h b s) := by
  have hsame : AbortParted h b s s := ⟨rfl, fun e x hx => ⟨x, hx, rfl⟩, ⟨b, hb, rfl⟩, id⟩
  cases hbound : b.bound with
  | none =>
    have hnone : abortParted h b s = s := by rw [abortParted, hbound]
    rwa [hnone]
  | some e =>
    rw [abortParted_of_bound hbound]
    cases hx : s.entries.get e with
    | none =>
      rw [abortStation, hx]
      exact hsame
    | some x =>
      have hpart := stationParted_abortStation (h := h) hx
      obtain ⟨t, htt⟩ : ∃ t, abortStation h e s = t := ⟨_, rfl⟩
      rw [htt] at hpart ⊢
      have hbatches : t.batches = s.batches.modify h fun b => { b with bound := none } := by rw [hpart.frame]
      refine ⟨?_, fun j z hz => ?_, ⟨{ b with bound := none }, ?_, rfl⟩,
        hpart.bounded ((Tab.key_lt (entriesWf ht) hx).trans (by decide))⟩
      · rw [hbatches]
        exact hpart.frame
      · by_cases hj : j = e
        · subst hj
          cases hx.symm.trans hz
          obtain ⟨y, hy, hport, -⟩ := hpart.entry
          exact ⟨y, hy, hport⟩
        · exact ⟨z, (hpart.other j hj).trans hz, rfl⟩
      · rw [hbatches, Tab.get_modify_self, hb, Option.map_some]

/-- The batch record when the records of the batch have ended. -/
structure AbortEnded (h : Nat) (b : Batch) (s t : State) : Prop where
  gone : ∀ q ∈ t.sheets, q.2.batch ≠ h
  free : ∀ n r, s.sheets.get n = some r → r.batch = h → t.sheets.get n = none
  ended : ∀ n r, s.sheets.get n = some r → r.batch = h → r.state ≠ .picking → RecordEnded n r s t
  batch : ∃ c, t.batches.get h = some c ∧
    c = { b with bound := c.bound, picking := c.picking, live := c.live, openSuspects := c.openSuspects }
  bounded : ∀ a ∈ t.attention, a.2 < 256
  room : t.room = s.room
  retires : Retires (abortParted h b s) t

theorem abortEnded_abortEnded (ht : TablesOk s) (ha : ∀ a ∈ s.attention, a.2 < 256) (hb : s.batches.get h = some b) :
    AbortEnded h b s (abortEnded h b s) := by
  have hpart := abortParted_abortParted ht hb
  have htables := (keepsShape_abortEnded hb).tables ht
  unfold abortEnded at htables ⊢
  obtain ⟨u, hu⟩ : ∃ u, abortParted h b s = u := ⟨_, rfl⟩
  have hpicks := endsRecords_foldl endsRecords_abortPicking (batchSlots s h true) u
  obtain ⟨v, hv⟩ : ∃ v, (batchSlots s h true).foldl abortPicking u = v := ⟨_, rfl⟩
  have hlives := endsRecords_foldl endsRecords_abortRecord (batchSlots s h false) v
  rw [hu, hv] at htables
  rw [hu] at hpart
  rw [hv] at hpicks
  rw [hu, hv]
  have hsheets : u.sheets = s.sheets := by rw [hpart.frame]
  have hmem : ∀ n r, s.sheets.get n = some r → r.batch = h → ∀ p, decide (r.state = .picking) = p → n ∈ batchSlots s h p :=
    fun n r hr hbatch p hp => mem_batchSlots.2 ⟨r, Tab.mem_of_get hr, hbatch, hp⟩
  obtain ⟨t, htt⟩ : ∃ t, (batchSlots s h false).foldl abortRecord v = t := ⟨_, rfl⟩
  have hrecords := fun n r (hn : n ∈ batchSlots s h false) (hr : v.sheets.get n = some r) =>
    recordEnded_foldl (batchSlots s h false) hn hr
  rw [htt] at hlives htables hrecords ⊢
  have hgone : ∀ n q, t.sheets.get n = some q → ∃ r, s.sheets.get n = some r ∧ q.batch = r.batch ∧
      n ∉ batchSlots s h true ∧ n ∉ batchSlots s h false := fun n q hq => by
    obtain ⟨hn, a, ha, hqa⟩ := hlives.gone.get_sheets hq
    obtain ⟨hn', r, hr, har⟩ := hpicks.gone.get_sheets ha
    exact ⟨r, hsheets ▸ hr, by rw [hqa, har], hn', hn⟩
  have hout : ∀ n r, s.sheets.get n = some r → r.batch = h → ¬ (n ∉ batchSlots s h true ∧ n ∉ batchSlots s h false) :=
    fun n r hr hbatch ⟨hpick, hlive⟩ => by
      cases hp : decide (r.state = .picking) with
      | true => exact hpick (hmem n r hr hbatch _ hp)
      | false => exact hlive (hmem n r hr hbatch _ hp)
  refine ⟨fun q hq hbatch => ?_, fun n r hr hbatch => ?_, fun n r hr hbatch hstate => ?_, ?_, ?_, ?_,
    by rw [hu]; exact hpicks.retires.trans hlives.retires⟩
  · obtain ⟨r, hr, hqr, hnot⟩ := hgone q.1 q.2 (Tab.get_of_mem (sheetsWf htables) hq)
    exact hout q.1 r hr (hqr.symm.trans hbatch) hnot
  · cases hq : t.sheets.get n with
    | none => rfl
    | some q =>
      obtain ⟨r', hr', -, hnot⟩ := hgone n q hq
      cases hr.symm.trans hr'
      exact absurd hnot (hout n r hr hbatch)
  · have hlive : n ∈ batchSlots s h false := hmem n r hr hbatch _ (decide_eq_false hstate)
    have hpick : n ∉ batchSlots s h true := fun hn => by
      obtain ⟨r', hr', -, hp⟩ := mem_batchSlots.1 hn
      cases hr.symm.trans (Tab.get_of_mem (sheetsWf ht) hr')
      exact hstate (of_decide_eq_true hp)
    have hget : v.sheets.get n = some r := by rw [hpicks.other n hpick, hsheets, hr]
    refine ((hrecords n r hlive hget).before_retires hpicks.retires).before hpart.entry (fun l hl => ?_) fun l w hw => ?_
    · rw [hpart.frame]
      exact hl
    · rw [hpart.frame] at hw
      exact hw
  · obtain ⟨c, hc, hcb⟩ := hpart.batch
    have hbare : bareBatches u = bareBatches t := (hlives.gone.batches.trans hpicks.gone.batches).symm
    obtain ⟨d, hd, hcd⟩ := get_of_bareBatches hbare hc
    refine ⟨d, hd, ?_⟩
    calc d = { c with picking := d.picking, live := d.live, openSuspects := d.openSuspects } := by rw [hcd]
      _ = { b with bound := c.bound, picking := d.picking, live := d.live, openSuspects := d.openSuspects } := by rw [hcb]
      _ = _ := by rw [hcd]
  · rw [hlives.attention, hpicks.attention]
    exact hpart.bounded ha
  · rw [hlives.room, hpicks.room, hpart.frame]

/-! The batch closes -/

/-- The batch record an ABORT leaves. -/
def Batch.aborted (k : Nat) (b : Batch) : Batch :=
  { b with
    state := .closed, outcome := some .aborted, bound := none, pauses := {}, target := none, pendingAmend := none
    discarded := b.discarded + k, picking := 0, live := 0, openSuspects := 0 }

/-- The state once the batch is closed. -/
def abortClosed (h : Nat) (b : Batch) (s : State) : State :=
  enterClosed h .aborted (modBatch h (Batch.discardAll (batchSlots s h false).length) (abortEnded h b s))

theorem abortBatch_eq (h : Nat) (b : Batch) (s : State) : ∃ es, abortBatch h b s =
    settle [] es s.lastAlloc (arbitrate (offerSlots ((batchSlots s h true).length + (batchSlots s h false).length)
      (abortClosed h b s))) := ⟨_, rfl⟩

theorem abortClosed_frame (h : Nat) (b : Batch) (s : State) : abortClosed h b s = { abortEnded h b s with
    batches := (abortClosed h b s).batches, attention := (abortClosed h b s).attention } := by
  rw [abortClosed, enterClosed, raise_frame]
  rfl

theorem get_batches_abortClosed (he : AbortEnded h b s (abortEnded h b s)) :
    (abortClosed h b s).batches.get h = some (b.aborted (liveCount s h)) := by
  obtain ⟨c, hc, hcb⟩ := he.batch
  have hdiscard := get_batches_modBatch_self (Batch.discardAll (batchSlots s h false).length) hc
  rw [abortClosed, enterClosed, raise_batches, get_batches_modBatch_self _ hdiscard, length_batchSlots]
  have hall : (c.discardAll (liveCount s h)).toClosed .aborted = c.aborted (liveCount s h) := rfl
  rw [hall, Batch.aborted, hcb]
  rfl

theorem batchClosed_mem_abortClosed (he : AbortEnded h b s (abortEnded h b s)) (hh : h < 48)
    (hk : AttnKind.batchClosed ∉ s.room.mask) : (.batchClosed, h) ∈ (abortClosed h b s).attention :=
  mem_attention_raise_self (s := modBatch h (Batch.toClosed .aborted)
    (modBatch h (Batch.discardAll (batchSlots s h false).length) (abortEnded h b s))) (he.room.symm ▸ hk)
    (hh.trans (by decide)) he.bounded

theorem retires_abortClosed (h : Nat) (b : Batch) (s : State) : Retires (abortEnded h b s) (abortClosed h b s) := by
  refine .of_same ?_ ?_ ?_ ?_ <;> rw [abortClosed_frame]

theorem judged_offerSlots (k : Nat) (s : State) : Judged s (offerSlots k s) := by
  induction k generalizing s with
  | zero => exact .refl s
  | succ k ih => exact (judged_offerSlot s).trans (ih _)

theorem retires_offerSlots (k : Nat) (s : State) : Retires s (offerSlots k s) :=
  retires_of_settles (settles_offerSlots k s) (by rw [(judged_offerSlots k s).frame]) (by rw [(judged_offerSlots k s).frame])

theorem retires_settle_nil (es : List Nat) (start : Nat) (s : State) : Retires s (settle [] es start s) :=
  retires_of_settles (settles_settle_nil es start s) (by rw [(judged_settle [] es start s).frame])
    (by rw [(judged_settle [] es start s).frame])

/-- From `s` to `t` record `n`, `r`, has ended and the arbiter has run: lanes may carry new deliveries, none of the record. -/
structure RecordClosed (n : Nat) (r : Sheet) (s t : State) : Prop where
  released : r.fault ≠ some .imagesLost → ∀ x, s.entries.get r.station = some x →
    (∀ p : Fin 16, x.port = some p → (r.tag, .dropped) ∈ t.ports[p].queues.release) ∧
    (x.port = none → ∃ y, t.entries.get r.station = some y ∧ (r.tag, .dropped) ∈ y.owed)
  upload : ∀ u, t.uploads.get r.station = some u → u.slot ≠ n
  told : (r.deliveries.getD []).Pairwise (fun a d => a.side ≠ d.side ∨ a.role ≠ d.role) →
    ∀ d ∈ r.deliveries.getD [], ∀ m, d.onLane = true → d.number = some m → s.lanes[d.lane].state ≠ .loopback →
      .abandon m ∈ t.lanes[d.lane].ctrl
  window : (r.deliveries.getD []).Pairwise (fun a d => a.side ≠ d.side ∨ a.role ≠ d.role) →
    (∀ l : Fin 4, ∀ w ∈ s.lanes[l].window, w.slot = n → ∃ d ∈ r.deliveries.getD [], d.lane = l ∧
      d.number = some w.number ∧ d.onLane = true) → ∀ l : Fin 4, ∀ w ∈ t.lanes[l].window, w.slot ≠ n

/-- A record that has ended does not begin again where its slot holds no record in ROUTING. -/
theorem RecordEnded.arbitrated (hr : RecordEnded n r s t) (hn : ∀ a, (n, a) ∈ t.sheets → a.state ≠ .routing) :
    RecordClosed n r s (arbitrate t) := by
  have ho := offered_arbitrate t
  refine ⟨fun hf x hx => ?_, fun v hv hslot => ?_, fun hp d hd m hon hm hl => ?_, fun hp hheld l w hw hslot => ?_⟩
  · obtain ⟨hport, howed⟩ := hr.released hf x hx
    refine ⟨fun p hp => ?_, fun hp => ?_⟩
    · rw [ho.port p]
      exact hport p hp
    · rw [entries_arbitrate]
      exact howed hp
  · rcases ho.upload _ v hv with hv | ⟨a, ha, hs⟩
    · exact hr.upload v hv hslot
    · exact hn a (hslot ▸ ha) hs
  · exact ho.ctrl _ _ ((hr.abandoned hp d hd m hon hm).ctrl hl)
  · rcases ho.window l w hw with hw | ⟨a, ha, hs⟩
    · obtain ⟨d, hd, rfl, hm, hon⟩ := hheld l w (hr.window l w hw) hslot
      exact (hr.abandoned hp d hd w.number hon hm).window w hw rfl
    · exact hn a (hslot ▸ ha) hs

theorem RecordClosed.settled (h : RecordClosed n r s t) (hk : Settles False t u) (hj : Judged t u) : RecordClosed n r s u := by
  have hlanes : u.lanes = t.lanes := by rw [hj.frame]
  have hups : u.uploads = t.uploads := by rw [hj.frame]
  refine ⟨fun hf x hx => ?_, fun v hv => h.upload v (hups ▸ hv), fun hp d hd m hon hm hl => ?_, fun hp hheld l w hw => ?_⟩
  · obtain ⟨hport, howed⟩ := h.released hf x hx
    refine ⟨fun p hp => ?_, fun hp => ?_⟩
    · rw [hk.port p]
      exact hport p hp
    · obtain ⟨y, hy, hmem⟩ := howed hp
      obtain ⟨z, hz, hyz⟩ := hk.entry _ y hy
      exact ⟨z, hz, hyz.kept.owed _ hmem⟩
  · rw [hlanes]
    exact h.told hp d hd m hon hm hl
  · rw [hlanes] at hw
    exact h.window hp hheld l w hw

/-! The whole ABORT -/

/-- The state the arbiter judges. -/
def abortOffered (h : Nat) (b : Batch) (s : State) : State :=
  offerSlots ((batchSlots s h true).length + (batchSlots s h false).length) (abortClosed h b s)

theorem abortBatch_eq_settle (h : Nat) (b : Batch) (s : State) :
    ∃ es, abortBatch h b s = settle [] es s.lastAlloc (arbitrate (abortOffered h b s)) := abortBatch_eq h b s

/-- A closed batch is given no new record. -/
theorem batch_ne_of_settles {c' : Prop} (h : Settles c' s t) (hb : s.batches.get j = some b) (hc : b.state = .closed)
    (hs : ∀ q ∈ s.sheets, q.2.batch ≠ j) : ∀ q ∈ t.sheets, q.2.batch ≠ j := by
  intro q hq hqj
  rcases h.made q hq with hq | ⟨-, -, hopen⟩
  · exact hs q hq hqj
  · exact hopen b (hqj ▸ hb) hc

theorem get_batches_of_closed {c' : Prop} (h : Settles c' s t) (hb : s.batches.get j = some b) (hc : b.state = .closed) :
    t.batches.get j = some b := by
  obtain ⟨d, hd, hbd⟩ := h.batch j b hb
  rw [hd, hbd.closed hc]

/-- What an ABORT leaves of the batch and the table. -/
theorem abortBatch_batch (he : AbortEnded h b s (abortEnded h b s)) (hh : h < 48) :
    (∀ q ∈ (abortBatch h b s).sheets, q.2.batch ≠ h) ∧
    (abortBatch h b s).batches.get h = some (b.aborted (liveCount s h)) ∧
    (AttnKind.batchClosed ∉ s.room.mask → (.batchClosed, h) ∈ (abortBatch h b s).attention) := by
  obtain ⟨es, habort⟩ := abortBatch_eq_settle h b s
  have hclosed := get_batches_abortClosed he
  have hoffer : Settles False (abortClosed h b s) (abortOffered h b s) := settles_offerSlots _ _
  obtain ⟨u, hu⟩ : ∃ u, arbitrate (abortOffered h b s) = u := ⟨_, rfl⟩
  have harb := offered_arbitrate (abortOffered h b s)
  have hframe := (arbitrated_arbitrate (abortOffered h b s)).frame
  have hsettle : Settles False u (settle [] es s.lastAlloc u) := settles_settle_nil ..
  rw [hu] at harb hframe habort
  rw [habort]
  have hsheets : ∀ q ∈ (abortClosed h b s).sheets, q.2.batch ≠ h := by
    rw [abortClosed_frame]
    exact he.gone
  have hubatch : u.batches.get h = some (b.aborted (liveCount s h)) := by
    have hbatches : u.batches = (abortOffered h b s).batches := by rw [hframe]
    rw [hbatches]
    exact get_batches_of_closed hoffer hclosed rfl
  refine ⟨batch_ne_of_settles hsettle hubatch rfl fun q hq => ?_, get_batches_of_closed hsettle hubatch rfl, fun hk => ?_⟩
  · obtain ⟨r, hr, hqr⟩ := mem_of_bareSheets harb.bare hq
    rw [hqr]
    exact batch_ne_of_settles hoffer hclosed rfl hsheets _ hr
  · refine hsettle.raised _ ?_
    rw [hframe]
    exact hoffer.raised _ (batchClosed_mem_abortClosed he hh hk)

/-- What an ABORT leaves of a record of the batch. -/
theorem abortBatch_record (he : AbortEnded h b s (abortEnded h b s)) (hr : s.sheets.get n = some r) (hb : r.batch = h)
    (hs : r.state ≠ .picking) : RecordClosed n r s (abortBatch h b s) := by
  obtain ⟨es, habort⟩ := abortBatch_eq_settle h b s
  have hoffer : Settles False (abortClosed h b s) (abortOffered h b s) := settles_offerSlots _ _
  have hended := ((he.ended n r hr hb hs).after (retires_abortClosed h b s)).after
    (retires_offerSlots ((batchSlots s h true).length + (batchSlots s h false).length) (abortClosed h b s))
  have hsheets : (abortClosed h b s).sheets = (abortEnded h b s).sheets := by rw [abortClosed_frame]
  rw [habort]
  refine (RecordEnded.arbitrated hended fun a ha hstate => ?_).settled (settles_settle_nil ..) (judged_settle ..)
  rcases hoffer.made (n, a) ha with hmem | ⟨-, ⟨i, j, g, hnew⟩, -⟩
  · rw [hsheets] at hmem
    have hfree := he.free n r hr hb
    exact Tab.get_eq_none.1 hfree (List.mem_map_of_mem (f := Prod.fst) hmem)
  · dsimp only at hnew
    rw [hnew] at hstate
    cases hstate

/-- What an ABORT leaves of the station of the batch. -/
theorem abortBatch_entry (he : AbortEnded h b s (abortEnded h b s)) {i : Nat} (hy : (abortParted h b s).entries.get i = some y) :
    (∃ z, (abortBatch h b s).entries.get i = some z ∧ y.Kept z) ∧
    ∀ p : Fin 16, (abortBatch h b s).ports[p].queues.halt = (abortParted h b s).ports[p].queues.halt := by
  obtain ⟨es, habort⟩ := abortBatch_eq_settle h b s
  have hbefore := (he.retires.trans (retires_abortClosed h b s)).trans
    (retires_offerSlots ((batchSlots s h true).length + (batchSlots s h false).length) (abortClosed h b s))
  have hafter := retires_settle_nil es s.lastAlloc (arbitrate (abortOffered h b s))
  rw [habort]
  refine ⟨?_, fun p => ?_⟩
  · obtain ⟨v, hv, hyv⟩ := hbefore.entry i y hy
    obtain ⟨z, hz, hvz⟩ := hafter.entry i v (by rw [entries_arbitrate]; exact hv)
    exact ⟨z, hz, hyv.trans hvz⟩
  · rw [(hafter.port p).halt, (offered_arbitrate _).port p]
    exact (hbefore.port p).halt

theorem ownAbort_of_closed (hb : batchAt s h = some b) (hc : b.state = .closed) : ownAbort h s = .refuse .wrongState := by
  rw [ownAbort, withBatch_of_some hb, hc]

theorem ownAbort_of_open (hb : batchAt s h = some b) (hc : b.state ≠ .closed) :
    ownAbort h s = .done (abortBatch h b s) (.records (liveCount s h)) := by
  rw [ownAbort, withBatch_of_some hb, length_batchSlots]
  split
  · rfl
  · rfl
  · next hs => exact absurd hs hc

/-- Settles O28, from what each step of the abort leaves. -/
theorem abortRetiresTheBatch : Obligations.AbortRetiresTheBatch := by
  unfold Obligations.AbortRetiresTheBatch
  refine fun h s hs => ⟨fun hb => refuses_of (owner := ownAbort) hs (withBatch_of_none hb), fun b hb =>
    ⟨fun hc => refuses_of (owner := ownAbort) hs (ownAbort_of_closed hb hc), fun hc ht ha => ?_⟩⟩
  obtain ⟨hh, hget⟩ := get_of_batchAt hb
  have he := abortEnded_abortEnded ht ha hget
  obtain ⟨hsheets, hbatch, hattn⟩ := abortBatch_batch he hh
  refine ⟨abortBatch h b s, b.aborted (liveCount s h), replies_of (owner := ownAbort) hs (ownAbort_of_open hb hc), hsheets,
    hbatch, rfl, hattn, fun e x hbound hx => ?_, fun n r hr hrb hstate => ?_⟩
  · have hpart := stationParted_abortStation (h := h) hx
    rw [← abortParted_of_bound hbound] at hpart
    obtain ⟨y, hy, hport, hybound, hfeed, hcause, hpath⟩ := hpart.entry
    obtain ⟨⟨z, hz, hyz⟩, hhalt⟩ := abortBatch_entry he hy
    refine ⟨z, hz, hyz.bound.trans hybound, fun k => hyz.path.symm ▸ hpath k, fun hp => ?_, fun hp hm => ?_, fun hp hf => ?_⟩
    · obtain ⟨hidle, hnone⟩ := Entry.parted_of_empty hp
      exact ⟨(hyz.feed.trans hfeed).trans hidle, (hyz.cause.trans hcause).trans hnone⟩
    · have hmoving : x.feed.moving = true := moving_iff.2 hm
      obtain ⟨hhalted, hab⟩ := Entry.parted_of_moving hp hmoving
      exact ⟨(hyz.feed.trans hfeed).trans hhalted, (hyz.cause.trans hcause).trans hab, fun p hxp =>
        (hhalt p).trans (hpart.halt hp hmoving p hxp)⟩
    · obtain ⟨hstill, hab⟩ := Entry.parted_of_still hp hf
      exact ⟨(hyz.feed.trans hfeed).trans hstill, (hyz.cause.trans hcause).trans hab⟩
  · have hclosed := abortBatch_record he hr hrb hstate
    refine ⟨hclosed.released, hclosed.upload, fun hp => ⟨fun d hd m hon hm hl =>
      hclosed.told hp d hd m (onLane_iff.2 hon) hm hl, fun hheld => hclosed.window hp fun l w hw hslot => ?_⟩⟩
    obtain ⟨d, hd, hlane, hm, hon⟩ := hheld l w hw hslot
    exact ⟨d, hd, hlane, hm, onLane_iff.2 hon⟩

end Sys2Proof.Machine
end
